-- ==== Sys2Proof/Word.lean ====
section
/-! DEFINITION. The word types of the part and the plainest arithmetic on numbers that the rules share. -/

namespace Sys2Proof

/-- One byte of a frame (section 9.7). -/
abbrev Byte := BitVec 8

/-- A two-byte quantity: a frame field, or a calibration word (R147). -/
abbrev Word16 := BitVec 16

/-- "Clamping a value to a range" (00_scope.md, Lesser and greater). -/
def clampInt (lo hi v : Int) : Int := if v < lo then lo else if hi < v then hi else v

/-- The difference of two numbers, whichever is the greater (R88, R164). -/
def distance (a b : Nat) : Nat := (a - b) + (b - a)

theorem clampInt_ge (lo hi v : Int) (h : lo ≤ hi) : lo ≤ clampInt lo hi v := by
  unfold clampInt; split_ifs <;> omega

theorem clampInt_le (lo hi v : Int) (h : lo ≤ hi) : clampInt lo hi v ≤ hi := by
  unfold clampInt; split_ifs <;> omega

end Sys2Proof
end

