-- ==== Sys2Proof/Config.lean ====
section
/-! DEFINITION. The fixed constants of the part, and the one free value: what an analog channel reads before the
first scan. Settings are no constants: they stand in State (R154). -/

namespace Sys2Proof.Config

/-- The reading a block takes of an analog channel (0 to 6, in R161's order) before any scan has been made.
R160 says the scan values are present from the first scan and gives none before it: a free value
(assumption 6). -/
opaque unscanned : Nat → Int

/-- SYNC, section 9.7. -/
def syncByte : Byte := 0xA5#8

/-- The period of scans, of speed measurements and of Stepper updates, in ms (R161, R163, R82). -/
def period : Nat := 50

/-- The window of pulses a measurement counts, in ms (R163). -/
def pulseWindow : Nat := 100

/-- The status timer, in ms (R182). -/
def statusPeriod : Nat := 500

/-- The rundown timer, in ms (R45). -/
def rundownTime : Nat := 60000

/-- The prelube credit, in ms (R60). -/
def creditTime : Nat := 120000

/-- The catch window, in ms (R65). -/
def catchWindow : Nat := 10000

/-- The lube window, in ms (R70). -/
def lubeWindow : Nat := 20000

/-- The greatest gap between two bytes of a frame, in ms (R174). -/
def byteGap : Nat := 10

end Sys2Proof.Config
end

