-- ==== Sys2Proof/Syntax.lean ====
section
/-! DEFINITION. The commands of the part: one constructor of Instr per row of spec/opcode_table.json, with the links,
channels, inputs and order actions they name. -/

namespace Sys2Proof

/-- The four serial links (00_scope.md, How the part is reached). -/
inductive Link where
  | cab | consist | remote | shop
deriving DecidableEq, Repr

/-- One thing per link. -/
structure PerLink (α : Type) where
  cab : α
  consist : α
  remote : α
  shop : α
deriving DecidableEq, Repr

def PerLink.get {α : Type} (p : PerLink α) : Link → α
  | .cab => p.cab
  | .consist => p.consist
  | .remote => p.remote
  | .shop => p.shop

def PerLink.set {α : Type} (p : PerLink α) (l : Link) (v : α) : PerLink α :=
  match l with
  | .cab => { p with cab := v }
  | .consist => { p with consist := v }
  | .remote => { p with remote := v }
  | .shop => { p with shop := v }

def PerLink.all {α : Type} (v : α) : PerLink α := ⟨v, v, v, v⟩

/-- The seven analog channels, in the order of R161. -/
inductive Analog where
  | lube | fuel | coolant | intake | manifold | barometric | battery
deriving DecidableEq, Repr

/-- One thing per analog channel, in the order of R161. -/
structure PerAnalog (α : Type) where
  lube : α
  fuel : α
  coolant : α
  intake : α
  manifold : α
  barometric : α
  battery : α
deriving DecidableEq, Repr

def PerAnalog.get {α : Type} (p : PerAnalog α) : Analog → α
  | .lube => p.lube
  | .fuel => p.fuel
  | .coolant => p.coolant
  | .intake => p.intake
  | .manifold => p.manifold
  | .barometric => p.barometric
  | .battery => p.battery

def PerAnalog.all {α : Type} (v : α) : PerAnalog α := ⟨v, v, v, v, v, v, v⟩

/-- The six discrete inputs, in the order of R167. -/
inductive Input where
  | fuelCutoffLoop | crankcaseSwitch | coolantLevelSwitch | groundRelay | isolateSwitch | brakeAirSwitch
deriving DecidableEq, Repr

/-- One thing per discrete input, in the order of R167. -/
structure PerInput (α : Type) where
  fuelCutoffLoop : α
  crankcaseSwitch : α
  coolantLevelSwitch : α
  groundRelay : α
  isolateSwitch : α
  brakeAirSwitch : α
deriving DecidableEq, Repr

def PerInput.get {α : Type} (p : PerInput α) : Input → α
  | .fuelCutoffLoop => p.fuelCutoffLoop
  | .crankcaseSwitch => p.crankcaseSwitch
  | .coolantLevelSwitch => p.coolantLevelSwitch
  | .groundRelay => p.groundRelay
  | .isolateSwitch => p.isolateSwitch
  | .brakeAirSwitch => p.brakeAirSwitch

def PerInput.set {α : Type} (p : PerInput α) (i : Input) (v : α) : PerInput α :=
  match i with
  | .fuelCutoffLoop => { p with fuelCutoffLoop := v }
  | .crankcaseSwitch => { p with crankcaseSwitch := v }
  | .coolantLevelSwitch => { p with coolantLevelSwitch := v }
  | .groundRelay => { p with groundRelay := v }
  | .isolateSwitch => { p with isolateSwitch := v }
  | .brakeAirSwitch => { p with brakeAirSwitch := v }

/-- One value for each input, by a rule of the input. -/
def PerInput.build {α : Type} (f : Input → α) : PerInput α :=
  ⟨f .fuelCutoffLoop, f .crankcaseSwitch, f .coolantLevelSwitch, f .groundRelay, f .isolateSwitch, f .brakeAirSwitch⟩

/-- One action of an order, its operands as the frame carries them (section 9.7, Order BODY). -/
inductive Action where
  | claim (notch : Byte)
  | release
  | notch (notch : Byte)
  | start (mode : Byte)
  | stop
  | cancel
  | isolate (operand : Byte)
  | layup (operand : Byte)
  | tripReset
  | read (item : Byte) (number : Word16)
  | set (cls : Byte) (number : Word16) (value : Word16)
  | segment (id : Byte) (base limit : Word16) (stride : Byte)
deriving DecidableEq, Repr

/-- One received character: its eight data bits and whether its stop bit was there (R174). -/
structure RxChar where
  byte : Byte
  stopBit : Bool
deriving DecidableEq, Repr

/-- The commands, one constructor per row of spec/opcode_table.json.

`after` is the time in ms that passes before an event of the outside world arrives (assumption 1). An action row
(claim … segment) is the Order Unit's taking of the next order of `link`, an order whose first action is that row's
and whose further actions are `more` (R177, R178; assumption 4). -/
inductive Instr where
  | powerOn (after : Nat) (raw : PerAnalog Int) (levels : PerInput Bool)
  | resetLineAssert (after : Nat)
  | resetLineExit (after : Nat) (raw : PerAnalog Int)
  | frameReceived (after : Nat) (link : Link) (chars : List RxChar)
  | interByteGap (link : Link)
  | frameTransmit (link : Link)
  | statusTimerExpiry (link : Link)
  | claim (link : Link) (notch : Byte) (more : List Action)
  | release (link : Link) (more : List Action)
  | notch (link : Link) (notch : Byte) (more : List Action)
  | start (link : Link) (mode : Byte) (more : List Action)
  | stop (link : Link) (more : List Action)
  | cancel (link : Link) (more : List Action)
  | isolate (link : Link) (operand : Byte) (more : List Action)
  | layup (link : Link) (operand : Byte) (more : List Action)
  | tripReset (link : Link) (more : List Action)
  | read (link : Link) (item : Byte) (number : Word16) (more : List Action)
  | setSetting (link : Link) (number : Word16) (value : Word16) (more : List Action)
  | setWord (link : Link) (cls : Byte) (number : Word16) (value : Word16) (more : List Action)
  | segment (link : Link) (id : Byte) (base limit : Word16) (stride : Byte) (more : List Action)
  | silenceExpiry (link : Link)
  | lapse (link : Link)
  | sensorScan (raw : PerAnalog Int)
  | speedMeasurement
  | flywheelPulse (after : Nat)
  | rawInputEdge (after : Nat) (input : Input) (level : Bool)
  | filteredLevelChange (input : Input)
  | stepperUpdate
  | scheduleFaultOnset
  | prelubeTimerExpiry
  | crankWindowExpiry
  | catchWindowExpiry
  | restTimerExpiry
  | lubeWindowExpiry
  | warmTimerExpiry
  | starterLockoutExpiry
  | prelubeCreditExpiry
  | cooldownExpiry
  | rundownExpiry
  | idleTimerExpiry
  | laidUpEntryJudgement
  | lossOfSupply (after : Nat)
  | frameSentInFull (link : Link)
  | malformedOrder (link : Link)
deriving DecidableEq, Repr

end Sys2Proof
end

