-- ==== Sys2Proof/Decode.lean ====
section
/-! DEFINITION. Reading and writing the bytes of frames: byte order, the CHECK field, the BODY of an order and its
actions, with the encoder beside the decoder; and decodeTableWord, which answers none because no row of
spec/opcode_table.json gives bits. -/

namespace Sys2Proof

/-! ## Bytes -/

/-- The low eight bits of a number, as a byte. -/
def byteOf (n : Nat) : Byte := BitVec.ofNat 8 n

/-- A two-byte value, high byte first (section 9.7). -/
def be16 (n : Nat) : List Byte := [byteOf (n / 256), byteOf n]

/-- A two-byte word, high byte first. -/
def be16Word (w : Word16) : List Byte := be16 w.toNat

/-- A signed quantity in two's complement, high byte first (section 9.7). -/
def be16Int (i : Int) : List Byte := be16Word (BitVec.ofInt 16 i)

/-- The word of two bytes, the first the high one. -/
def wordOf (hi lo : Byte) : Word16 := BitVec.ofNat 16 (hi.toNat * 256 + lo.toNat)

/-! ## The CHECK field (R175) -/

/-- One bit into the check register: the top bit is exclusive-ORed with the data bit, the register moves left by
one, and 0x1021 is applied when that result was 1. -/
def checkBit (reg : Word16) (bit : Bool) : Word16 :=
  if (reg.msb != bit) then (reg <<< 1) ^^^ 0x1021#16 else reg <<< 1

/-- One byte into the check register, most significant bit first. -/
def checkByte (reg : Word16) (b : Byte) : Word16 :=
  [7, 6, 5, 4, 3, 2, 1, 0].foldl (fun r i => checkBit r (b.getLsbD i)) reg

/-- The check of a run of bytes; the register starts at 0xFFFF. -/
def checkOf (bytes : List Byte) : Word16 := bytes.foldl checkByte 0xFFFF#16

/-! ## Frames (section 9.7) -/

def kindOrder : Byte := 1#8
def kindReply : Byte := 2#8
def kindStatus : Byte := 3#8

/-- The fields the check covers: LENGTH, KIND, TAG and BODY. -/
def frameFields (kind tag : Byte) (body : List Byte) : List Byte :=
  byteOf body.length :: kind :: tag :: body

/-- A frame whole: SYNC, the fields, and the check high byte first. -/
def encodeFrame (kind tag : Byte) (body : List Byte) : List Byte :=
  Config.syncByte :: (frameFields kind tag body ++ be16Word (checkOf (frameFields kind tag body)))

/-! ## Orders (section 9.7, Order BODY) -/

/-- What the Order Unit reads from a BODY: the actions, or the action index of a MALFORMED order (R177). -/
inductive ParsedOrder where
  | actions (as : List Action)
  | malformed (index : Nat)
deriving DecidableEq, Repr

/-- How many operand bytes an action code fixes; none for an unknown code. -/
def operandBytes (code : Byte) : Option Nat :=
  match code.toNat with
  | 1 => some 1
  | 2 => some 0
  | 3 => some 1
  | 4 => some 1
  | 5 => some 0
  | 6 => some 0
  | 7 => some 1
  | 8 => some 1
  | 9 => some 0
  | 10 => some 3
  | 11 => some 5
  | 12 => some 6
  | _ => none

/-- The action of a code and its operand bytes. -/
def actionOf (code : Byte) (ops : List Byte) : Option Action :=
  match code.toNat, ops with
  | 1, [n] => some (.claim n)
  | 2, [] => some .release
  | 3, [n] => some (.notch n)
  | 4, [m] => some (.start m)
  | 5, [] => some .stop
  | 6, [] => some .cancel
  | 7, [o] => some (.isolate o)
  | 8, [o] => some (.layup o)
  | 9, [] => some .tripReset
  | 10, [i, nh, nl] => some (.read i (wordOf nh nl))
  | 11, [c, nh, nl, vh, vl] => some (.set c (wordOf nh nl) (wordOf vh vl))
  | 12, [i, bh, bl, lh, ll, st] => some (.segment i (wordOf bh bl) (wordOf lh ll) st)
  | _, _ => none

/-- The actions of a BODY behind its count. `read` is how many action codes have been read so far, `left` how many
actions the count still promises (R177). -/
def parseActions : Nat → Nat → List Byte → ParsedOrder
  | 0, done, rest => if rest = [] then .actions [] else .malformed done
  | left + 1, done, bytes =>
    match bytes with
    | [] => .malformed (max 1 done)
    | code :: rest =>
      match operandBytes code with
      | none => .malformed (done + 1)
      | some k =>
        if rest.length < k then .malformed (done + 1)
        else
          match actionOf code (rest.take k) with
          | none => .malformed (done + 1)
          | some a =>
            match parseActions left (done + 1) (rest.drop k) with
            | .actions as => .actions (a :: as)
            | .malformed i => .malformed i

/-- The reading of a BODY: the action count, 1 to 3, and that many actions (R177). -/
def parseOrder : List Byte → ParsedOrder
  | [] => .malformed 1
  | count :: rest =>
    if 1 ≤ count.toNat ∧ count.toNat ≤ 3 then parseActions count.toNat 0 rest else .malformed 1

/-- The action code (section 9.7). -/
def Action.code : Action → Nat
  | .claim _ => 1
  | .release => 2
  | .notch _ => 3
  | .start _ => 4
  | .stop => 5
  | .cancel => 6
  | .isolate _ => 7
  | .layup _ => 8
  | .tripReset => 9
  | .read _ _ => 10
  | .set _ _ _ => 11
  | .segment _ _ _ _ => 12

/-- The operand bytes of an action (section 9.7). -/
def Action.operands : Action → List Byte
  | .claim n => [n]
  | .notch n => [n]
  | .start m => [m]
  | .isolate o => [o]
  | .layup o => [o]
  | .read i n => i :: be16Word n
  | .set c n v => c :: (be16Word n ++ be16Word v)
  | .segment i b l st => i :: (be16Word b ++ be16Word l ++ [st])
  | .release => []
  | .stop => []
  | .cancel => []
  | .tripReset => []

def Action.encode (a : Action) : List Byte := byteOf a.code :: a.operands

/-- The BODY of an order. -/
def encodeOrder (as : List Action) : List Byte := byteOf as.length :: as.flatMap Action.encode

/-! ## The opcode table -/

/-- The command a word spells by the table's bits. No row of spec/opcode_table.json gives bits. -/
def decodeTableWord (_nbits _w : Nat) : Option Instr := none

end Sys2Proof
end

