-- ==== Sys2Proof/Machine/State.lean ====
section
/-! DEFINITION. The state of the part, block by block, its value right after the POWER-ON exit, and the reasons a step
can stop. Every instant is a count of ms on the clock `now` (assumption 1): a timer is held as the instant at which
it runs out, so that its remaining time is that instant less `now`. -/

namespace Sys2Proof.Machine

/-! ## Sources and authority (01_notch_authority.md) -/

/-- The five sources (R1). -/
inductive Source where
  | cab | consist | remote | shop | protection
deriving DecidableEq, Repr

/-- One thing per source. -/
structure PerSource (α : Type) where
  cab : α
  consist : α
  remote : α
  shop : α
  protection : α
deriving DecidableEq, Repr

def PerSource.get {α : Type} (p : PerSource α) : Source → α
  | .cab => p.cab
  | .consist => p.consist
  | .remote => p.remote
  | .shop => p.shop
  | .protection => p.protection

def PerSource.set {α : Type} (p : PerSource α) (x : Source) (v : α) : PerSource α :=
  match x with
  | .cab => { p with cab := v }
  | .consist => { p with consist := v }
  | .remote => { p with remote := v }
  | .shop => { p with shop := v }
  | .protection => { p with protection := v }

def PerSource.all {α : Type} (v : α) : PerSource α := ⟨v, v, v, v, v⟩

/-- Where a source stands (R2). -/
inductive Place where
  | out | pending | suspended | holding
deriving DecidableEq, Repr

/-- Match-in of the holder (R2). -/
inductive MatchState where
  | matching | matched
deriving DecidableEq, Repr

/-- A source's consent to a layup stop (R2). -/
inductive Permission where
  | permit | forbid
deriving DecidableEq, Repr

/-- An entry of the Authority Table (R2); its last heard time stands in the link's port. -/
structure Entry where
  place : Place
  request : Nat
  mtch : Option MatchState
  held : Option Nat
  permission : Permission
deriving DecidableEq, Repr

/-- The entry of a source outside the collections (R3, R4). -/
def Entry.reset : Entry := ⟨.out, 0, none, none, .forbid⟩

/-- The Authority Arbiter: table, Authority Stack (top first) and Pending List (highest rank first). -/
structure Arbiter where
  table : PerSource Entry
  stack : List Source
  waiting : List Source
deriving DecidableEq, Repr

/-! ## Engine and start (02_engine_states.md, 03_the_start_sequence.md) -/

/-- The start phases (R54); `catching` is CATCH. -/
inductive Phase where
  | prelube | crank | rest | catching | warm
deriving DecidableEq, Repr

/-- The engine states with their substates (R30). -/
inductive EngineState where
  | stopped
  | starting (phase : Phase)
  | running
  | isolated
  | cooldown
  | rundown
  | laidUp
  | tripped
deriving DecidableEq, Repr

inductive StopKind where
  | normal | layup
deriving DecidableEq, Repr

/-- The Engine State Controller (R30). `state` is absent until the choice of R50 and R52, and `awaitingChoice` says
that the choice is still to be made: a TRIPPED engine keeps its state meanwhile (R51). -/
structure Engine where
  state : Option EngineState
  awaitingChoice : Bool
  stopKind : Option StopKind
  isolateFlag : Bool
  layupMark : Bool
  cooldownEnd : Option Nat
  rundownEnd : Option Nat
deriving DecidableEq, Repr

/-- Who began a start (R76). -/
inductive Initiator where
  | source (x : Source)
  | idleReduction
deriving DecidableEq, Repr

inductive StartMode where
  | full | skipPrelube
deriving DecidableEq, Repr

/-- The outcome of a start (R76). -/
inductive StartOutcome where
  | inProgress | runningReached | noPrelubePressure | startFailed | speedErratic | noOilPressure | cancelled | tripped | reset
deriving DecidableEq, Repr

/-- Why an attempt failed (R77). -/
inductive AttemptReason where
  | noFire | stall | noCatch | speedErratic
deriving DecidableEq, Repr

structure Attempt where
  reason : AttemptReason
  peak : Nat
deriving DecidableEq, Repr

/-- The Start Record (R76) but for its two remainders, which stand beside it in the Sequencer (R54). -/
structure StartRecord where
  initiator : Initiator
  mode : StartMode
  furthest : Phase
  outcome : StartOutcome
  attemptsBegun : Nat
  attempts : List Attempt
deriving DecidableEq, Repr

/-- The Start Sequencer (R54); its phase is the substate of the engine state (R31). `timer` is when the phase's timer
runs out: the prelube timer, crank window, catch window, rest timer, lube window (lube not yet seen) or warm timer. -/
structure Sequencer where
  timer : Option Nat
  run : Option Nat
  peak : Option Nat
  lubeMinimum : Option Nat
  warmTime : Option Nat
  lubeSeen : Option Bool
  record : Option StartRecord
  lockoutEnd : Option Nat
  creditEnd : Option Nat
deriving DecidableEq, Repr

/-! ## Stepper (04_notch_stepping_and_load_reference.md) -/

/-- The four load terms and the sag hold of the last load computation (R81). -/
structure LoadTerms where
  ceiling : Nat
  derate : Nat
  factor : Nat
  airLimit : Nat
  sagHold : Bool
deriving DecidableEq, Repr

/-- The Notch Stepper (R81); `nextUpdate` is when its next update falls (R82). -/
structure Stepper where
  target : Nat
  granted : Nat
  dwellMark : Nat
  speedRef : Nat
  loadTarget : Nat
  loadRef : Nat
  terms : Option LoadTerms
  nextUpdate : Nat
deriving DecidableEq, Repr

/-! ## Condition Monitor (05_protective_conditions.md) -/

/-- The thirteen channels, in channel order (R113). -/
inductive Channel where
  | overspeed | lubeLow | crankcase | fuelCutoff | coolantLevel | coolantHot1 | coolantHot2 | intakeHot
  | groundFault | speedSignal | fuelPressureLow | scheduleFault | batteryLow
deriving DecidableEq, Repr

/-- One thing per channel. -/
structure PerChannel (α : Type) where
  overspeed : α
  lubeLow : α
  crankcase : α
  fuelCutoff : α
  coolantLevel : α
  coolantHot1 : α
  coolantHot2 : α
  intakeHot : α
  groundFault : α
  speedSignal : α
  fuelPressureLow : α
  scheduleFault : α
  batteryLow : α
deriving DecidableEq, Repr

def PerChannel.get {α : Type} (p : PerChannel α) : Channel → α
  | .overspeed => p.overspeed
  | .lubeLow => p.lubeLow
  | .crankcase => p.crankcase
  | .fuelCutoff => p.fuelCutoff
  | .coolantLevel => p.coolantLevel
  | .coolantHot1 => p.coolantHot1
  | .coolantHot2 => p.coolantHot2
  | .intakeHot => p.intakeHot
  | .groundFault => p.groundFault
  | .speedSignal => p.speedSignal
  | .fuelPressureLow => p.fuelPressureLow
  | .scheduleFault => p.scheduleFault
  | .batteryLow => p.batteryLow

def PerChannel.set {α : Type} (p : PerChannel α) (c : Channel) (v : α) : PerChannel α :=
  match c with
  | .overspeed => { p with overspeed := v }
  | .lubeLow => { p with lubeLow := v }
  | .crankcase => { p with crankcase := v }
  | .fuelCutoff => { p with fuelCutoff := v }
  | .coolantLevel => { p with coolantLevel := v }
  | .coolantHot1 => { p with coolantHot1 := v }
  | .coolantHot2 => { p with coolantHot2 := v }
  | .intakeHot => { p with intakeHot := v }
  | .groundFault => { p with groundFault := v }
  | .speedSignal => { p with speedSignal := v }
  | .fuelPressureLow => { p with fuelPressureLow := v }
  | .scheduleFault => { p with scheduleFault := v }
  | .batteryLow => { p with batteryLow := v }

def PerChannel.all {α : Type} (v : α) : PerChannel α := ⟨v, v, v, v, v, v, v, v, v, v, v, v, v⟩

/-- What a channel holds beside its place in the Condition List (R112): it is active exactly while it is listed. -/
structure ChannelState where
  armed : Bool
  onset : Nat
  clear : Nat
deriving DecidableEq, Repr

def ChannelState.reset : ChannelState := ⟨false, 0, 0⟩

/-- An entry of the Trip List (R126). -/
structure TripEntry where
  channel : Channel
  state : Option EngineState
deriving DecidableEq, Repr

/-- The Condition Monitor. `conditions` is the Condition List in onset order: a channel's class, ceiling and factor are
fixed (R113), so an entry is its channel. `faultReported` is a faulting lookup of the Stepper or the Sequencer whose
onset the Monitor has still to take (R120, R151; assumption 18). -/
structure Monitor where
  channels : PerChannel ChannelState
  conditions : List Channel
  trips : List TripEntry
  latch : Bool
  faultReported : Bool
deriving DecidableEq, Repr

/-! ## Idle reduction (06_idle_reduction.md) -/

/-- The Idle-Reduction Controller: since when the idle timer runs (R134), and whether the judgement that follows an
entry to LAID_UP is still to be made (R139; assumption 25). -/
structure IdleReduction where
  idleSince : Option Nat
  entryJudgementDue : Bool
deriving DecidableEq, Repr

/-! ## Schedule and settings (07_schedule_segments_and_settings.md) -/

/-- The six segments, in segment id order (R148). -/
inductive SegmentId where
  | notch | ambient | prelubeTime | warmTime | lubeMin | condLimits
deriving DecidableEq, Repr

/-- One thing per segment. -/
structure PerSegment (α : Type) where
  notch : α
  ambient : α
  prelubeTime : α
  warmTime : α
  lubeMin : α
  condLimits : α
deriving DecidableEq, Repr

def PerSegment.get {α : Type} (p : PerSegment α) : SegmentId → α
  | .notch => p.notch
  | .ambient => p.ambient
  | .prelubeTime => p.prelubeTime
  | .warmTime => p.warmTime
  | .lubeMin => p.lubeMin
  | .condLimits => p.condLimits

def PerSegment.set {α : Type} (p : PerSegment α) (g : SegmentId) (v : α) : PerSegment α :=
  match g with
  | .notch => { p with notch := v }
  | .ambient => { p with ambient := v }
  | .prelubeTime => { p with prelubeTime := v }
  | .warmTime => { p with warmTime := v }
  | .lubeMin => { p with lubeMin := v }
  | .condLimits => { p with condLimits := v }

/-- An entry of the Segment Table (R148). -/
structure SegmentEntry where
  base : Nat
  limit : Nat
  stride : Nat
  faultMark : Bool
deriving DecidableEq, Repr

/-- The thirty settings (R154), each the value or the code that a SET carries. -/
structure Settings where
  rankCab : Nat
  rankConsist : Nat
  rankRemote : Nat
  rankShop : Nat
  silenceCab : Nat
  silenceConsist : Nat
  silenceRemote : Nat
  silenceShop : Nat
  rampUp : Nat
  rampDown : Nat
  airGain : Nat
  airFloor : Nat
  cooldownTime : Nat
  crankWindow : Nat
  crankAttempts : Nat
  crankRest : Nat
  starterLockout : Nat
  erraticPolicy : Nat
  idleLimit : Nat
  wakeBattery : Nat
  wakeCoolant : Nat
  wakeBrakeAir : Nat
  inputFilter : Nat
  flywheelTeeth : Nat
  levelFuelCutoffLoop : Nat
  levelCrankcaseSwitch : Nat
  levelCoolantLevelSwitch : Nat
  levelGroundRelay : Nat
  levelIsolateSwitch : Nat
  levelBrakeAirSwitch : Nat
deriving DecidableEq, Repr

/-- The defaults of R154. -/
def Settings.factory : Settings where
  rankCab := 4
  rankConsist := 3
  rankRemote := 2
  rankShop := 1
  silenceCab := 2000
  silenceConsist := 3000
  silenceRemote := 6000
  silenceShop := 10000
  rampUp := 2
  rampDown := 10
  airGain := 96
  airFloor := 150
  cooldownTime := 120
  crankWindow := 15
  crankAttempts := 3
  crankRest := 30
  starterLockout := 600
  erraticPolicy := 0
  idleLimit := 900
  wakeBattery := 1
  wakeCoolant := 1
  wakeBrakeAir := 1
  inputFilter := 40
  flywheelTeeth := 120
  levelFuelCutoffLoop := 1
  levelCrankcaseSwitch := 0
  levelCoolantLevelSwitch := 1
  levelGroundRelay := 0
  levelIsolateSwitch := 0
  levelBrakeAirSwitch := 1

/-- The Schedule Store and the Settings Store. `words` lists, by rising index, the calibration words that differ from
their factory value; every other word of the 512 reads as the factory wrote it (R147). -/
structure Store where
  words : List (Nat × Word16)
  segments : PerSegment SegmentEntry
  settings : Settings
deriving DecidableEq, Repr

/-- The factory entries of the Segment Table (R148). -/
def PerSegment.factory : PerSegment SegmentEntry where
  notch := ⟨0, 36, 4, false⟩
  ambient := ⟨40, 48, 6, false⟩
  prelubeTime := ⟨96, 8, 1, false⟩
  warmTime := ⟨104, 8, 1, false⟩
  lubeMin := ⟨112, 10, 1, false⟩
  condLimits := ⟨128, 12, 2, false⟩

def Store.factory : Store := ⟨[], PerSegment.factory, Settings.factory⟩

/-! ## Sensor Front End (08_sensing_and_discrete_inputs.md) -/

inductive SpeedQuality where
  | good | erratic | lost
deriving DecidableEq, Repr

/-- One discrete input: its raw level (true is high), its selected and filtered levels (true is active), and since when
its stability timing runs (R160, R167, R168). -/
structure InputState where
  raw : Bool
  selected : Bool
  filtered : Bool
  since : Option Nat
deriving DecidableEq, Repr

/-- The Sensor Front End (R160). `pulses` holds the instants of the pulses not yet out of the window (R163),
`nextScan` and `nextMeasurement` when the next scan and the next measurement fall (R161, R163). -/
structure FrontEnd where
  scan : Option (PerAnalog Int)
  clamped : PerAnalog Bool
  pulses : List Nat
  pulseCount : Nat
  measured : Option Nat
  previous : Option Nat
  quality : SpeedQuality
  reported : Nat
  settled : Nat
  jumpRun : Nat
  silenceRun : Nat
  recoveryRun : Nat
  inputs : PerInput InputState
  nextScan : Nat
  nextMeasurement : Nat
deriving DecidableEq, Repr

/-! ## Link Ports (09_orders_replies_and_status_frames.md) -/

/-- A received byte with the instant of its receipt (R174). -/
structure RxByte where
  byte : Byte
  at_ : Nat
deriving DecidableEq, Repr

inductive AssemblerState where
  | hunt | frame
deriving DecidableEq, Repr

/-- A reply ready to be sent: the whole frame, and its place in the order in which the port's replies were made (R176). -/
structure ReadyReply where
  made : Nat
  bytes : List Byte
deriving DecidableEq, Repr

/-- An order of the queue: its TAG and BODY as received, and its reply once the Order Unit has taken it (R176). -/
structure QueuedOrder where
  tag : Byte
  body : List Byte
  reply : Option ReadyReply
deriving DecidableEq, Repr

/-- What a frame on the line is (R176). -/
inductive SentKind where
  | status | full | reply
deriving DecidableEq, Repr

/-- The frame on the line, and when its first byte began (R176, R183). -/
structure SendingFrame where
  kind : SentKind
  bytes : List Byte
  begun : Nat
deriving DecidableEq, Repr

/-- A Link Port (R173). `made` counts the replies made, `silent` says the present silence has been reported (R21),
`lapseWaiting` that a reported lapse is still to be taken by the Arbiter (R22). -/
structure Port where
  assembler : AssemblerState
  buffer : List RxByte
  lastByteAt : Nat
  queue : List QueuedOrder
  fulls : List ReadyReply
  made : Nat
  statusEnd : Nat
  statusDue : Bool
  sending : Option SendingFrame
  lapseMark : Bool
  lastHeard : Nat
  silent : Bool
  lapseWaiting : Bool
deriving DecidableEq, Repr

/-- A port at the exit of a reset taken at `t`, its lapse mark as given (R173, R21). -/
def Port.fresh (t : Nat) (lapseMark : Bool) : Port where
  assembler := .hunt
  buffer := []
  lastByteAt := t
  queue := []
  fulls := []
  made := 0
  statusEnd := t + Config.statusPeriod
  statusDue := false
  sending := none
  lapseMark := lapseMark
  lastHeard := t
  silent := false
  lapseWaiting := false

/-- The outputs of the part: four contactor drivers and two current loops (R184). -/
structure Outputs where
  starter : Bool
  prelube : Bool
  fuelRun : Bool
  alert : Bool
  governor : Nat
  excitation : Nat
deriving DecidableEq, Repr

/-! ## The whole part -/

/-- The part. `now` is the clock, `supply` whether it is powered, `resetSince` when RESET-LINE was asserted if it is. -/
structure State where
  now : Nat
  supply : Bool
  resetSince : Option Nat
  ports : PerLink Port
  arbiter : Arbiter
  engine : Engine
  sequencer : Sequencer
  stepper : Stepper
  monitor : Monitor
  idle : IdleReduction
  store : Store
  frontEnd : FrontEnd
  outputs : Outputs
  pending : List Instr
deriving DecidableEq, Repr

/-- Nothing in the model faults: the part has no address space that can be missed, and no rule stops it. -/
inductive Fault where
deriving DecidableEq, Repr

/-- Why a command is refused. -/
inductive Refusal where
  /-- Raised by exec's arm of a row that has no meaning yet (none has this arm). Safe: the machine stops. -/
  | notModelled (mnemonic : String)
deriving DecidableEq, Repr

/-! ## The values after POWER-ON -/

/-- R3. -/
def Arbiter.reset : Arbiter := ⟨PerSource.all Entry.reset, [], []⟩

/-- R50. -/
def Engine.reset : Engine := ⟨none, true, none, false, false, none, none⟩

/-- R78. -/
def Sequencer.reset : Sequencer := ⟨none, none, none, none, none, none, none, none, none⟩

/-- R109, at an exit at instant `t`; the first update follows 50 ms later (assumption 17). -/
def Stepper.reset (t : Nat) : Stepper := ⟨0, 0, t, 0, 0, 0, none, t + Config.period⟩

/-- R130. -/
def Monitor.reset : Monitor := ⟨PerChannel.all ChannelState.reset, [], [], false, false⟩

/-- R145. -/
def IdleReduction.reset : IdleReduction := ⟨none, false⟩

/-- R171, at an exit at instant `t`: the first scan falls at the exit and the first measurement 100 ms after it. -/
def FrontEnd.reset (t : Nat) (inputs : PerInput InputState) : FrontEnd where
  scan := none
  clamped := PerAnalog.all false
  pulses := []
  pulseCount := 0
  measured := none
  previous := none
  quality := .good
  reported := 0
  settled := 0
  jumpRun := 0
  silenceRun := 0
  recoveryRun := 0
  inputs := inputs
  nextScan := t
  nextMeasurement := t + Config.pulseWindow

/-- R50, R56, R109, R125. -/
def Outputs.reset : Outputs := ⟨false, false, false, false, 0, 0⟩

/-- The part at the POWER-ON exit at instant `t`, before its first scan: every block at its POWER-ON values, with the
nonvolatile contents of `store` (R158), the fault marks clear (R151). -/
def State.poweredUp (t : Nat) (store : Store) (inputs : PerInput InputState) (pending : List Instr) : State where
  now := t
  supply := true
  resetSince := none
  ports := PerLink.all (Port.fresh t false)
  arbiter := Arbiter.reset
  engine := Engine.reset
  sequencer := Sequencer.reset
  stepper := Stepper.reset t
  monitor := Monitor.reset
  idle := IdleReduction.reset
  store := store
  frontEnd := FrontEnd.reset t inputs
  outputs := Outputs.reset
  pending := pending

/-- The discrete inputs with no raw level that reads active through the default INPUT_LEVEL settings: the ACTIVE_LOW
inputs high, the ACTIVE_HIGH inputs low (assumption 5). -/
def PerInput.quiet : PerInput InputState where
  fuelCutoffLoop := ⟨true, false, false, none⟩
  crankcaseSwitch := ⟨false, false, false, none⟩
  coolantLevelSwitch := ⟨true, false, false, none⟩
  groundRelay := ⟨false, false, false, none⟩
  isolateSwitch := ⟨false, false, false, none⟩
  brakeAirSwitch := ⟨true, false, false, none⟩

/-- The part right after its first POWER-ON, with the contents the factory left in it and its clock at 0. -/
def State.reset : State := State.poweredUp 0 Store.factory PerInput.quiet []

end Sys2Proof.Machine
end

