-- ==== Sys2Proof/Machine/Store.lean ====
section
/-! DEFINITION. The calibration words, the Segment Table and the settings: the factory tables, reading and writing a
word, a lookup with its limit check, built-in value and clamp (R147 to R151), and the settings by number (R154). -/

namespace Sys2Proof.Machine

/-! ## The factory tables (R147) -/

/-- R84, notch 0 to 8: scheduled speed, load ceiling, step dwell, speed tolerance. -/
def notchTable : List Int :=
  [330, 0, 0, 25, 330, 60, 1000, 25, 410, 160, 2000, 25] ++
  [490, 280, 2000, 25, 570, 410, 2500, 30, 650, 550, 2500, 30] ++
  [730, 690, 3000, 30, 810, 840, 3000, 35, 900, 1000, 3500, 35]

/-- R100, intake band 0 to 7, each as barometric band 0 to 5. -/
def ambientTable : List Int :=
  [1000, 1000, 980, 960, 930, 900, 1000, 1000, 980, 960, 930, 900] ++
  [1000, 990, 970, 950, 920, 890, 990, 980, 960, 940, 910, 880] ++
  [970, 960, 940, 910, 880, 850, 940, 930, 910, 880, 850, 820] ++
  [900, 890, 870, 840, 810, 780, 850, 840, 820, 790, 760, 730]

/-- R57, coolant band 0 to 7, in s. -/
def prelubeTable : List Int := [180, 150, 120, 90, 60, 45, 30, 20]

/-- R57, coolant band 0 to 7, in s. -/
def warmTable : List Int := [300, 240, 180, 120, 60, 30, 15, 10]

/-- R115, speed band 0 to 9, in kPa. -/
def lubeTable : List Int := [0, 40, 60, 100, 120, 140, 160, 180, 200, 220]

/-- R114, onset then clear, row 0 to 5. -/
def limitsTable : List Int := [1010, 950, 98, 95, 104, 100, 60, 55, 200, 230, 64, 68]

/-- What the factory wrote at a word index (R147). -/
def factoryValue (i : Nat) : Int :=
  if i < 36 then notchTable.getD i 0
  else if 40 ≤ i ∧ i < 88 then ambientTable.getD (i - 40) 0
  else if 96 ≤ i ∧ i < 104 then prelubeTable.getD (i - 96) 0
  else if 104 ≤ i ∧ i < 112 then warmTable.getD (i - 104) 0
  else if 112 ≤ i ∧ i < 122 then lubeTable.getD (i - 112) 0
  else if 128 ≤ i ∧ i < 140 then limitsTable.getD (i - 128) 0
  else 0

def factoryWord (i : Nat) : Word16 := BitVec.ofInt 16 (factoryValue i)

/-! ## The calibration words -/

/-- The word at an index: the listed one, else what the factory wrote. -/
def readWord : List (Nat × Word16) → Nat → Word16
  | [], i => factoryWord i
  | (a, w) :: rest, i => if a = i then w else readWord rest i

/-- A cell to stand before `rest`, left out when it holds what an unlisted index reads as. -/
def consWord (i : Nat) (v : Word16) (rest : List (Nat × Word16)) : List (Nat × Word16) :=
  if v = factoryWord i then rest else (i, v) :: rest

/-- Writing a word keeps the cells in rising order and lists none that holds its factory value. -/
def writeWord : List (Nat × Word16) → Nat → Word16 → List (Nat × Word16)
  | [], i, v => consWord i v []
  | (a, w) :: rest, i, v =>
    if i < a then consWord i v ((a, w) :: rest)
    else if i = a then consWord i v rest
    else (a, w) :: writeWord rest i v

/-- The canonical form: indexes at least `low`, strictly rising and below 512, no cell at its factory value. -/
def wordsWellFormedFrom : Nat → List (Nat × Word16) → Bool
  | _, [] => true
  | low, (a, w) :: rest => decide (low ≤ a ∧ a < 512 ∧ w ≠ factoryWord a) && wordsWellFormedFrom (a + 1) rest

/-- The canonical form of the calibration words. -/
def wordsWellFormed (cells : List (Nat × Word16)) : Bool := wordsWellFormedFrom 0 cells

def Store.word (st : Store) (i : Nat) : Word16 := readWord st.words i

/-! ## Lookups (R149, R150) -/

/-- The items that a lookup reads (R150). -/
inductive Item where
  | scheduledSpeed | loadCeiling | stepDwell | speedTolerance | ambientDerate | prelubeTime | warmTime
  | lubeMinimum | threshold
deriving DecidableEq, Repr

/-- A lookup: the item, the row and the column. -/
structure Lookup where
  item : Item
  row : Nat
  col : Nat
deriving DecidableEq, Repr

/-- The segment of an item (R150). -/
def Item.segment : Item → SegmentId
  | .scheduledSpeed => .notch
  | .loadCeiling => .notch
  | .stepDwell => .notch
  | .speedTolerance => .notch
  | .ambientDerate => .ambient
  | .prelubeTime => .prelubeTime
  | .warmTime => .warmTime
  | .lubeMinimum => .lubeMin
  | .threshold => .condLimits

/-- The clamp range of a threshold row (R114). -/
def thresholdRange : Nat → Int × Int
  | 0 => (0, 1500)
  | 1 => (-50, 150)
  | 2 => (-50, 150)
  | 3 => (-50, 120)
  | 4 => (0, 1000)
  | _ => (0, 150)

/-- The clamp range of an item (R85, R150). -/
def Lookup.range (k : Lookup) : Int × Int :=
  match k.item with
  | .scheduledSpeed => (250, 1000)
  | .loadCeiling => (0, 1000)
  | .stepDwell => (0, 10000)
  | .speedTolerance => (5, 100)
  | .ambientDerate => (0, 1000)
  | .prelubeTime => (0, 600)
  | .warmTime => (0, 600)
  | .lubeMinimum => (0, 1000)
  | .threshold => thresholdRange k.row

/-- The built-in value: what the factory wrote at that row and column of the factory segment (R150). -/
def Lookup.builtIn (k : Lookup) : Int :=
  factoryValue ((PerSegment.factory.get k.item.segment).base
    + k.row * (PerSegment.factory.get k.item.segment).stride + k.col)

/-- The offset of a lookup through the segment's present entry (R149, step 1). -/
def Store.offset (st : Store) (k : Lookup) : Nat := k.row * (st.segments.get k.item.segment).stride + k.col

/-- The limit check (R149, step 3). -/
def Store.faults (st : Store) (k : Lookup) : Bool :=
  decide ((st.segments.get k.item.segment).limit ≤ st.offset k)

/-- The value found, before the clamp (R149, steps 2 and 3). -/
def Store.found (st : Store) (k : Lookup) : Int :=
  if st.faults k then k.builtIn else (st.word ((st.segments.get k.item.segment).base + st.offset k)).toInt

/-- The value a lookup returns (R149, step 4). -/
def Store.look (st : Store) (k : Lookup) : Int := clampInt k.range.1 k.range.2 (st.found k)

/-- The scheduled speed of a notch (R84). -/
def speedLookup (notch : Nat) : Lookup := ⟨.scheduledSpeed, notch, 0⟩
/-- The load ceiling of a notch (R84). -/
def ceilingLookup (notch : Nat) : Lookup := ⟨.loadCeiling, notch, 1⟩
/-- The step dwell of a notch (R84). -/
def dwellLookup (notch : Nat) : Lookup := ⟨.stepDwell, notch, 2⟩
/-- The speed tolerance of a notch (R84). -/
def toleranceLookup (notch : Nat) : Lookup := ⟨.speedTolerance, notch, 3⟩
/-- The ambient derate of two bands (R100). -/
def derateLookup (intakeBand baroBand : Nat) : Lookup := ⟨.ambientDerate, intakeBand, baroBand⟩
/-- The prelube time of a coolant band (R57). -/
def prelubeLookup (band : Nat) : Lookup := ⟨.prelubeTime, band, 0⟩
/-- The warm time of a coolant band (R57). -/
def warmLookup (band : Nat) : Lookup := ⟨.warmTime, band, 0⟩
/-- The lube minimum of a speed band (R115). -/
def lubeLookup (band : Nat) : Lookup := ⟨.lubeMinimum, band, 0⟩
/-- A threshold: column 0 the onset threshold, column 1 the clear threshold (R114). -/
def thresholdLookup (row col : Nat) : Lookup := ⟨.threshold, row, col⟩

def Store.scheduledSpeed (st : Store) (notch : Nat) : Nat := (st.look (speedLookup notch)).toNat
def Store.loadCeiling (st : Store) (notch : Nat) : Nat := (st.look (ceilingLookup notch)).toNat
def Store.stepDwell (st : Store) (notch : Nat) : Nat := (st.look (dwellLookup notch)).toNat
def Store.speedTolerance (st : Store) (notch : Nat) : Nat := (st.look (toleranceLookup notch)).toNat

/-! ## The fault marks (R151) -/

/-- The fault mark of the segment of a faulting lookup is set. -/
def Store.markFault (st : Store) (k : Lookup) : Store :=
  if st.faults k then
    { st with segments :=
        (st.segments.set k.item.segment ({ st.segments.get k.item.segment with faultMark := true })) }
  else st

/-- The fault marks of all the faulting lookups of an event. -/
def Store.markFaults (st : Store) (ks : List Lookup) : Store := ks.foldl Store.markFault st

def SegmentEntry.clearMark (e : SegmentEntry) : SegmentEntry := { e with faultMark := false }

/-- Every fault mark cleared. -/
def Store.clearMarks (st : Store) : Store :=
  { st with segments := ⟨st.segments.notch.clearMark, st.segments.ambient.clearMark,
      st.segments.prelubeTime.clearMark, st.segments.warmTime.clearMark, st.segments.lubeMin.clearMark,
      st.segments.condLimits.clearMark⟩ }

/-- The segment of a segment id (R148). -/
def SegmentId.ofNum : Nat → Option SegmentId
  | 0 => some .notch
  | 1 => some .ambient
  | 2 => some .prelubeTime
  | 3 => some .warmTime
  | 4 => some .lubeMin
  | 5 => some .condLimits
  | _ => none

/-! ## The settings (R154) -/

/-- The settings, in the order of their numbers (R154). -/
inductive Setting where
  | rankCab
  | rankConsist
  | rankRemote
  | rankShop
  | silenceCab
  | silenceConsist
  | silenceRemote
  | silenceShop
  | rampUp
  | rampDown
  | airGain
  | airFloor
  | cooldownTime
  | crankWindow
  | crankAttempts
  | crankRest
  | starterLockout
  | erraticPolicy
  | idleLimit
  | wakeBattery
  | wakeCoolant
  | wakeBrakeAir
  | inputFilter
  | flywheelTeeth
  | levelFuelCutoffLoop
  | levelCrankcaseSwitch
  | levelCoolantLevelSwitch
  | levelGroundRelay
  | levelIsolateSwitch
  | levelBrakeAirSwitch
deriving DecidableEq, Repr

/-- The setting number (R154). -/
def Setting.num : Setting → Nat
  | .rankCab => 1
  | .rankConsist => 2
  | .rankRemote => 3
  | .rankShop => 4
  | .silenceCab => 5
  | .silenceConsist => 6
  | .silenceRemote => 7
  | .silenceShop => 8
  | .rampUp => 9
  | .rampDown => 10
  | .airGain => 11
  | .airFloor => 12
  | .cooldownTime => 13
  | .crankWindow => 14
  | .crankAttempts => 15
  | .crankRest => 16
  | .starterLockout => 17
  | .erraticPolicy => 18
  | .idleLimit => 19
  | .wakeBattery => 20
  | .wakeCoolant => 21
  | .wakeBrakeAir => 22
  | .inputFilter => 23
  | .flywheelTeeth => 24
  | .levelFuelCutoffLoop => 25
  | .levelCrankcaseSwitch => 26
  | .levelCoolantLevelSwitch => 27
  | .levelGroundRelay => 28
  | .levelIsolateSwitch => 29
  | .levelBrakeAirSwitch => 30

/-- The setting of a number, none outside 1 to 30 (R156, check 1). -/
def Setting.ofNum : Nat → Option Setting
  | 1 => some .rankCab
  | 2 => some .rankConsist
  | 3 => some .rankRemote
  | 4 => some .rankShop
  | 5 => some .silenceCab
  | 6 => some .silenceConsist
  | 7 => some .silenceRemote
  | 8 => some .silenceShop
  | 9 => some .rampUp
  | 10 => some .rampDown
  | 11 => some .airGain
  | 12 => some .airFloor
  | 13 => some .cooldownTime
  | 14 => some .crankWindow
  | 15 => some .crankAttempts
  | 16 => some .crankRest
  | 17 => some .starterLockout
  | 18 => some .erraticPolicy
  | 19 => some .idleLimit
  | 20 => some .wakeBattery
  | 21 => some .wakeCoolant
  | 22 => some .wakeBrakeAir
  | 23 => some .inputFilter
  | 24 => some .flywheelTeeth
  | 25 => some .levelFuelCutoffLoop
  | 26 => some .levelCrankcaseSwitch
  | 27 => some .levelCoolantLevelSwitch
  | 28 => some .levelGroundRelay
  | 29 => some .levelIsolateSwitch
  | 30 => some .levelBrakeAirSwitch
  | _ => none

def Settings.get (s : Settings) : Setting → Nat
  | .rankCab => s.rankCab
  | .rankConsist => s.rankConsist
  | .rankRemote => s.rankRemote
  | .rankShop => s.rankShop
  | .silenceCab => s.silenceCab
  | .silenceConsist => s.silenceConsist
  | .silenceRemote => s.silenceRemote
  | .silenceShop => s.silenceShop
  | .rampUp => s.rampUp
  | .rampDown => s.rampDown
  | .airGain => s.airGain
  | .airFloor => s.airFloor
  | .cooldownTime => s.cooldownTime
  | .crankWindow => s.crankWindow
  | .crankAttempts => s.crankAttempts
  | .crankRest => s.crankRest
  | .starterLockout => s.starterLockout
  | .erraticPolicy => s.erraticPolicy
  | .idleLimit => s.idleLimit
  | .wakeBattery => s.wakeBattery
  | .wakeCoolant => s.wakeCoolant
  | .wakeBrakeAir => s.wakeBrakeAir
  | .inputFilter => s.inputFilter
  | .flywheelTeeth => s.flywheelTeeth
  | .levelFuelCutoffLoop => s.levelFuelCutoffLoop
  | .levelCrankcaseSwitch => s.levelCrankcaseSwitch
  | .levelCoolantLevelSwitch => s.levelCoolantLevelSwitch
  | .levelGroundRelay => s.levelGroundRelay
  | .levelIsolateSwitch => s.levelIsolateSwitch
  | .levelBrakeAirSwitch => s.levelBrakeAirSwitch

def Settings.set (s : Settings) (k : Setting) (v : Nat) : Settings :=
  match k with
  | .rankCab => { s with rankCab := v }
  | .rankConsist => { s with rankConsist := v }
  | .rankRemote => { s with rankRemote := v }
  | .rankShop => { s with rankShop := v }
  | .silenceCab => { s with silenceCab := v }
  | .silenceConsist => { s with silenceConsist := v }
  | .silenceRemote => { s with silenceRemote := v }
  | .silenceShop => { s with silenceShop := v }
  | .rampUp => { s with rampUp := v }
  | .rampDown => { s with rampDown := v }
  | .airGain => { s with airGain := v }
  | .airFloor => { s with airFloor := v }
  | .cooldownTime => { s with cooldownTime := v }
  | .crankWindow => { s with crankWindow := v }
  | .crankAttempts => { s with crankAttempts := v }
  | .crankRest => { s with crankRest := v }
  | .starterLockout => { s with starterLockout := v }
  | .erraticPolicy => { s with erraticPolicy := v }
  | .idleLimit => { s with idleLimit := v }
  | .wakeBattery => { s with wakeBattery := v }
  | .wakeCoolant => { s with wakeCoolant := v }
  | .wakeBrakeAir => { s with wakeBrakeAir := v }
  | .inputFilter => { s with inputFilter := v }
  | .flywheelTeeth => { s with flywheelTeeth := v }
  | .levelFuelCutoffLoop => { s with levelFuelCutoffLoop := v }
  | .levelCrankcaseSwitch => { s with levelCrankcaseSwitch := v }
  | .levelCoolantLevelSwitch => { s with levelCoolantLevelSwitch := v }
  | .levelGroundRelay => { s with levelGroundRelay := v }
  | .levelIsolateSwitch => { s with levelIsolateSwitch := v }
  | .levelBrakeAirSwitch => { s with levelBrakeAirSwitch := v }

/-- The range of a setting (R154). -/
def Setting.inRange (k : Setting) (v : Nat) : Bool :=
  match k with
  | .rankCab => decide (1 ≤ v ∧ v ≤ 6)
  | .rankConsist => decide (1 ≤ v ∧ v ≤ 6)
  | .rankRemote => decide (1 ≤ v ∧ v ≤ 6)
  | .rankShop => decide (1 ≤ v ∧ v ≤ 6)
  | .silenceCab => decide (200 ≤ v ∧ v ≤ 30000 ∧ v % 100 = 0)
  | .silenceConsist => decide (200 ≤ v ∧ v ≤ 30000 ∧ v % 100 = 0)
  | .silenceRemote => decide (200 ≤ v ∧ v ≤ 30000 ∧ v % 100 = 0)
  | .silenceShop => decide (200 ≤ v ∧ v ≤ 30000 ∧ v % 100 = 0)
  | .rampUp => decide (1 ≤ v ∧ v ≤ 50)
  | .rampDown => decide (1 ≤ v ∧ v ≤ 200)
  | .airGain => decide (v ≤ 255)
  | .airFloor => decide (v ≤ 1000)
  | .cooldownTime => decide (v ≤ 600)
  | .crankWindow => decide (5 ≤ v ∧ v ≤ 30)
  | .crankAttempts => decide (1 ≤ v ∧ v ≤ 5)
  | .crankRest => decide (10 ≤ v ∧ v ≤ 120)
  | .starterLockout => decide (60 ≤ v ∧ v ≤ 1800)
  | .erraticPolicy => decide (v ≤ 1)
  | .idleLimit => decide (60 ≤ v ∧ v ≤ 3600)
  | .wakeBattery => decide (v ≤ 1)
  | .wakeCoolant => decide (v ≤ 1)
  | .wakeBrakeAir => decide (v ≤ 1)
  | .inputFilter => decide (10 ≤ v ∧ v ≤ 500)
  | .flywheelTeeth => decide (60 ≤ v ∧ v ≤ 240)
  | .levelFuelCutoffLoop => decide (v ≤ 2)
  | .levelCrankcaseSwitch => decide (v ≤ 2)
  | .levelCoolantLevelSwitch => decide (v ≤ 2)
  | .levelGroundRelay => decide (v ≤ 2)
  | .levelIsolateSwitch => decide (v ≤ 2)
  | .levelBrakeAirSwitch => decide (v ≤ 2)

/-- The groups of R154 and R155. -/
inductive WriteGroup where
  | link | limit | restricted | schedule
deriving DecidableEq, Repr

/-- The group of a setting (R154). -/
def Setting.group : Setting → WriteGroup
  | .rankCab => .link
  | .rankConsist => .link
  | .rankRemote => .link
  | .rankShop => .link
  | .silenceCab => .link
  | .silenceConsist => .link
  | .silenceRemote => .link
  | .silenceShop => .link
  | .rampUp => .limit
  | .rampDown => .limit
  | .airGain => .limit
  | .airFloor => .limit
  | .cooldownTime => .limit
  | .crankWindow => .limit
  | .crankAttempts => .limit
  | .crankRest => .limit
  | .starterLockout => .limit
  | .erraticPolicy => .limit
  | .idleLimit => .limit
  | .wakeBattery => .limit
  | .wakeCoolant => .limit
  | .wakeBrakeAir => .limit
  | .inputFilter => .limit
  | .flywheelTeeth => .restricted
  | .levelFuelCutoffLoop => .restricted
  | .levelCrankcaseSwitch => .restricted
  | .levelCoolantLevelSwitch => .restricted
  | .levelGroundRelay => .restricted
  | .levelIsolateSwitch => .restricted
  | .levelBrakeAirSwitch => .restricted


/-- The rank setting of a link (R1). -/
def rankSetting : Link → Setting
  | .cab => .rankCab
  | .consist => .rankConsist
  | .remote => .rankRemote
  | .shop => .rankShop

/-- The silence limit setting of a link (R21). -/
def silenceSetting : Link → Setting
  | .cab => .silenceCab
  | .consist => .silenceConsist
  | .remote => .silenceRemote
  | .shop => .silenceShop

/-- The INPUT_LEVEL setting of an input (R154). -/
def levelSetting : Input → Setting
  | .fuelCutoffLoop => .levelFuelCutoffLoop
  | .crankcaseSwitch => .levelCrankcaseSwitch
  | .coolantLevelSwitch => .levelCoolantLevelSwitch
  | .groundRelay => .levelGroundRelay
  | .isolateSwitch => .levelIsolateSwitch
  | .brakeAirSwitch => .levelBrakeAirSwitch

/-- The input an INPUT_LEVEL setting belongs to, none for any other setting. -/
def Setting.inputOf : Setting → Option Input
  | .levelFuelCutoffLoop => some .fuelCutoffLoop
  | .levelCrankcaseSwitch => some .crankcaseSwitch
  | .levelCoolantLevelSwitch => some .coolantLevelSwitch
  | .levelGroundRelay => some .groundRelay
  | .levelIsolateSwitch => some .isolateSwitch
  | .levelBrakeAirSwitch => some .brakeAirSwitch
  | _ => none

/-- The link a rank setting belongs to, none for any other setting. -/
def Setting.rankOf : Setting → Option Link
  | .rankCab => some .cab
  | .rankConsist => some .consist
  | .rankRemote => some .remote
  | .rankShop => some .shop
  | _ => none

/-- The link a silence limit belongs to, none for any other setting. -/
def Setting.silenceOf : Setting → Option Link
  | .silenceCab => some .cab
  | .silenceConsist => some .consist
  | .silenceRemote => some .remote
  | .silenceShop => some .shop
  | _ => none

/-- Whether a setting is a wake enable (R139). -/
def Setting.isWakeEnable : Setting → Bool
  | .wakeBattery => true
  | .wakeCoolant => true
  | .wakeBrakeAir => true
  | _ => false

end Sys2Proof.Machine
end

