-- ==== Sys2Proof/Machine/Ops.lean ====
section
/-! DEFINITION. The shared operations over the whole state: the clock, whether the part acts, taking a reading,
making lookups, and the link of a source. -/

namespace Sys2Proof.Machine

/-- The part acts: it is powered and RESET-LINE is not asserted (R51, R161, R173). -/
def State.live (s : State) : Bool := s.supply && s.resetSince.isNone

/-- `ms` of real time pass: only the clock moves, for every timer is held as an instant (assumption 1). -/
def State.elapse (s : State) (ms : Nat) : State := { s with now := s.now + ms }

/-- A timed event is taken no earlier than its own instant `t` (assumption 2). -/
def State.reach (s : State) (t : Nat) : State := { s with now := max s.now t }

/-- Whether an Order Unit may take orders: the part acts and the engine state has been chosen (R50, R176). -/
def State.orderUnitOpen (s : State) : Bool := s.live && !s.engine.awaitingChoice

/-- The source of a link (R1). -/
def sourceOf : Link → Source
  | .cab => .cab
  | .consist => .consist
  | .remote => .remote
  | .shop => .shop

/-- The range of an analog channel (R161). -/
def analogRange : Analog → Int × Int
  | .lube => (0, 1000)
  | .fuel => (0, 1000)
  | .coolant => (-50, 150)
  | .intake => (-50, 120)
  | .manifold => (0, 400)
  | .barometric => (50, 110)
  | .battery => (0, 150)

/-- The place of a channel in R161's order. -/
def analogNum : Analog → Nat
  | .lube => 0
  | .fuel => 1
  | .coolant => 2
  | .intake => 3
  | .manifold => 4
  | .barometric => 5
  | .battery => 6

/-- A raw reading brought into its channel's range (R162). -/
def clampReading (c : Analog) (raw : Int) : Int := clampInt (analogRange c).1 (analogRange c).2 raw

/-- The value of a channel that a block reads: that of the most recent scan (R161), a free value in the channel's
range before any scan (assumption 6). -/
def State.reading (s : State) (c : Analog) : Int :=
  match s.frontEnd.scan with
  | some v => v.get c
  | none => clampReading c (Config.unscanned (analogNum c))

/-- The filtered level of an input (R167). -/
def State.filtered (s : State) (i : Input) : Bool := (s.frontEnd.inputs.get i).filtered

/-- The settings in force. -/
def State.settings (s : State) : Settings := s.store.settings

/-- The lookups that a block makes in an event: each faulting one sets its segment's fault mark (R151). -/
def State.marked (s : State) (ks : List Lookup) : State := { s with store := s.store.markFaults ks }

/-- Whether one of an event's lookups faults. -/
def State.anyFaults (s : State) (ks : List Lookup) : Bool := ks.any s.store.faults

/-- The lookups that the Stepper or the Sequencer makes in an event. A fault is reported to the Monitor, which takes
the onset as an event of its own (R120, R151); with the latch set the report has no effect (R151). -/
def State.lookedUp (s : State) (ks : List Lookup) : State :=
  { s.marked ks with
    monitor := { s.monitor with faultReported := s.monitor.faultReported || (s.anyFaults ks && !s.monitor.latch) } }

/-- The scheduled speed of notch 0 (R84). -/
def State.idleSpeed (s : State) : Nat := s.store.scheduledSpeed 0

end Sys2Proof.Machine
end

