-- ==== Sys2Proof/Machine/Authority.lean ====
section
/-! DEFINITION. The Authority Arbiter: ranks, the Authority Stack and the Pending List, gaining and losing authority,
the authority notch, PROTECTION and the successor (01_notch_authority.md). -/

namespace Sys2Proof.Machine

/-! ## Ranks (R1) -/

def State.rank (s : State) : Source → Nat
  | .protection => 0
  | .cab => s.settings.rankCab
  | .consist => s.settings.rankConsist
  | .remote => s.settings.rankRemote
  | .shop => s.settings.rankShop

/-- "A outranks B" (00_scope.md, Sources and rank). -/
def State.outranks (s : State) (a b : Source) : Bool := decide (s.rank a < s.rank b)

/-! ## The table and the collections -/

def State.entry (s : State) (x : Source) : Entry := s.arbiter.table.get x

def State.withEntry (s : State) (x : Source) (e : Entry) : State :=
  { s with arbiter := { s.arbiter with table := s.arbiter.table.set x e } }

def State.withStack (s : State) (st : List Source) : State := { s with arbiter := { s.arbiter with stack := st } }

def State.withWaiting (s : State) (w : List Source) : State := { s with arbiter := { s.arbiter with waiting := w } }

/-- The holder: the top of the Authority Stack (R7). -/
def State.holder (s : State) : Option Source := s.arbiter.stack.head?

/-- The holder's entry. -/
def State.holderEntry (s : State) : Option Entry := s.holder.map s.entry

/-- The notch of a holding entry: a MATCHING holder's is the lesser of its request and its held notch (R11). -/
def Entry.drivenNotch (e : Entry) : Nat :=
  match e.mtch with
  | some .matching => min e.request (e.held.getD 0)
  | _ => e.request

/-- The authority notch (R11). -/
def State.authorityNotch (s : State) : Nat :=
  match s.holder with
  | none => 0
  | some .protection => 0
  | some x => (s.entry x).drivenNotch

/-- What the Arbiter presents to its neighbours (R12). -/
structure Presented where
  holder : Option Source
  mtch : Option MatchState
  notch : Nat
  permission : Option Permission
deriving DecidableEq, Repr

def State.presented (s : State) : Presented where
  holder := s.holder
  mtch := s.holderEntry.bind Entry.mtch
  notch := s.authorityNotch
  permission := s.holderEntry.map Entry.permission

/-! ## Gaining authority, and being set aside -/

/-- The entry of a source that gains authority with the granted notch `granted` (R8). -/
def Entry.gain (e : Entry) (granted : Nat) : Entry :=
  if e.request ≤ granted then { e with place := .holding, mtch := some .matched, held := none }
  else { e with place := .holding, mtch := some .matching, held := some granted }

/-- The entry of a holder that is set aside (R10). -/
def Entry.setAside (e : Entry) : Entry := { e with place := .suspended, mtch := none, held := none }

def State.gain (s : State) (x : Source) : State := s.withEntry x ((s.entry x).gain s.stepper.granted)

/-- The present top, if any, becomes SUSPENDED (R7, R10). -/
def State.setTopAside (s : State) : State :=
  match s.holder with
  | none => s
  | some x => s.withEntry x (s.entry x).setAside

/-- A push: the previous top is set aside, and the pushed source gains authority (R7, R8). -/
def State.pushSource (s : State) (x : Source) : State :=
  ((s.setTopAside).withStack (x :: s.arbiter.stack)).gain x

/-- The Pending List with a source at its rank position (R6). -/
def State.insertByRank (s : State) (x : Source) : List Source → List Source
  | [] => [x]
  | y :: rest => if s.outranks x y then x :: y :: rest else y :: s.insertByRank x rest

/-- The source joins the Pending List (R6). -/
def State.pend (s : State) (x : Source) : State :=
  (s.withWaiting (s.insertByRank x s.arbiter.waiting)).withEntry x { s.entry x with place := .pending }

/-! ## Leaving, and who holds next -/

/-- The source taken out of both collections, its entry as after POWER-ON (R4). -/
def State.removeSource (s : State) (x : Source) : State :=
  (((s.withStack (s.arbiter.stack.filter (· != x))).withWaiting (s.arbiter.waiting.filter (· != x)))).withEntry
    x Entry.reset

/-- The highest pending source is promoted onto the stack (R20). -/
def State.promote (s : State) (p : Source) : State :=
  (s.withWaiting (s.arbiter.waiting.filter (· != p))).pushSource p

/-- After the holder has been popped: the highest pending source or the new top gains authority (R20). -/
def State.resumeHolder (s : State) : State :=
  match s.arbiter.waiting.head?, s.arbiter.stack.head? with
  | some p, none => s.promote p
  | some p, some t => if s.outranks p t then s.promote p else s.gain t
  | none, some t => s.gain t
  | none, none => s

/-- The source leaves the collections by a RELEASE, a lapse or a TRIP_RESET (R19, R20). -/
def State.releaseSource (s : State) (x : Source) : State :=
  match (s.entry x).place with
  | .out => s
  | .pending => s.removeSource x
  | .suspended => s.removeSource x
  | .holding => (s.removeSource x).resumeHolder

/-! ## PROTECTION (R24, R26) -/

/-- PROTECTION's claim at a delivered trip onset (R24). -/
def State.protectionClaim (s : State) : State :=
  if (s.entry .protection).place = .holding then s
  else (s.withEntry .protection { s.entry .protection with request := 0, permission := .forbid }).pushSource .protection

/-- The source that would hold if PROTECTION were popped (R26); none while PROTECTION does not hold. -/
def State.successor (s : State) : Option Source :=
  match s.arbiter.stack with
  | .protection :: beneath =>
    match s.arbiter.waiting.head?, beneath.head? with
    | some p, none => some p
    | some p, some t => if s.outranks p t then some p else some t
    | none, t => t
  | _ => none

/-- Whether a source stands in the Authority Stack or the Pending List. -/
def State.claimed (s : State) (x : Source) : Bool := s.arbiter.stack.contains x || s.arbiter.waiting.contains x

/-! ## The effects of the authority actions -/

/-- An accepted CLAIM (R16). -/
def State.claimEffect (s : State) (x : Source) (notch : Nat) : State :=
  match s.holder with
  | none => (s.withEntry x { s.entry x with request := notch }).pushSource x
  | some top =>
    if s.outranks x top then (s.withEntry x { s.entry x with request := notch }).pushSource x
    else (s.withEntry x { s.entry x with request := notch }).pend x

/-- An entry after an accepted NOTCH: a MATCHING holder that shows its held notch or less becomes MATCHED (R9, R18). -/
def Entry.showNotch (e : Entry) (notch : Nat) : Entry :=
  if e.mtch = some .matching ∧ notch ≤ e.held.getD 0 then
    { e with request := notch, mtch := some .matched, held := none }
  else { e with request := notch }

/-- An accepted NOTCH (R18). -/
def State.notchEffect (s : State) (x : Source) (notch : Nat) : State := s.withEntry x ((s.entry x).showNotch notch)

/-- An accepted LAYUP (R23, R179). -/
def State.layupEffect (s : State) (x : Source) (p : Permission) : State :=
  s.withEntry x { s.entry x with permission := p }

end Sys2Proof.Machine
end

