-- ==== Sys2Proof/Machine/Flags.lean ====
section
/-! DEFINITION. The derived levels: each channel's class, ceiling, factor and arming, the ceiling notch, the restraint
factor and ALERT (05_protective_conditions.md), the selected level of a discrete input (R167), the loop currents (R184). -/

namespace Sys2Proof.Machine

/-! ## The channels (R113, R121) -/

/-- The channels in channel order. -/
def Channel.order : List Channel :=
  [.overspeed, .lubeLow, .crankcase, .fuelCutoff, .coolantLevel, .coolantHot1, .coolantHot2, .intakeHot,
   .groundFault, .speedSignal, .fuelPressureLow, .scheduleFault, .batteryLow]

/-- The threshold channels in channel order (R112). -/
def Channel.thresholds : List Channel :=
  [.overspeed, .lubeLow, .coolantHot1, .coolantHot2, .intakeHot, .fuelPressureLow, .batteryLow]

/-- The channel number (R113). -/
def Channel.num : Channel → Nat
  | .overspeed => 1
  | .lubeLow => 2
  | .crankcase => 3
  | .fuelCutoff => 4
  | .coolantLevel => 5
  | .coolantHot1 => 6
  | .coolantHot2 => 7
  | .intakeHot => 8
  | .groundFault => 9
  | .speedSignal => 10
  | .fuelPressureLow => 11
  | .scheduleFault => 12
  | .batteryLow => 13

inductive ChannelClass where
  | trip | restraint | notice
deriving DecidableEq, Repr

def Channel.cls : Channel → ChannelClass
  | .overspeed => .trip
  | .lubeLow => .trip
  | .crankcase => .trip
  | .fuelCutoff => .trip
  | .coolantLevel => .trip
  | .coolantHot1 => .restraint
  | .coolantHot2 => .restraint
  | .intakeHot => .restraint
  | .groundFault => .restraint
  | .speedSignal => .restraint
  | .fuelPressureLow => .restraint
  | .scheduleFault => .restraint
  | .batteryLow => .notice

/-- The ceiling and the factor of a RESTRAINT; none for the other classes (R113). -/
def Channel.restraint : Channel → Option (Nat × Nat)
  | .coolantHot1 => some (6, 850)
  | .coolantHot2 => some (0, 0)
  | .intakeHot => some (8, 800)
  | .groundFault => some (0, 0)
  | .speedSignal => some (0, 0)
  | .fuelPressureLow => some (4, 1000)
  | .scheduleFault => some (0, 1000)
  | .overspeed => none
  | .lubeLow => none
  | .crankcase => none
  | .fuelCutoff => none
  | .coolantLevel => none
  | .batteryLow => none

/-- The input a discrete channel follows (R118). -/
def Channel.input : Channel → Option Input
  | .crankcase => some .crankcaseSwitch
  | .fuelCutoff => some .fuelCutoffLoop
  | .coolantLevel => some .coolantLevelSwitch
  | .groundFault => some .groundRelay
  | _ => none

/-- The channel a discrete input feeds (R167). -/
def channelOf : Input → Option Channel
  | .crankcaseSwitch => some .crankcase
  | .fuelCutoffLoop => some .fuelCutoff
  | .coolantLevelSwitch => some .coolantLevel
  | .groundRelay => some .groundFault
  | .isolateSwitch => none
  | .brakeAirSwitch => none

/-- WARM, RUNNING and ISOLATED, where the restraints are armed (R121). -/
def EngineState.armsRestraints : EngineState → Bool
  | .starting .warm => true
  | .running => true
  | .isolated => true
  | _ => false

/-- CATCH to RUNDOWN, where OVERSPEED and CRANKCASE are armed (R121). -/
def EngineState.turnsUnderPower : EngineState → Bool
  | .starting .catching => true
  | .starting .warm => true
  | .running => true
  | .isolated => true
  | .cooldown => true
  | .rundown => true
  | _ => false

/-- The arming table (R121). -/
def Channel.armedIn (c : Channel) (st : EngineState) : Bool :=
  match c with
  | .overspeed => st.turnsUnderPower
  | .crankcase => st.turnsUnderPower
  | .lubeLow => st == .running || st == .isolated || st == .cooldown
  | .speedSignal => st == .running || st == .isolated
  | .coolantHot1 => st.armsRestraints
  | .coolantHot2 => st.armsRestraints
  | .intakeHot => st.armsRestraints
  | .groundFault => st.armsRestraints
  | .fuelPressureLow => st.armsRestraints
  | .fuelCutoff => true
  | .coolantLevel => true
  | .scheduleFault => true
  | .batteryLow => true

/-! ## Ceiling notch, restraint factor and ALERT (R124, R125) -/

/-- The least of a bound and the ceilings of the listed restraints. -/
def ceilingOf (cs : List Channel) : Nat :=
  cs.foldr (fun c n => match c.restraint with | some (ceil, _) => min ceil n | none => n) 8

/-- The least of 1000 and the factors of the listed restraints. -/
def factorOf (cs : List Channel) : Nat :=
  cs.foldr (fun c n => match c.restraint with | some (_, f) => min f n | none => n) 1000

def State.ceilingNotch (s : State) : Nat := ceilingOf s.monitor.conditions

def State.restraintFactor (s : State) : Nat := factorOf s.monitor.conditions

/-- The level ALERT takes (R125). -/
def State.alertLevel (s : State) : Bool := !s.monitor.conditions.isEmpty || !s.monitor.trips.isEmpty

/-! ## Discrete inputs (R167) -/

/-- The selected level of a raw level through an INPUT_LEVEL code: 0 ACTIVE_HIGH, 1 ACTIVE_LOW, 2 IGNORED. -/
def selectedLevel (code : Nat) (raw : Bool) : Bool :=
  if code = 0 then raw else if code = 1 then !raw else false

/-! ## Outputs (R184) -/

/-- The current of GOVERNOR or EXCITATION in microamperes: 4 mA plus 16 mA times the value divided by 1000. -/
def loopMicroamps (value : Nat) : Nat := 4000 + 16 * value

end Sys2Proof.Machine
end

