-- ==== Sys2Proof/Machine/Engine.lean ====
section
/-! DEFINITION. The Engine State Controller: entering a state with FUEL_RUN, isolation, stops, the end of a rundown
and the choice of the state after a reset (02_engine_states.md). -/

namespace Sys2Proof.Machine

/-- The level of FUEL_RUN in a state (R30, R31). -/
def EngineState.fuel : EngineState → Bool
  | .stopped => false
  | .starting .prelube => false
  | .starting .crank => true
  | .starting .rest => false
  | .starting .catching => true
  | .starting .warm => true
  | .running => true
  | .isolated => true
  | .cooldown => true
  | .rundown => false
  | .laidUp => false
  | .tripped => false

/-- STARTING in any phase. -/
def EngineState.isStarting : EngineState → Bool
  | .starting _ => true
  | _ => false

/-- The granted notch, the target and both loads at 0 and the load terms absent (R93); the dwell mark moves only when
the granted notch takes a different value (R81). -/
def State.unload (s : State) : State :=
  { s with stepper := { s.stepper with
      target := 0
      granted := 0
      dwellMark := if s.stepper.granted = 0 then s.stepper.dwellMark else s.now
      loadTarget := 0
      loadRef := 0
      terms := none } }

/-- The engine enters a state or substate, FUEL_RUN with it (R31); leaving RUNNING unloads the engine (R32, R93). -/
def State.enter (s : State) (st : EngineState) : State :=
  let s1 : State := { s with
    engine := { s.engine with state := some st }
    outputs := { s.outputs with fuelRun := st.fuel } }
  if s.engine.state = some .running ∧ st ≠ .running then s1.unload else s1

def State.withStopKind (s : State) (k : Option StopKind) : State := { s with engine := { s.engine with stopKind := k } }

def State.withLayupMark (s : State) (b : Bool) : State := { s with engine := { s.engine with layupMark := b } }

/-- Both engine timers discarded. -/
def State.dropTimers (s : State) : State :=
  { s with engine := { s.engine with cooldownEnd := none, rundownEnd := none } }

/-! ## Isolation (R41) -/

def State.isolationInForce (s : State) : Bool := s.engine.isolateFlag || s.filtered .isolateSwitch

/-- The engine enters running: ISOLATED if isolation is in force, else RUNNING (R38, R40, R52). -/
def State.enterRunning (s : State) : State := s.enter (if s.isolationInForce then .isolated else .running)

/-- Isolation judged in RUNNING and ISOLATED; in any other state a change has no effect (R41). -/
def State.judgeIsolation (s : State) : State :=
  if s.engine.state = some .running ∧ s.isolationInForce = true then s.enter .isolated
  else if s.engine.state = some .isolated ∧ s.isolationInForce = false then s.enter .running
  else s

/-! ## Stops (R36, R43, R45, R46) -/

/-- STOPPING/RUNDOWN with the rundown timer at 60 s, the stop kind as it stands (R45). -/
def State.enterRundown (s : State) : State :=
  let s1 := s.enter .rundown
  { s1 with engine := { s1.engine with cooldownEnd := none, rundownEnd := some (s.now + Config.rundownTime) } }

/-- STOPPING/COOLDOWN with the cool-down timer at COOLDOWN_TIME (R36, R43). -/
def State.enterCooldown (s : State) : State :=
  let s1 := s.enter .cooldown
  { s1 with engine := { s1.engine with cooldownEnd := some (s.now + s.settings.cooldownTime * 1000) } }

/-- The beginning of a stop from RUNNING or ISOLATED (R36, R46). -/
def State.beginStop (s : State) (k : StopKind) : State :=
  if 1 ≤ s.settings.cooldownTime then (s.withStopKind (some k)).enterCooldown
  else (s.withStopKind (some k)).enterRundown

/-- The engine in RUNNING or ISOLATED. -/
def State.runs (s : State) : Bool := s.engine.state == some .running || s.engine.state == some .isolated

/-- A layup request (R46). -/
def State.layupRequest (s : State) : State := if s.runs then s.beginStop .layup else s

/-- The cool-down expiry: fuel cut, RUNDOWN, the stop kind unchanged (R43). -/
def State.endCooldown (s : State) : State := s.enterRundown

/-- The end of the rundown: LAID_UP with the mark set for a layup stop, else STOPPED with the mark clear (R45, R138).
Each entry to LAID_UP is followed by a judgement of its own (R139). -/
def State.endRundown (s : State) : State :=
  if s.engine.stopKind = some .layup then
    let s1 := (((s.dropTimers).withStopKind none).withLayupMark true).enter .laidUp
    { s1 with idle := { s1.idle with entryJudgementDue := true } }
  else (((s.dropTimers).withStopKind none).withLayupMark false).enter .stopped

/-- A failed or cancelled start: RUNDOWN if rotating or fuelled, else STOPPED (R42). -/
def State.failedStart (s : State) : State :=
  if 20 ≤ s.frontEnd.reported ∨ s.outputs.fuelRun = true then (s.withStopKind (some .normal)).enterRundown
  else s.enter .stopped

/-! ## The accepted engine actions -/

/-- An accepted STOP (R36, R37). -/
def State.stopEffect (s : State) : State :=
  match s.engine.state with
  | some .laidUp => (s.withLayupMark false).enter .stopped
  | some .running => s.beginStop .normal
  | some .isolated => s.beginStop .normal
  | _ => s.withStopKind (some .normal)

/-- A CANCEL accepted in STOPPING/COOLDOWN (R38). -/
def State.cancelCooldown (s : State) : State := ((s.dropTimers).withStopKind none).enterRunning

/-- An accepted ISOLATE (R39). -/
def State.isolateEffect (s : State) (on : Bool) : State :=
  ({ s with engine := { s.engine with isolateFlag := on } } : State).judgeIsolation

/-! ## The choice after a reset (R50, R52) -/

/-- The engine state is chosen at the first speed measurement after the exit. After POWER-ON the Trip List is empty,
FUEL_RUN off and the layup mark clear, and the cases of R52 are then those of R50. -/
def State.chooseState (s : State) : State :=
  let s1 : State := { s with engine := { s.engine with awaitingChoice := false } }
  if s.monitor.trips ≠ [] then s1.enter .tripped
  else if s.outputs.fuelRun = true then
    if 280 ≤ s.frontEnd.reported then s1.enterRunning
    else (s1.withStopKind (some .normal)).enterRundown
  else if 20 ≤ s.frontEnd.reported then
    (s1.withStopKind (some (if s.engine.layupMark then .layup else .normal))).enterRundown
  else if s.engine.layupMark then
    let s2 := s1.enter .laidUp
    { s2 with idle := { s2.idle with entryJudgementDue := true } }
  else s1.enter .stopped

end Sys2Proof.Machine
end

