-- ==== Sys2Proof/Machine/Starter.lean ====
section
/-! DEFINITION. The Start Sequencer: coolant bands, the entry to each phase, failed attempts, the end of a start, and
its tests at scans and measurements (03_the_start_sequence.md). -/

namespace Sys2Proof.Machine

/-! ## Bands -/

/-- The coolant band of a temperature (R57). -/
def coolantBand (t : Int) : Nat :=
  if t < -30 then 0
  else if t < -20 then 1
  else if t < -10 then 2
  else if t < 0 then 3
  else if t < 10 then 4
  else if t < 30 then 5
  else if t < 50 then 6
  else 7

/-- The speed band of a speed: the hundreds, with 9 the greatest (R70, R115). -/
def speedBand (rpm : Nat) : Nat := min 9 (rpm / 100)

/-! ## The record and the phase -/

def State.withRecord (s : State) (f : StartRecord → StartRecord) : State :=
  { s with sequencer := { s.sequencer with record := s.sequencer.record.map f } }

def Phase.num : Phase → Nat
  | .prelube => 1
  | .crank => 2
  | .rest => 3
  | .catching => 4
  | .warm => 5

/-- The later of two phases, in the order PRELUBE, CRANK, REST, CATCH, WARM (R56). -/
def Phase.later (a b : Phase) : Phase := if a.num < b.num then b else a

/-- STARTER and PRELUBE of a phase (R56). -/
def Phase.outputs : Phase → Bool × Bool
  | .prelube => (false, true)
  | .crank => (true, true)
  | .catching => (false, true)
  | .rest => (false, true)
  | .warm => (false, false)

def State.withStartOutputs (s : State) (starter prelube : Bool) : State :=
  { s with outputs := { s.outputs with starter := starter, prelube := prelube } }

/-- A phase is entered: its outputs, the substate with FUEL_RUN, and the furthest phase reached (R31, R56). -/
def State.enterPhase (s : State) (p : Phase) : State :=
  ((s.enter (.starting p)).withStartOutputs p.outputs.1 p.outputs.2).withRecord
    fun r => { r with furthest := r.furthest.later p }

/-- No phase timer and no phase item (R54, R72). -/
def Sequencer.idle (q : Sequencer) : Sequencer :=
  { q with timer := none, run := none, peak := none, lubeMinimum := none, warmTime := none, lubeSeen := none }

/-! ## The end of a start (R72) -/

def State.startLockout (s : State) : State :=
  { s with sequencer := { s.sequencer with lockoutEnd := some (s.now + s.settings.starterLockout * 1000) } }

/-- Steps 1 to 4 of R72: outputs off, phase items discarded, the outcome recorded, the lockout of a START_FAILED. -/
def State.closeStart (s : State) (o : StartOutcome) : State :=
  let s1 : State := { s.withStartOutputs false false with sequencer := s.sequencer.idle }
  let s2 := s1.withRecord fun r => { r with outcome := o }
  if o = .startFailed then s2.startLockout else s2

/-- The end of a start: R72's steps, the last of them the report that the Controller takes (R40, R42). -/
def State.endStart (s : State) (o : StartOutcome) : State :=
  match o with
  | .runningReached => (s.closeStart o).enterRunning
  | .tripped => s.closeStart o
  | .reset => s.closeStart o
  | .inProgress => s.closeStart o
  | .noPrelubePressure => (s.closeStart o).failedStart
  | .startFailed => (s.closeStart o).failedStart
  | .speedErratic => (s.closeStart o).failedStart
  | .noOilPressure => (s.closeStart o).failedStart
  | .cancelled => (s.closeStart o).failedStart

/-! ## The phases -/

/-- Entry to CRANK (R61). -/
def State.enterCrank (s : State) : State :=
  let s1 : State := { s with sequencer := { s.sequencer with
    timer := some (s.now + s.settings.crankWindow * 1000)
    run := some 0
    peak := some s.frontEnd.reported } }
  (s1.withRecord fun r => { r with attemptsBegun := r.attemptsBegun + 1 }).enterPhase .crank

/-- The prelube check (R59). -/
def State.prelubeCheck (s : State) : State :=
  if 30 ≤ s.reading .lube then
    ({ s with sequencer := { s.sequencer with creditEnd := some (s.now + Config.creditTime) } } : State).enterCrank
  else s.endStart .noPrelubePressure

/-- The duration of PRELUBE, in s (R57). -/
def State.prelubeDuration (s : State) : Nat :=
  (s.store.look (prelubeLookup (coolantBand (s.reading .coolant)))).toNat

/-- PRELUBE as the first phase of a start, its duration not looked up yet (R35, R58). -/
def State.openPrelube (s : State) : State := s.enterPhase .prelube

/-- The PRELUBE_TIME lookup of a start, with its report, and the prelube timer; a duration of 0 s expires in the entering
event (R57, R58, R149). A start cancelled in the order that began it makes the lookup alone (assumption 27). -/
def State.timePrelube (s : State) : State :=
  let d := s.prelubeDuration
  let s1 := s.lookedUp [prelubeLookup (coolantBand (s.reading .coolant))]
  if s.engine.state = some (.starting .prelube) then
    let s2 : State := { s1 with sequencer := { s1.sequencer with timer := some (s.now + d * 1000) } }
    if d = 0 then s2.prelubeCheck else s2
  else s1

/-- Entry to CATCH (R65). -/
def State.enterCatch (s : State) : State :=
  ({ s with sequencer := { s.sequencer with timer := some (s.now + Config.catchWindow), run := some 0 } } : State).enterPhase
    .catching

/-- Entry to REST (R68). -/
def State.enterRest (s : State) : State :=
  ({ s with sequencer := { s.sequencer with
      timer := some (s.now + s.settings.crankRest * 1000), run := none, peak := none } } : State).enterPhase .rest

/-- The warm time of the present coolant band, in s (R57, R70). -/
def State.warmDuration (s : State) : Nat :=
  (s.store.look (warmLookup (coolantBand (s.reading .coolant)))).toNat

/-- The lube minimum of the idle speed band (R70). -/
def State.idleLubeMinimum (s : State) : Nat := (s.store.look (lubeLookup (speedBand s.idleSpeed))).toNat

/-- Entry to WARM (R70). -/
def State.enterWarm (s : State) : State :=
  let s1 := s.lookedUp [warmLookup (coolantBand (s.reading .coolant)), speedLookup 0, lubeLookup (speedBand s.idleSpeed)]
  ({ s1 with sequencer := { s1.sequencer with
      timer := some (s.now + Config.lubeWindow)
      run := none
      peak := none
      lubeMinimum := some s.idleLubeMinimum
      warmTime := some s.warmDuration
      lubeSeen := some false } } : State).enterPhase .warm

/-- The warm timer's expiry (R71). -/
def State.warmCheck (s : State) : State :=
  if (s.sequencer.lubeMinimum.getD 0 : Int) ≤ s.reading .lube then s.endStart .runningReached
  else s.endStart .noOilPressure

/-! ## Failed attempts (R67) -/

/-- The Attempt List of the present start. -/
def State.attempts (s : State) : List Attempt := (s.sequencer.record.map StartRecord.attempts).getD []

/-- The failed attempt appended, where the list is below CRANK_ATTEMPTS (R67, step 2). -/
def State.appendAttempt (s : State) (why : AttemptReason) : State :=
  if s.attempts.length < s.settings.crankAttempts then
    s.withRecord fun r => { r with attempts := r.attempts ++ [⟨why, s.sequencer.peak.getD 0⟩] }
  else s

/-- A failed attempt (R67): REST, or the end of the start when no attempt is left. -/
def State.failAttempt (s : State) (why : AttemptReason) : State :=
  let s1 := s.appendAttempt why
  if s1.attempts.length < s.settings.crankAttempts then s1.enterRest else s1.endStart .startFailed

/-! ## The beginning of a start (R55) -/

def StartRecord.begun (who : Initiator) (mode : StartMode) (first : Phase) : StartRecord :=
  ⟨who, mode, first, .inProgress, 0, []⟩

/-- A start is begun: the record replaced, the first phase entered; the layup mark is cleared (R35, R47). The duration
of a PRELUBE is still to be looked up, by `State.timePrelube`. -/
def State.openStart (s : State) (who : Initiator) (mode : StartMode) : State :=
  let first : Phase := match mode with | .full => .prelube | .skipPrelube => .crank
  let s1 : State := { s.withLayupMark false with
    sequencer := { s.sequencer with record := some (StartRecord.begun who mode first) } }
  match mode with
  | .full => s1.openPrelube
  | .skipPrelube => s1.enterCrank

/-- A FULL start begun outside an order, its PRELUBE timed at once (R47, R55, R58). -/
def State.beginFull (s : State) (who : Initiator) : State := (s.openStart who .full).timePrelube

/-! ## Measurements and scans -/

/-- The attempt peak after a measurement (R61). -/
def State.raisePeak (s : State) : State :=
  { s with sequencer := { s.sequencer with peak := some (max (s.sequencer.peak.getD 0) s.frontEnd.reported) } }

def State.withRun (s : State) (n : Nat) : State := { s with sequencer := { s.sequencer with run := some n } }

/-- The speed test of CRANK (R62). -/
def State.firingTest (s : State) : Bool :=
  s.frontEnd.quality == .good && decide (160 ≤ s.frontEnd.measured.getD 0)

/-- A measurement in CRANK; `was` is the speed quality before it (R62, R64). -/
def State.crankMeasurement (s : State) (was : SpeedQuality) : State :=
  let s1 := s.raisePeak
  if was = .good ∧ s.frontEnd.quality = .lost then s1.endStart .speedErratic
  else if was = .good ∧ s.frontEnd.quality = .erratic then
    if s.settings.erraticPolicy = 1 then s1.failAttempt .speedErratic else s1.endStart .speedErratic
  else if s.firingTest then
    let n := s.sequencer.run.getD 0 + 1
    if 6 ≤ n then s1.enterCatch else s1.withRun n
  else s1.withRun 0

/-- A measurement in CATCH (R65, R66). -/
def State.catchMeasurement (s : State) : State :=
  let s1 := s.raisePeak
  if 280 ≤ s.frontEnd.reported then s1.enterWarm
  else if s.frontEnd.reported < 60 then
    let n := s.sequencer.run.getD 0 + 1
    if 3 ≤ n then s1.failAttempt .stall else s1.withRun n
  else s1.withRun 0

/-- The test that ends REST once its timer has expired (R68). -/
def State.restTest (s : State) : State :=
  if s.sequencer.timer = none ∧ s.frontEnd.reported < 20 then s.enterCrank else s

/-- A scan in WARM with the lube not yet seen (R70); a warm time of 0 s expires in the same event. -/
def State.lubeComparison (s : State) : State :=
  if s.engine.state = some (.starting .warm) ∧ s.sequencer.lubeSeen = some false ∧
      (s.sequencer.lubeMinimum.getD 0 : Int) ≤ s.reading .lube then
    let s1 : State := { s with sequencer := { s.sequencer with
      lubeSeen := some true
      timer := some (s.now + s.sequencer.warmTime.getD 0 * 1000) } }
    if s.sequencer.warmTime.getD 0 = 0 then s1.warmCheck else s1
  else s

end Sys2Proof.Machine
end

