-- ==== Sys2Proof/Machine/Monitor.lean ====
section
/-! DEFINITION. The Condition Monitor: onset and clearing, the trip and its deliveries, arming at a change of state, the
evaluation at a scan, and the SCHEDULE_FAULT latch (05_protective_conditions.md). -/

namespace Sys2Proof.Machine

/-! ## Onset and clearing -/

def State.channel (s : State) (c : Channel) : ChannelState := s.monitor.channels.get c

def State.withChannel (s : State) (c : Channel) (v : ChannelState) : State :=
  { s with monitor := { s.monitor with channels := s.monitor.channels.set c v } }

/-- A channel is active exactly while it has an entry in the Condition List (R112). -/
def State.active (s : State) (c : Channel) : Bool := s.monitor.conditions.contains c

def State.tripListed (s : State) (c : Channel) : Bool := s.monitor.trips.any (·.channel == c)

/-- The Trip List after an onset: a TRIP channel not yet listed is appended with the present state (R126). -/
def State.tripsAfter (s : State) (c : Channel) : List TripEntry :=
  if c.cls = .trip ∧ s.tripListed c = false then s.monitor.trips ++ [⟨c, s.engine.state⟩] else s.monitor.trips

/-- A channel's onset: the entry appended, both counts at 0 (R116, R123, R126). A listed channel keeps its entry. -/
def State.onset (s : State) (c : Channel) : State :=
  if s.active c then s
  else
    { s with monitor := { s.monitor with
        channels := s.monitor.channels.set c { s.channel c with onset := 0, clear := 0 }
        conditions := s.monitor.conditions ++ [c]
        trips := s.tripsAfter c } }

/-- A channel's entry leaves the Condition List, its counts at 0 (R116, R123). -/
def State.clearCondition (s : State) (c : Channel) : State :=
  { s with monitor := { s.monitor with
      channels := s.monitor.channels.set c { s.channel c with onset := 0, clear := 0 }
      conditions := s.monitor.conditions.filter (· != c) } }

/-- A Condition List `now` of an event that began with the list `old`: the entries that stood keep their order, and those
that the event appended follow in channel order (R112, R123). -/
def inChannelOrder (old now : List Channel) : List Channel :=
  now.filter (fun c => old.contains c) ++ Channel.order.filter fun c => now.contains c && !old.contains c

/-- The onsets of an event that began in `before`, whichever of its parts made them, appended in channel order (R123).
SCHEDULE_FAULT, which R120 has after a scan's evaluations, takes its place among them too (assumption 39). -/
def State.orderOnsets (before s : State) : State :=
  { s with monitor := { s.monitor with
      conditions := inChannelOrder before.monitor.conditions s.monitor.conditions } }

/-! ## The trip (R48, R74, R127) -/

/-- The engine's part of a delivered trip onset (R48). -/
def State.engineTrip (s : State) : State :=
  match s.engine.state with
  | some .tripped => s
  | some (.starting _) => ((((s.dropTimers).withStopKind none).withLayupMark false).enter .tripped).endStart .tripped
  | _ => (((s.dropTimers).withStopKind none).withLayupMark false).enter .tripped

/-- The two deliveries of a trip: to the Engine State Controller and to the Arbiter (R24, R48, R127). -/
def State.deliverTrip (s : State) : State := s.engineTrip.protectionClaim

/-- An event's onsets followed, when they began a trip, by its deliveries, made once (R127, R128). -/
def State.withTrip (s : State) (onsets : State → State) : State :=
  let s1 := onsets s
  if s.monitor.trips = [] ∧ s1.monitor.trips ≠ [] then s1.deliverTrip else s1

/-! ## Arming (R122) -/

/-- Whether a channel armed now has onset at once (R118, R119). -/
def State.onsetAtArming (s : State) (c : Channel) : Bool :=
  match c.input with
  | some i => s.filtered i
  | none => c == .speedSignal && s.frontEnd.quality != .good

def State.arm (s : State) (c : Channel) : State :=
  let s1 := s.withChannel c ⟨true, 0, 0⟩
  if s.onsetAtArming c then s1.onset c else s1

def State.disarm (s : State) (c : Channel) : State :=
  { s with monitor := { s.monitor with
      channels := s.monitor.channels.set c ChannelState.reset
      conditions := s.monitor.conditions.filter (· != c) } }

/-- One channel re-armed for a state; a channel armed before and after keeps its activity and counts (R122). -/
def State.rearmChannel (st : EngineState) (s : State) (c : Channel) : State :=
  if c.armedIn st ∧ (s.channel c).armed = false then s.arm c
  else if c.armedIn st = false ∧ (s.channel c).armed then s.disarm c
  else s

/-- All channels re-armed for the present state, in channel order. -/
def State.rearmOnce (s : State) : State :=
  match s.engine.state with
  | none => s
  | some st => if s.engine.awaitingChoice then s else s.withTrip fun t => Channel.order.foldl (State.rearmChannel st) t

/-- The re-arming of an event; a trip that it begins re-arms the channels for TRIPPED in the same event (R127). -/
def State.rearm (s : State) : State := s.rearmOnce.rearmOnce

/-! ## The scan (R114 to R116) -/

/-- The row of a threshold channel in COND_LIMITS (R114); none for LUBE_LOW, whose threshold is a lube minimum. -/
def Channel.limitRow : Channel → Option Nat
  | .overspeed => some 0
  | .coolantHot1 => some 1
  | .coolantHot2 => some 2
  | .intakeHot => some 3
  | .fuelPressureLow => some 4
  | .batteryLow => some 5
  | _ => none

/-- The reading a threshold channel compares (R113, R116). -/
def State.channelReading (s : State) (c : Channel) : Int :=
  match c with
  | .overspeed => s.frontEnd.reported
  | .lubeLow => s.reading .lube
  | .coolantHot1 => s.reading .coolant
  | .coolantHot2 => s.reading .coolant
  | .intakeHot => s.reading .intake
  | .fuelPressureLow => s.reading .fuel
  | .batteryLow => s.reading .battery
  | _ => 0

/-- The lookup of a threshold channel at a scan: column 0 while not active, column 1 while active (R114, R115). -/
def State.channelLookup (s : State) (c : Channel) : Lookup :=
  match c.limitRow with
  | some row => thresholdLookup row (if s.active c then 1 else 0)
  | none => lubeLookup (speedBand s.frontEnd.reported)

/-- The channels whose test is "at or above" at onset and "below" at clearing (R114). -/
def Channel.highSide : Channel → Bool
  | .overspeed => true
  | .coolantHot1 => true
  | .coolantHot2 => true
  | .intakeHot => true
  | _ => false

/-- The reading is past the onset threshold `thr` (R114, R115). -/
def Channel.pastOnset (c : Channel) (reading thr : Int) : Bool :=
  if c.highSide then decide (thr ≤ reading) else decide (reading < thr)

/-- The reading is past the clear threshold `thr`: the other side of the same comparison (R114, R115). -/
def Channel.pastClear (c : Channel) (reading thr : Int) : Bool :=
  if c.highSide then decide (reading < thr) else decide (thr ≤ reading)

/-- One armed threshold channel evaluated at a scan (R116). -/
def State.evaluate (s : State) (c : Channel) : State :=
  let thr := s.store.look (s.channelLookup c)
  let v := s.channel c
  if v.armed = false then s
  else if s.active c then
    if c.pastClear (s.channelReading c) thr then
      if 20 ≤ v.clear + 1 then s.clearCondition c else s.withChannel c { v with clear := v.clear + 1 }
    else s.withChannel c { v with clear := 0 }
  else if c.pastOnset (s.channelReading c) thr then
    if 3 ≤ v.onset + 1 then s.onset c else s.withChannel c { v with onset := v.onset + 1 }
  else s.withChannel c { v with onset := 0 }

/-- The lookups of a scan: one for each armed threshold channel (R114, R115). -/
def State.scanLookups (s : State) : List Lookup :=
  (Channel.thresholds.filter fun c => (s.channel c).armed).map s.channelLookup

/-- SCHEDULE_FAULT's onset: the latch is set and the channel listed; with the latch set nothing happens (R120). -/
def State.latchFault (s : State) : State :=
  if s.monitor.latch then s
  else ({ s with monitor := { s.monitor with latch := true } } : State).onset .scheduleFault

/-- The Monitor's part of a scan: every armed threshold channel in channel order, then the onset of SCHEDULE_FAULT when
one of the lookups faulted, then the deliveries of a trip (R116, R120, R127). The close of the event puts the entries it
appended in channel order (`State.orderOnsets`, assumption 39). -/
def State.monitorScan (s : State) : State :=
  s.withTrip fun t =>
    let t1 := (Channel.thresholds.foldl State.evaluate t).marked s.scanLookups
    if s.anyFaults s.scanLookups then t1.latchFault else t1

/-! ## Discrete inputs and the speed quality (R118, R119) -/

/-- The Monitor's part of a change of a filtered level (R118). -/
def State.monitorInput (s : State) (i : Input) : State :=
  match channelOf i with
  | none => s
  | some c =>
    if (s.channel c).armed = false then s
    else if s.filtered i then s.withTrip fun t => t.onset c
    else if s.active c then s.clearCondition c
    else s

/-- The Monitor's part of a measurement; `was` is the speed quality before it (R119). -/
def State.monitorQuality (s : State) (was : SpeedQuality) : State :=
  if (s.channel .speedSignal).armed = false then s
  else if was = .good ∧ s.frontEnd.quality ≠ .good then s.onset .speedSignal
  else if was ≠ .good ∧ s.frontEnd.quality = .good then s.clearCondition .speedSignal
  else s

/-! ## Writes to the schedule (R120, R151) -/

/-- A committed write to the SCHEDULE group clears the latch, its entry and every fault mark. A report not yet taken
goes with them (assumption 18). -/
def State.clearScheduleFault (s : State) : State :=
  let s1 := s.clearCondition .scheduleFault
  { s1 with
    monitor := { s1.monitor with latch := false, faultReported := false }
    store := s1.store.clearMarks }

end Sys2Proof.Machine
end

