-- ==== Sys2Proof/Machine/Stepper.lean ====
section
/-! DEFINITION. The Notch Stepper: the target notch, drops, rises, the load arithmetic and the speed reference
(04_notch_stepping_and_load_reference.md). -/

namespace Sys2Proof.Machine

/-! ## The target notch (R86) -/

def State.targetNotch (s : State) : Nat :=
  if s.engine.state = some .running then min s.authorityNotch s.ceilingNotch else 0

def State.withTarget (s : State) (n : Nat) : State := { s with stepper := { s.stepper with target := n } }

/-! ## Lowering the granted notch (R92, R106) -/

/-- The granted notch lowered to `n`: the dwell mark moved and both loads clamped to the new ceiling; at notch 0 both
are 0 and the load terms absent (R97). -/
def State.dropTo (s : State) (n : Nat) : State :=
  if n = 0 then
    { s with stepper := { s.stepper with
        granted := 0, dwellMark := s.now, loadTarget := 0, loadRef := 0, terms := none } }
  else
    ({ s with stepper := { s.stepper with
        granted := n
        dwellMark := s.now
        loadTarget := min s.stepper.loadTarget (s.store.loadCeiling n)
        loadRef := min s.stepper.loadRef (s.store.loadCeiling n) } } : State).lookedUp [ceilingLookup n]

/-- The target formed, and the granted notch lowered to it when it is below (R83, R92). -/
def State.formTarget (s : State) : State :=
  let s1 := s.withTarget s.targetNotch
  if s.targetNotch < s.stepper.granted then s1.dropTo s.targetNotch else s1

/-! ## The speed reference (R95) -/

/-- The notch whose scheduled speed is presented in a state; none where the speed reference is 0. -/
def State.speedNotch (s : State) : Option Nat :=
  match s.engine.state with
  | some (.starting .crank) => some 0
  | some (.starting .catching) => some 0
  | some (.starting .warm) => some s.stepper.granted
  | some .running => some s.stepper.granted
  | some .isolated => some s.stepper.granted
  | some .cooldown => some s.stepper.granted
  | _ => none

/-- The speed reference of the present state. -/
def State.formedSpeed (s : State) : Nat :=
  match s.speedNotch with
  | some n => s.store.scheduledSpeed n
  | none => 0

/-- The speed reference formed anew, with its lookup (R85). -/
def State.formSpeed (s : State) : State :=
  let s1 : State := { s with stepper := { s.stepper with speedRef := s.formedSpeed } }
  match s.speedNotch with
  | some n => s1.lookedUp [speedLookup n]
  | none => s1

/-- GOVERNOR and EXCITATION present the two references (R96, R107). -/
def State.presentLoops (s : State) : State :=
  { s with outputs := { s.outputs with governor := s.stepper.speedRef, excitation := s.stepper.loadRef } }

/-- Whether the engine state, the substate or the granted notch changed since `before`, or the choice was made. -/
def State.speedChanged (before s : State) : Bool :=
  decide (before.engine.state ≠ s.engine.state) || decide (before.stepper.granted ≠ s.stepper.granted) ||
    decide (before.engine.awaitingChoice ≠ s.engine.awaitingChoice)

/-- The Stepper's part of an event that began in `before` (R83, R87): the target and the drop, and the speed reference
after a change. Until the choice it holds everything as it stands (R110). -/
def State.stepperAnnounced (before s : State) : State :=
  if s.engine.awaitingChoice then s
  else
    let s1 := s.formTarget
    (if before.speedChanged s1 then s1.formSpeed else s1).presentLoops

/-! ## Raising the granted notch (R88) -/

/-- The time since the dwell mark, in ms. -/
def State.sinceDwell (s : State) : Nat := s.now - s.stepper.dwellMark

/-- The rise test of an update. -/
def State.mayRise (s : State) : Bool :=
  decide (s.stepper.granted < s.targetNotch) &&
  decide (s.store.stepDwell (s.stepper.granted + 1) ≤ s.sinceDwell) &&
  decide (distance s.frontEnd.reported (s.store.scheduledSpeed s.stepper.granted)
    ≤ s.store.speedTolerance s.stepper.granted)

/-- The lookups of the rise test at an update in RUNNING (R85). -/
def State.riseLookups (s : State) : List Lookup :=
  [speedLookup s.stepper.granted, toleranceLookup s.stepper.granted] ++
    (if s.stepper.granted < s.targetNotch then [dwellLookup (s.stepper.granted + 1)] else [])

/-- A rise by one notch: the dwell mark moved, both loads clamped to the new notch's ceiling (R88, R106). -/
def State.riseOne (s : State) : State :=
  let n := s.stepper.granted + 1
  ({ s with stepper := { s.stepper with
      granted := n
      dwellMark := s.now
      loadTarget := min s.stepper.loadTarget (s.store.loadCeiling n)
      loadRef := min s.stepper.loadRef (s.store.loadCeiling n) } } : State).lookedUp
    [speedLookup n, toleranceLookup n, ceilingLookup n]

/-! ## The load arithmetic (R97 to R105) -/

/-- R99. -/
def intakeBand (t : Int) : Nat := if t < 0 then 0 else min 7 (t.toNat / 10 + 1)

/-- R99. -/
def baroBand (p : Int) : Nat := if 99 ≤ p then 0 else min 5 ((99 - p).toNat / 5)

/-- The boost (R101). -/
def State.boost (s : State) : Nat := (s.reading .manifold - s.reading .barometric).toNat

/-- The air limit (R101). -/
def State.airLimit (s : State) : Nat := min 1000 (s.settings.airFloor + s.boost * s.settings.airGain / 16)

def State.ambientLookup (s : State) : Lookup :=
  derateLookup (intakeBand (s.reading .intake)) (baroBand (s.reading .barometric))

/-- The ambient derate (R100). -/
def State.ambientDerate (s : State) : Nat := (s.store.look s.ambientLookup).toNat

/-- The load target of four terms, truncated at each stage (R102). -/
def loadTargetOf (ceiling derate factor air : Nat) : Nat := min (ceiling * derate / 1000 * factor / 1000) air

/-- The speed-sag hold (R104). -/
def State.sagHolds (s : State) : Bool :=
  decide (s.frontEnd.reported < s.store.scheduledSpeed s.stepper.granted - s.store.speedTolerance s.stepper.granted)

/-- The load reference moved toward the target (R104, R105). -/
def rampLoad (ref target up down : Nat) (hold : Bool) : Nat :=
  if ref < target then (if hold then ref else ref + min (target - ref) up)
  else ref - min (ref - target) down

/-- The load arithmetic of an update in RUNNING at a granted notch of 1 or more. The sag hold is recorded as yes where
it kept the reference from rising (R81, R104). -/
def State.loadArithmetic (s : State) : State :=
  let lt := loadTargetOf (s.store.loadCeiling s.stepper.granted) s.ambientDerate s.restraintFactor s.airLimit
  ({ s with stepper := { s.stepper with
      loadTarget := lt
      loadRef := rampLoad s.stepper.loadRef lt s.settings.rampUp s.settings.rampDown s.sagHolds
      terms := some ⟨s.store.loadCeiling s.stepper.granted, s.ambientDerate, s.restraintFactor, s.airLimit,
        s.sagHolds && decide (s.stepper.loadRef < lt)⟩ } } : State).lookedUp
    [ceilingLookup s.stepper.granted, s.ambientLookup]

/-- At every other update both loads are 0 and the load terms absent (R97). -/
def State.noLoad (s : State) : State :=
  { s with stepper := { s.stepper with loadTarget := 0, loadRef := 0, terms := none } }

/-! ## The update (R82) -/

/-- Step 3 of R82 in RUNNING. -/
def State.riseStep (s : State) : State :=
  let s1 := s.lookedUp s.riseLookups
  if s.mayRise then s1.riseOne else s1

/-- Steps 1 to 6 of R82. -/
def State.update (s : State) : State :=
  let s1 := s.formTarget
  if s.engine.state = some .running then
    let s2 := s1.riseStep
    let s3 := if 1 ≤ s2.stepper.granted then s2.loadArithmetic else s2.noLoad
    s3.formSpeed.presentLoops
  else s1.noLoad.formSpeed.presentLoops

end Sys2Proof.Machine
end

