-- ==== Sys2Proof/Machine/Idle.lean ====
section
/-! DEFINITION. The Idle-Reduction Controller: idle conditions, the idle timer, wake causes and the wake
(06_idle_reduction.md); and the close of every event, in which the neighbours take what it changed. -/

namespace Sys2Proof.Machine

/-! ## The idle timer (R135, R136) -/

/-- The holder's layup permission as presented: none while unheld (R23). -/
def State.heldPermission (s : State) : Option Permission := s.holderEntry.map Entry.permission

/-- Every idle condition holds (R135). -/
def State.idleConditions (s : State) : Bool :=
  s.runs && decide (s.stepper.granted = 0) && decide (s.authorityNotch = 0) &&
  decide (s.heldPermission = some .permit) && s.monitor.conditions.isEmpty &&
  decide (50 ≤ s.reading .coolant) && decide (70 ≤ s.reading .battery) && !s.filtered .brakeAirSwitch

/-- The idle timer after an event that began in `before` (R136). -/
def State.idleAfter (before s : State) : Option Nat :=
  if s.idleConditions then
    match s.idle.idleSince with
    | none => some s.now
    | some t => if before.holder = s.holder then some t else some s.now
  else none

def State.judgeIdle (before s : State) : State :=
  { s with idle := { s.idle with idleSince := before.idleAfter s } }

/-! ## The wake (R47, R139, R140) -/

def State.demandCause (s : State) : Bool :=
  s.holder.isSome && (decide (1 ≤ s.authorityNotch) || decide (s.heldPermission = some .forbid))

def State.batteryCause (s : State) : Bool := decide (s.settings.wakeBattery = 1) && decide (s.reading .battery < 66)

def State.coolantCause (s : State) : Bool := decide (s.settings.wakeCoolant = 1) && decide (s.reading .coolant < 35)

def State.brakeAirCause (s : State) : Bool := decide (s.settings.wakeBrakeAir = 1) && s.filtered .brakeAirSwitch

def State.wakeCause (s : State) : Bool := s.demandCause || s.batteryCause || s.coolantCause || s.brakeAirCause

/-- A wake as the Engine State Controller takes it (R47). -/
def State.takeWake (s : State) : State :=
  if s.engine.state = some .laidUp ∧ s.sequencer.lockoutEnd = none ∧ s.frontEnd.reported < 20 then
    s.beginFull .idleReduction
  else s

/-- A judgement of the wake watch (R139): made only in LAID_UP. -/
def State.judgeWake (s : State) : State :=
  if s.engine.state = some .laidUp ∧ s.wakeCause = true then s.takeWake else s

/-! ## The close of an event -/

def State.setAlert (s : State) : State := { s with outputs := { s.outputs with alert := s.alertLevel } }

/-- What the neighbours do in the event that began in `before` and has changed the part to `s`: the Monitor re-arms
(R122), the wake watch judges where the event is one of R139 (`judged`) or changed what the Arbiter presents, after a
trip of the re-arming (DESIGN CHOICE, assumption 11), the onsets of the event stand in the Condition List in
channel order (R123), the Stepper takes what is announced (R83, R87), ALERT follows the lists (R125), and the idle timer
is judged (R136). -/
def State.settle (before : State) (judged : Bool) (s : State) : State :=
  let s1 := s.rearm
  let s2 := if judged = true ∨ before.presented ≠ s1.presented then s1.judgeWake.rearm else s1
  before.judgeIdle (before.stepperAnnounced (before.orderOnsets s2)).setAlert

/-- An event of the part: the owner's change and its close. -/
def State.event (s : State) (judged : Bool) (change : State → State) : State := s.settle judged (change s)

end Sys2Proof.Machine
end

