-- ==== Sys2Proof/Machine/Sensing.lean ====
section
/-! DEFINITION. The Sensor Front End and its rows: SENSOR_SCAN, SPEED_MEASUREMENT, FLYWHEEL_PULSE, RAW_INPUT_EDGE and
FILTERED_LEVEL_CHANGE (08_sensing_and_discrete_inputs.md). -/

namespace Sys2Proof.Machine

/-! ## The scan (R161, R162) -/

/-- The scan values of a set of raw readings. -/
def scanValues (raw : PerAnalog Int) : PerAnalog Int :=
  ⟨clampReading .lube raw.lube, clampReading .fuel raw.fuel, clampReading .coolant raw.coolant,
   clampReading .intake raw.intake, clampReading .manifold raw.manifold, clampReading .barometric raw.barometric,
   clampReading .battery raw.battery⟩

/-- A raw reading outside its range. -/
def outOfRange (c : Analog) (raw : Int) : Bool := clampReading c raw != raw

/-- The CLAMPED marks of a set of raw readings. -/
def clampedMarks (raw : PerAnalog Int) : PerAnalog Bool :=
  ⟨outOfRange .lube raw.lube, outOfRange .fuel raw.fuel, outOfRange .coolant raw.coolant,
   outOfRange .intake raw.intake, outOfRange .manifold raw.manifold, outOfRange .barometric raw.barometric,
   outOfRange .battery raw.battery⟩

/-- All seven scan values and marks replaced; the next scan follows 50 ms after this one was due. -/
def State.takeScan (s : State) (raw : PerAnalog Int) : State :=
  { s with frontEnd := { s.frontEnd with
      scan := some (scanValues raw)
      clamped := clampedMarks raw
      nextScan := s.frontEnd.nextScan + Config.period } }

/-- The scan as presented to the blocks that act at it, in the order R161 names them (assumption 10). -/
def State.scanChange (s : State) (raw : PerAnalog Int) : State := (s.takeScan raw).monitorScan.lubeComparison

/-- SENSOR_SCAN. -/
def execSensorScan (raw : PerAnalog Int) (s : State) : Host.Outcome State Fault Refusal :=
  .next (if s.live then (s.reach s.frontEnd.nextScan).event true fun t => t.scanChange raw else s)

/-! ## The speed measurement (R163 to R165) -/

/-- The pulses of the 100 ms ending now: those after `now − 100` (assumption 16). -/
def State.windowPulses (s : State) : List Nat := s.frontEnd.pulses.filter fun t => decide (s.now < t + Config.pulseWindow)

/-- The speed of a pulse count (R163). -/
def speedOf (count teeth : Nat) : Nat := min 1500 (count * 600 / teeth)

/-- Steps 1, 2 and 4 of R163: the count, the measured speed, and the measured speed of the measurement before. -/
def State.countPulses (s : State) : State :=
  { s with frontEnd := { s.frontEnd with
      pulses := s.windowPulses
      pulseCount := s.windowPulses.length
      previous := s.frontEnd.measured
      measured := some (speedOf s.windowPulses.length s.settings.flywheelTeeth)
      nextMeasurement := s.frontEnd.nextMeasurement + Config.period } }

/-- The measured speed differs from the previous one by more than 150 rpm (R164). -/
def FrontEnd.jumps (f : FrontEnd) : Bool :=
  match f.previous, f.measured with
  | some p, some m => decide (150 < distance m p)
  | _, _ => false

/-- The jump run after a measurement (R164). -/
def FrontEnd.nextJumpRun (f : FrontEnd) : Nat := if f.jumps then min 3 (f.jumpRun + 1) else 0

/-- The silence run after a measurement (R164). -/
def FrontEnd.nextSilenceRun (f : FrontEnd) (fuelRun : Bool) : Nat :=
  if f.pulseCount = 0 ∧ fuelRun = true ∧ 250 ≤ f.settled then min 3 (f.silenceRun + 1) else 0

/-- A plausible measurement (R164). -/
def FrontEnd.plausible (f : FrontEnd) : Bool := !f.jumps && (f.quality != .lost || f.pulseCount != 0)

/-- A run that reaches 3 at this measurement. -/
def reachesThree (old new : Nat) : Bool := decide (old < 3) && decide (3 ≤ new)

/-- The runs and the quality after a measurement (R164): the table, row by row. -/
def FrontEnd.judgeQuality (f : FrontEnd) (fuelRun : Bool) : FrontEnd :=
  let jump := f.nextJumpRun
  let silence := f.nextSilenceRun fuelRun
  let g : FrontEnd := { f with jumpRun := jump, silenceRun := silence }
  let recovered : FrontEnd :=
    if f.plausible then
      if 10 ≤ f.recoveryRun + 1 then { g with quality := .good, jumpRun := 0, silenceRun := 0, recoveryRun := 0 }
      else { g with recoveryRun := f.recoveryRun + 1 }
    else { g with recoveryRun := 0 }
  match f.quality with
  | .good =>
    if reachesThree f.jumpRun jump then { g with quality := .erratic, recoveryRun := 0 }
    else if reachesThree f.silenceRun silence then { g with quality := .lost, recoveryRun := 0 }
    else g
  | .erratic =>
    if reachesThree f.jumpRun jump then g
    else if reachesThree f.silenceRun silence then { g with quality := .lost, recoveryRun := 0 }
    else recovered
  | .lost =>
    if reachesThree f.jumpRun jump then { g with quality := .erratic, recoveryRun := 0 }
    else if reachesThree f.silenceRun silence then g
    else recovered

/-- The reported and settled speeds after a measurement; `was` is the quality before it (R165). -/
def FrontEnd.judgeSpeed (f : FrontEnd) (was : SpeedQuality) : FrontEnd :=
  let m := f.measured.getD 0
  if f.quality = .good then
    if was ≠ .good then { f with reported := m, settled := m }
    else if f.jumpRun = 0 ∧ f.silenceRun = 0 then { f with reported := m, settled := m }
    else { f with reported := m }
  else if was = .good then { f with reported := f.settled }
  else f

/-- The whole of the Front End's part of a measurement. -/
def State.measure (s : State) : State :=
  let s1 := s.countPulses
  { s1 with frontEnd := (s1.frontEnd.judgeQuality s.outputs.fuelRun).judgeSpeed s.frontEnd.quality }

/-- What the measurement makes the Sequencer and the Controller do in the engine state it finds; `was` is the speed
quality before it (R45, R50, R52, R62, R65, R68). -/
def State.takeMeasurement (s : State) (was : SpeedQuality) : State :=
  if s.engine.awaitingChoice then s.chooseState
  else
    match s.engine.state with
    | some (.starting .crank) => s.crankMeasurement was
    | some (.starting .catching) => s.catchMeasurement
    | some (.starting .rest) => s.restTest
    | some .rundown => if s.frontEnd.reported < 20 then s.endRundown else s
    | _ => s

/-- The measurement as presented: the Monitor takes the change of quality, the Sequencer and the Controller the speed. -/
def State.measurementChange (s : State) : State :=
  (s.measure.monitorQuality s.frontEnd.quality).takeMeasurement s.frontEnd.quality

/-- SPEED_MEASUREMENT. The event of the choice after a reset also judges the wake causes (R145). -/
def execSpeedMeasurement (s : State) : Host.Outcome State Fault Refusal :=
  .next (if s.live then
    (s.reach s.frontEnd.nextMeasurement).event s.engine.awaitingChoice State.measurementChange else s)

/-- A pulse counted at the present instant. -/
def State.countPulse (s : State) : State :=
  { s with frontEnd := { s.frontEnd with pulses := s.now :: s.frontEnd.pulses } }

/-- FLYWHEEL_PULSE: a pulse arrives `after` ms on, and is counted unless RESET-LINE is asserted (R163). -/
def execFlywheelPulse (after : Nat) (s : State) : Host.Outcome State Fault Refusal :=
  .next (if s.live then (s.elapse after).countPulse else s.elapse after)

/-! ## Discrete inputs (R167 to R169) -/

def State.withInput (s : State) (i : Input) (v : InputState) : State :=
  { s with frontEnd := { s.frontEnd with inputs := s.frontEnd.inputs.set i v } }

/-- The selected level of an input at a raw level, through its INPUT_LEVEL setting. -/
def State.selectedAt (s : State) (i : Input) (raw : Bool) : Bool :=
  selectedLevel (s.settings.get (levelSetting i)) raw

/-- An input after a raw edge: a changed selected level starts a timing when it leaves the filtered level and discards
it when it returns (R168). -/
def InputState.edge (v : InputState) (raw selected : Bool) (now : Nat) : InputState :=
  if selected = v.selected then { v with raw := raw }
  else ⟨raw, selected, v.filtered, if selected = v.filtered then none else some now⟩

/-- An input with a fresh filter period: the selected level formed anew, a timing from zero where it differs from the
filtered level (R169, R171, R172). -/
def InputState.refresh (v : InputState) (selected : Bool) (now : Nat) : InputState :=
  ⟨v.raw, selected, v.filtered, if selected = v.filtered then none else some now⟩

/-- An input whose timing has reached INPUT_FILTER (R168). -/
def InputState.settleFilter (v : InputState) : InputState := { v with filtered := v.selected, since := none }

/-- RAW_INPUT_EDGE: the raw level of an input changes `after` ms on. With the part not acting only the pin moves (R172). An
edge taken before the due change of the filtered level discards or restarts the timing all the same (DESIGN CHOICE,
assumption 38). -/
def execRawInputEdge (after : Nat) (input : Input) (level : Bool) (s : State) : Host.Outcome State Fault Refusal :=
  let s1 := s.elapse after
  let v := s1.frontEnd.inputs.get input
  .next (if s1.live then s1.withInput input (v.edge level (s1.selectedAt input level) s1.now)
    else s1.withInput input { v with raw := level })

/-- The change of a filtered level, as its reader takes it: the Monitor (R118) or the Controller (R41). -/
def State.filterChange (s : State) (i : Input) : State :=
  let s1 := (s.withInput i (s.frontEnd.inputs.get i).settleFilter).monitorInput i
  if i = .isolateSwitch then s1.judgeIsolation else s1

/-- When the timing of an input reaches INPUT_FILTER. -/
def State.filterInstant (s : State) (since : Nat) : Nat := since + s.settings.inputFilter

/-- FILTERED_LEVEL_CHANGE: the stability timing of an input reaches INPUT_FILTER (R168). A change of BRAKE_AIR_SWITCH is a
judgement of the wake watch (R139). -/
def execFilteredLevelChange (input : Input) (s : State) : Host.Outcome State Fault Refusal :=
  match (s.frontEnd.inputs.get input).since with
  | none => .next s
  | some t =>
    .next (if s.live then
      (s.reach (s.filterInstant t)).event (input == .brakeAirSwitch) fun u => u.filterChange input else s)

end Sys2Proof.Machine
end

