-- ==== Sys2Proof/Machine/Report.lean ====
section
/-! DEFINITION. What the outside reads: the codes of section 9.7, the reply snapshot, the results of READ and the body of
a status frame (R29, R53, R80, R111, R132, R146, R159, R170, R180 to R182). -/

namespace Sys2Proof.Machine

/-! ## Codes (section 9.7). 0 stands for an absent field. -/

def Source.code : Source → Nat
  | .cab => 1
  | .consist => 2
  | .remote => 3
  | .shop => 4
  | .protection => 5

def Initiator.code : Initiator → Nat
  | .source x => x.code
  | .idleReduction => 6

def EngineState.code : EngineState → Nat
  | .stopped => 1
  | .starting _ => 2
  | .running => 3
  | .isolated => 4
  | .cooldown => 5
  | .rundown => 5
  | .laidUp => 6
  | .tripped => 7

def EngineState.subCode : EngineState → Nat
  | .starting p => p.num
  | .cooldown => 6
  | .rundown => 7
  | _ => 0

def Place.code : Place → Nat
  | .out => 0
  | .pending => 1
  | .suspended => 2
  | .holding => 3

def MatchState.code : MatchState → Nat
  | .matching => 1
  | .matched => 2

def StopKind.code : StopKind → Nat
  | .normal => 1
  | .layup => 2

def ChannelClass.code : ChannelClass → Nat
  | .trip => 1
  | .restraint => 2
  | .notice => 3

def SpeedQuality.code : SpeedQuality → Nat
  | .good => 0
  | .erratic => 1
  | .lost => 2

def StartOutcome.code : StartOutcome → Nat
  | .inProgress => 1
  | .runningReached => 2
  | .noPrelubePressure => 3
  | .startFailed => 4
  | .speedErratic => 5
  | .noOilPressure => 6
  | .cancelled => 7
  | .tripped => 8
  | .reset => 9

def AttemptReason.code : AttemptReason → Nat
  | .noFire => 1
  | .stall => 2
  | .noCatch => 3
  | .speedErratic => 4

def StartMode.code : StartMode → Nat
  | .full => 1
  | .skipPrelube => 2

def Permission.code : Permission → Nat
  | .forbid => 0
  | .permit => 1

def boolCode (b : Bool) : Nat := if b then 1 else 0

/-- The code of a field that may be absent. -/
def optCode {α : Type} (f : α → Nat) : Option α → Nat
  | none => 0
  | some x => f x

/-! ## Times as they are shown -/

/-- Whole seconds left to an instant, rounded up; 0 where no timer runs (R53, R60, R69). -/
def secondsLeft (now : Nat) : Option Nat → Nat
  | none => 0
  | some t => (t - now + 999) / 1000

/-- A time in ms, given as 65535 when it is greater: R29 and R111 for the times they name, the model's choice for a
stability timing (DESIGN CHOICE, assumption 41). -/
def shownMs (ms : Nat) : Nat := min 65535 ms

/-! ## The snapshot of a reply (R181) -/

def State.stateCodes (s : State) : List Byte :=
  [byteOf (optCode EngineState.code s.engine.state), byteOf (optCode EngineState.subCode s.engine.state)]

def State.snapshot (s : State) : List Byte :=
  s.stateCodes ++
  [byteOf (optCode Source.code s.holder), byteOf s.authorityNotch, byteOf s.stepper.granted] ++
  be16 s.stepper.loadRef

/-! ## Lists of fixed length -/

/-- `n` places of `width` bytes: the given items, unused places 0 (section 9.7). -/
def paddedItems (n width : Nat) (items : List (List Byte)) : List Byte :=
  ((List.range n).map fun i => items.getD i (List.replicate width 0#8)).flatten

/-! ## READ results (R180) -/

/-- The elapsed time of the idle timer in whole seconds, never above IDLE_LIMIT (R134, R146): a timer whose expiry is due
and not yet taken shows the limit (DESIGN CHOICE, assumption 28). -/
def State.idleSeconds (s : State) : Nat :=
  match s.idle.idleSince with
  | none => 0
  | some t => min s.settings.idleLimit ((s.now - t) / 1000)

/-- STATUS part 0 (R53, R111, R146). -/
def State.statusPart0 (s : State) : List Byte :=
  s.stateCodes ++
  [byteOf (boolCode s.engine.isolateFlag), byteOf (optCode StopKind.code s.engine.stopKind),
   byteOf (boolCode s.engine.layupMark)] ++
  be16 (secondsLeft s.now (s.engine.cooldownEnd.or s.engine.rundownEnd)) ++
  [byteOf s.authorityNotch, byteOf s.ceilingNotch, byteOf s.stepper.target, byteOf s.stepper.granted] ++
  be16 s.stepper.loadRef ++ be16 s.stepper.loadTarget ++ be16 s.stepper.speedRef ++
  be16 (optCode LoadTerms.ceiling s.stepper.terms) ++ be16 (optCode LoadTerms.derate s.stepper.terms) ++
  be16 (optCode LoadTerms.factor s.stepper.terms) ++ be16 (optCode LoadTerms.airLimit s.stepper.terms) ++
  [byteOf (optCode (fun t => if t.sagHold then 2 else 1) s.stepper.terms)] ++
  be16 (shownMs s.sinceDwell) ++
  [byteOf (boolCode s.idle.idleSince.isSome)] ++
  be16 s.idleSeconds

/-- The CLAMPED marks as one byte, bit 0 lube pressure through bit 6 battery. -/
def markByte (m : PerAnalog Bool) : Byte :=
  byteOf (boolCode m.lube + 2 * boolCode m.fuel + 4 * boolCode m.coolant + 8 * boolCode m.intake +
    16 * boolCode m.manifold + 32 * boolCode m.barometric + 64 * boolCode m.battery)

/-- One discrete input: bit 0 selected, bit 1 filtered, then its stability timing. A timing that is due and not yet taken
is shown as it stands, above INPUT_FILTER, and as 65535 when it is greater (DESIGN CHOICE, assumption 41). -/
def inputBytes (now : Nat) (v : InputState) : List Byte :=
  byteOf (boolCode v.selected + 2 * boolCode v.filtered) :: be16 (optCode (fun t => shownMs (now - t)) v.since)

/-- A scan value, 0 before the first scan. -/
def FrontEnd.shownScan (f : FrontEnd) (c : Analog) : List Byte :=
  match f.scan with
  | some v => be16Int (v.get c)
  | none => be16 0

/-- STATUS part 1 (R170). A pulse count above 65535 shows its low 16 bits (DESIGN CHOICE, assumption 37). -/
def State.statusPart1 (s : State) : List Byte :=
  let f := s.frontEnd
  f.shownScan .lube ++ f.shownScan .fuel ++ f.shownScan .coolant ++ f.shownScan .intake ++ f.shownScan .manifold ++
  f.shownScan .barometric ++ f.shownScan .battery ++ [markByte f.clamped] ++
  be16 (optCode id f.measured) ++ be16 f.reported ++ be16 f.settled ++ be16 f.pulseCount ++
  [byteOf f.quality.code, byteOf f.jumpRun, byteOf f.silenceRun, byteOf f.recoveryRun] ++
  inputBytes s.now f.inputs.fuelCutoffLoop ++ inputBytes s.now f.inputs.crankcaseSwitch ++
  inputBytes s.now f.inputs.coolantLevelSwitch ++ inputBytes s.now f.inputs.groundRelay ++
  inputBytes s.now f.inputs.isolateSwitch ++ inputBytes s.now f.inputs.brakeAirSwitch

/-- START_RECORD (R76, R80). -/
def State.startRecordBytes (s : State) : List Byte :=
  let r := s.sequencer.record
  [byteOf (optCode (fun x => x.initiator.code) r), byteOf (optCode (fun x => x.mode.code) r),
   byteOf (optCode (fun x => x.furthest.num) r), byteOf (optCode (fun x => x.outcome.code) r),
   byteOf (optCode StartRecord.attemptsBegun r)] ++
  be16 (secondsLeft s.now s.sequencer.lockoutEnd) ++ be16 (secondsLeft s.now s.sequencer.creditEnd) ++
  [byteOf s.attempts.length] ++
  paddedItems 5 3 (s.attempts.map fun a => byteOf a.reason.code :: be16 a.peak)

/-- An entry of the Condition List: channel, class, ceiling (255 none) and factor (65535 none). -/
def conditionBytes (c : Channel) : List Byte :=
  [byteOf c.num, byteOf c.cls.code, byteOf (match c.restraint with | some (n, _) => n | none => 255)] ++
  be16 (match c.restraint with | some (_, f) => f | none => 65535)

/-- CONDITIONS part 0 (R132). -/
def State.conditionsPart0 (s : State) : List Byte :=
  byteOf s.monitor.conditions.length :: paddedItems 9 5 ((s.monitor.conditions.take 9).map conditionBytes)

/-- A Trip List entry: channel, state and substate. -/
def TripEntry.bytes (e : TripEntry) : List Byte :=
  [byteOf e.channel.num, byteOf (optCode EngineState.code e.state), byteOf (optCode EngineState.subCode e.state)]

/-- CONDITIONS part 1 (R132). -/
def State.conditionsPart1 (s : State) : List Byte :=
  paddedItems 4 5 ((s.monitor.conditions.drop 9).map conditionBytes) ++
  [byteOf s.monitor.trips.length] ++ paddedItems 5 3 (s.monitor.trips.map TripEntry.bytes) ++
  [byteOf s.ceilingNotch] ++ be16 s.restraintFactor ++ [byteOf (boolCode s.monitor.latch)]

/-- CONDITIONS part 2 (R132). -/
def State.conditionsPart2 (s : State) : List Byte :=
  Channel.order.flatMap fun c =>
    [byteOf (boolCode (s.channel c).armed + 2 * boolCode (s.active c)), byteOf (s.channel c).onset,
     byteOf (s.channel c).clear]

/-- An Authority Table entry with the time since last heard (R29). -/
def entryBytes (e : Entry) (sinceHeard : Nat) : List Byte :=
  [byteOf e.place.code, byteOf e.request, byteOf (optCode MatchState.code e.mtch), byteOf (e.held.getD 255),
   byteOf e.permission.code] ++ be16 (shownMs sinceHeard)

/-- The time since last heard of a link. -/
def State.silenceOf (s : State) (l : Link) : Nat := s.now - (s.ports.get l).lastHeard

/-- AUTHORITY (R29); PROTECTION has no last heard time. -/
def State.authorityBytes (s : State) : List Byte :=
  entryBytes (s.entry .cab) (s.silenceOf .cab) ++ entryBytes (s.entry .consist) (s.silenceOf .consist) ++
  entryBytes (s.entry .remote) (s.silenceOf .remote) ++ entryBytes (s.entry .shop) (s.silenceOf .shop) ++
  entryBytes (s.entry .protection) 0 ++
  [byteOf s.arbiter.stack.length] ++ paddedItems 5 1 (s.arbiter.stack.map fun x => [byteOf x.code]) ++
  [byteOf s.arbiter.waiting.length] ++ paddedItems 4 1 (s.arbiter.waiting.map fun x => [byteOf x.code])

/-- The value of a setting (R159). -/
def State.settingBytes (s : State) (n : Nat) : List Byte := be16 (optCode s.settings.get (Setting.ofNum n))

/-- A segment entry (R159). -/
def State.segmentBytes (s : State) (n : Nat) : List Byte :=
  match SegmentId.ofNum n with
  | some g =>
    let e := s.store.segments.get g
    be16 e.base ++ be16 e.limit ++ [byteOf e.stride, byteOf (boolCode e.faultMark)]
  | none => []

/-- Whether an item code and number name something (R180, check 1). -/
def readNamed (item number : Nat) : Bool :=
  match item with
  | 1 => decide (number ≤ 1)
  | 2 => decide (number = 0)
  | 3 => decide (number ≤ 2)
  | 4 => decide (number = 0)
  | 5 => decide (1 ≤ number ∧ number ≤ 30)
  | 6 => decide (number ≤ 511)
  | 7 => decide (number ≤ 5)
  | _ => false

/-- The size of a READ result (section 9.7). -/
def readSize (item number : Nat) : Nat :=
  match item, number with
  | 1, 0 => 34
  | 1, _ => 48
  | 2, _ => 28
  | 3, 0 => 49
  | 3, 1 => 43
  | 3, _ => 42
  | 4, _ => 49
  | 5, _ => 5
  | 6, _ => 5
  | 7, _ => 9
  | _, _ => 0

/-- The values of a READ result. -/
def State.readValues (s : State) (item number : Nat) : List Byte :=
  match item, number with
  | 1, 0 => s.statusPart0
  | 1, _ => s.statusPart1
  | 2, _ => s.startRecordBytes
  | 3, 0 => s.conditionsPart0
  | 3, 1 => s.conditionsPart1
  | 3, _ => s.conditionsPart2
  | 4, _ => s.authorityBytes
  | 5, n => s.settingBytes n
  | 6, n => be16Word (s.store.word n)
  | 7, n => s.segmentBytes n
  | _, _ => []

/-- A READ result whole: its item and number, then the values (section 9.7). -/
def State.readResult (s : State) (item : Byte) (number : Word16) : List Byte :=
  item :: (be16Word number ++ s.readValues item.toNat number.toNat)

/-- The READ results of an order, in action order (R181). -/
def State.readResults (s : State) (as : List Action) : List Byte :=
  as.flatMap fun a => match a with | .read i n => s.readResult i n | _ => []

/-! ## The status frame (R182) -/

def State.channelsBytes (cs : List Channel) : List Byte := byteOf cs.length :: cs.map fun c => byteOf c.num

def State.sourcesBytes (xs : List Source) : List Byte := byteOf xs.length :: xs.map fun x => byteOf x.code

/-- The body of a status frame for a link. -/
def State.statusBody (s : State) (l : Link) : List Byte :=
  s.stateCodes ++
  [byteOf (optCode Source.code s.holder), byteOf (optCode MatchState.code s.presented.mtch),
   byteOf s.authorityNotch, byteOf s.ceilingNotch, byteOf s.stepper.target, byteOf s.stepper.granted] ++
  be16 s.stepper.loadRef ++ be16 s.stepper.loadTarget ++ be16 s.stepper.speedRef ++ be16 s.frontEnd.reported ++
  [byteOf s.frontEnd.quality.code] ++
  State.channelsBytes s.monitor.conditions ++ State.channelsBytes (s.monitor.trips.map TripEntry.channel) ++
  [byteOf (optCode (fun x => x.outcome.code) s.sequencer.record),
   byteOf (optCode (fun x => x.furthest.num) s.sequencer.record), byteOf s.attempts.length] ++
  State.sourcesBytes s.arbiter.stack ++ State.sourcesBytes s.arbiter.waiting ++
  [byteOf (s.entry (sourceOf l)).place.code, byteOf (boolCode (s.ports.get l).lapseMark), markByte s.frontEnd.clamped]

end Sys2Proof.Machine
end

