-- ==== Sys2Proof/Machine/Operands.lean ====
section
/-! DEFINITION. The operands of the order actions and the checks made of them: refusal codes, the write rights of each
group, and the writes (R33, R152 to R156, section 9.8). -/

namespace Sys2Proof.Machine

/-- The refusal codes (section 9.8). -/
inductive RefusalCode where
  | already | notClaimed | notHolder | notAtRest | notSuccessor | badValue | duplicateAction | malformed | full
  | inTransition | alreadyStarting | alreadyRunning | notRunning | rotating | starterRest | noPrelubeCredit
  | tripped | tripActive | notTripped | tooLate | nothingToCancel | groupLocked | rankConflict | segmentRange
deriving DecidableEq, Repr

def RefusalCode.num : RefusalCode → Nat
  | .already => 1
  | .notClaimed => 2
  | .notHolder => 3
  | .notAtRest => 4
  | .notSuccessor => 5
  | .badValue => 6
  | .duplicateAction => 7
  | .malformed => 8
  | .full => 9
  | .inTransition => 10
  | .alreadyStarting => 11
  | .alreadyRunning => 12
  | .notRunning => 13
  | .rotating => 14
  | .starterRest => 15
  | .noPrelubeCredit => 16
  | .tripped => 17
  | .tripActive => 18
  | .notTripped => 19
  | .tooLate => 20
  | .nothingToCancel => 21
  | .groupLocked => 22
  | .rankConflict => 23
  | .segmentRange => 24

/-- The mode operand of START (section 9.7). -/
def startModeOf (m : Byte) : Option StartMode :=
  if m = 0#8 then some .full else if m = 1#8 then some .skipPrelube else none

/-- The operand of ISOLATE: 0 off, 1 on. -/
def switchOf (o : Byte) : Option Bool := if o = 0#8 then some false else if o = 1#8 then some true else none

/-- The operand of LAYUP: 0 FORBID, 1 PERMIT. -/
def permissionOf (o : Byte) : Option Permission :=
  if o = 0#8 then some .forbid else if o = 1#8 then some .permit else none

/-! ## Write rights (R155) -/

/-- The four links. -/
def everyLink : List Link := [.cab, .consist, .remote, .shop]

/-- No link source other than SHOP is in the Authority Stack or the Pending List. -/
def State.shopAlone (s : State) : Bool :=
  everyLink.all fun l => decide (l = .shop) || !s.claimed (sourceOf l)

/-- The rights of a group for a sending link (R155). -/
def State.writeAdmitted (s : State) (l : Link) (g : WriteGroup) : Bool :=
  let shopHolds := decide (l = .shop) && decide (s.holder = some .shop)
  let stopped := decide (s.engine.state = some .stopped)
  match g with
  | .link => shopHolds && s.shopAlone
  | .limit => shopHolds || (decide (l = .cab) && decide (s.holder = some .cab) && stopped)
  | .restricted => shopHolds && stopped
  | .schedule => shopHolds && stopped

/-! ## Writes -/

def State.withSettings (s : State) (v : Settings) : State := { s with store := { s.store with settings := v } }

def State.withPort (s : State) (l : Link) (p : Port) : State := { s with ports := s.ports.set l p }

/-- The silence limit of a link. -/
def State.silenceLimit (s : State) (l : Link) : Nat := s.settings.get (silenceSetting l)

/-- The report of a lapse of a link whose silence exceeds its limit, made once for a silence (R21). -/
def State.reportLapse (s : State) (l : Link) : State :=
  if s.silenceLimit l < s.silenceOf l ∧ (s.ports.get l).silent = false then
    s.withPort l { s.ports.get l with silent := true, lapseWaiting := true }
  else s

/-- A committed write of a setting, with what its reader does at the commit (R21, R157, R169). -/
def State.writeSetting (s : State) (k : Setting) (v : Nat) : State :=
  let s1 := s.withSettings (s.settings.set k v)
  match k.silenceOf, k.inputOf with
  | some l, _ => s1.reportLapse l
  | none, some i =>
    let x := s1.frontEnd.inputs.get i
    s1.withInput i (x.refresh (s1.selectedAt i x.raw) s1.now)
  | none, none => s1

/-- Whether a value is the present rank of a link source other than `l` (R156, check 4). -/
def State.rankTaken (s : State) (l : Link) (v : Nat) : Bool :=
  everyLink.any fun m => decide (m ≠ l) && decide (s.settings.get (rankSetting m) = v)

/-- A committed write of a calibration word (R153). -/
def State.writeWordAt (s : State) (i : Nat) (v : Word16) : State :=
  ({ s with store := { s.store with words := writeWord s.store.words i v } } : State).clearScheduleFault

/-- A committed SEGMENT (R152). -/
def State.writeSegment (s : State) (g : SegmentId) (base limit stride : Nat) : State :=
  ({ s with store := { s.store with segments := s.store.segments.set g ⟨base, limit, stride, false⟩ } } : State)
    |>.clearScheduleFault

/-- The range check of a SEGMENT (R152, check 1). -/
def segmentInRange (base limit stride : Nat) : Bool :=
  decide (base ≤ 511 ∧ 1 ≤ limit ∧ limit ≤ 512 ∧ 1 ≤ stride ∧ stride ≤ 16 ∧ base + limit ≤ 512)

end Sys2Proof.Machine
end

