-- ==== Sys2Proof/Machine/Orders.lean ====
section
/-! DEFINITION. The Order Unit: the checks and the effect of every action in the order's working view, the taking of an
order whole, its reply, and the rows CLAIM to SEGMENT and MALFORMED_ORDER (09_orders_replies_and_status_frames.md). -/

namespace Sys2Proof.Machine

/-! ## The actions: checks in their order, then the effect on the working view -/

/-- At rest for a SHOP claim (R15). -/
def State.atRest (s : State) : Bool :=
  !((s.engine.state.map EngineState.isStarting).getD false) && decide (s.stepper.granted = 0)

/-- CLAIM (R15, R16). -/
def State.doClaim (s : State) (l : Link) (n : Byte) : Except RefusalCode State :=
  if 8 < n.toNat then .error .badValue
  else if (s.entry (sourceOf l)).place ≠ .out then .error .already
  else if l = .shop ∧ s.atRest = false then .error .notAtRest
  else .ok (s.claimEffect (sourceOf l) n.toNat)

/-- RELEASE (R19). -/
def State.doRelease (s : State) (l : Link) : Except RefusalCode State :=
  if (s.entry (sourceOf l)).place = .out then .error .notClaimed
  else .ok (s.releaseSource (sourceOf l))

/-- NOTCH (R18). -/
def State.doNotch (s : State) (l : Link) (n : Byte) : Except RefusalCode State :=
  if 8 < n.toNat then .error .badValue
  else if (s.entry (sourceOf l)).place = .out then .error .notClaimed
  else .ok (s.notchEffect (sourceOf l) n.toNat)

/-- Whether a link's source is the holder (R7). -/
def State.holds (s : State) (l : Link) : Bool := decide (s.holder = some (sourceOf l))

/-- START's own checks (R34). -/
def State.startRefusal (s : State) (mode : StartMode) : Option RefusalCode :=
  if s.sequencer.lockoutEnd.isSome then some .starterRest
  else
    match s.engine.state with
    | some (.starting _) => some .alreadyStarting
    | some .running => some .alreadyRunning
    | some .isolated => some .alreadyRunning
    | some .cooldown => some .inTransition
    | some .rundown => some .inTransition
    | some .tripped => some .tripped
    | _ =>
      if 20 ≤ s.frontEnd.reported then some .rotating
      else if mode = .skipPrelube ∧ s.sequencer.creditEnd = none then some .noPrelubeCredit
      else none

/-- START (R33 to R35). The lookup of a FULL start is made at the commit (R149, assumption 27). -/
def State.doStart (s : State) (l : Link) (m : Byte) : Except RefusalCode State :=
  match startModeOf m with
  | none => .error .badValue
  | some mode =>
    if s.holds l = false then .error .notHolder
    else
      match s.startRefusal mode with
      | some c => .error c
      | none => .ok (s.openStart (.source (sourceOf l)) mode)

/-- STOP's own checks (R36). -/
def State.stopRefusal (s : State) : Option RefusalCode :=
  match s.engine.state with
  | some (.starting _) => some .inTransition
  | some .stopped => some .notRunning
  | some .tripped => some .notRunning
  | _ => none

/-- STOP (R33, R36, R37). -/
def State.doStop (s : State) (l : Link) : Except RefusalCode State :=
  if s.holds l = false then .error .notHolder
  else
    match s.stopRefusal with
    | some c => .error c
    | none => .ok s.stopEffect

/-- CANCEL (R33, R38, R73). -/
def State.doCancel (s : State) (l : Link) : Except RefusalCode State :=
  if s.holds l = false then .error .notHolder
  else
    match s.engine.state with
    | some (.starting _) => .ok (s.endStart .cancelled)
    | some .cooldown => .ok s.cancelCooldown
    | some .rundown => .error .tooLate
    | _ => .error .nothingToCancel

/-- ISOLATE (R33, R39). -/
def State.doIsolate (s : State) (l : Link) (o : Byte) : Except RefusalCode State :=
  match switchOf o with
  | none => .error .badValue
  | some on => if s.holds l = false then .error .notHolder else .ok (s.isolateEffect on)

/-- LAYUP (R179). -/
def State.doLayup (s : State) (l : Link) (o : Byte) : Except RefusalCode State :=
  match permissionOf o with
  | none => .error .badValue
  | some p =>
    if (s.entry (sourceOf l)).place = .out then .error .notClaimed else .ok (s.layupEffect (sourceOf l) p)

/-- Whether a source may reset the trip: the successor, or SHOP in the collections (R27, check 2). -/
def State.mayReset (s : State) (l : Link) : Bool :=
  decide (s.successor = some (sourceOf l)) || (decide (l = .shop) && s.claimed .shop)

/-- The effect of an accepted TRIP_RESET (R28). -/
def State.tripResetEffect (s : State) : State :=
  (({ s with monitor := { s.monitor with trips := [] } } : State).releaseSource .protection).enter .stopped

/-- TRIP_RESET (R27, R129). -/
def State.doTripReset (s : State) (l : Link) : Except RefusalCode State :=
  if s.monitor.trips = [] then .error .notTripped
  else if s.mayReset l = false then .error .notSuccessor
  else if 20 ≤ s.frontEnd.reported then .error .rotating
  else if s.monitor.conditions.any (fun c => c.cls == .trip) then .error .tripActive
  else .ok s.tripResetEffect

/-- READ: its checks; the values are read after the commit (R180). `used` is the size of the earlier results. -/
def State.doRead (s : State) (used : Nat) (item : Byte) (number : Word16) : Except RefusalCode State :=
  if readNamed item.toNat number.toNat = false then .error .badValue
  else if 50 < used + readSize item.toNat number.toNat then .error .badValue
  else .ok s

/-- SET of a setting (R156). -/
def State.doSetSetting (s : State) (l : Link) (number value : Word16) : Except RefusalCode State :=
  match Setting.ofNum number.toNat with
  | none => .error .badValue
  | some k =>
    if k.inRange value.toNat = false then .error .badValue
    else if s.writeAdmitted l k.group = false then .error .groupLocked
    else
      match k.rankOf with
      | some m => if s.rankTaken m value.toNat then .error .rankConflict else .ok (s.writeSetting k value.toNat)
      | none => .ok (s.writeSetting k value.toNat)

/-- SET of a calibration word (R153). -/
def State.doSetWord (s : State) (l : Link) (number value : Word16) : Except RefusalCode State :=
  if 511 < number.toNat then .error .badValue
  else if s.writeAdmitted l .schedule = false then .error .groupLocked
  else .ok (s.writeWordAt number.toNat value)

/-- SET: class 0 a setting, class 1 a word, any other class BAD_VALUE (R153). -/
def State.doSet (s : State) (l : Link) (cls : Byte) (number value : Word16) : Except RefusalCode State :=
  if cls = 0#8 then s.doSetSetting l number value
  else if cls = 1#8 then s.doSetWord l number value
  else .error .badValue

/-- SEGMENT (R152). -/
def State.doSegment (s : State) (l : Link) (id : Byte) (base limit : Word16) (stride : Byte) :
    Except RefusalCode State :=
  match SegmentId.ofNum id.toNat with
  | none => .error .segmentRange
  | some g =>
    if segmentInRange base.toNat limit.toNat stride.toNat = false then .error .segmentRange
    else if s.writeAdmitted l .schedule = false then .error .groupLocked
    else .ok (s.writeSegment g base.toNat limit.toNat stride.toNat)

/-- One action against the working view (R178). -/
def State.doAction (s : State) (l : Link) (used : Nat) : Action → Except RefusalCode State
  | .claim n => s.doClaim l n
  | .release => s.doRelease l
  | .notch n => s.doNotch l n
  | .start m => s.doStart l m
  | .stop => s.doStop l
  | .cancel => s.doCancel l
  | .isolate o => s.doIsolate l o
  | .layup o => s.doLayup l o
  | .tripReset => s.doTripReset l
  | .read i n => s.doRead used i n
  | .set c n v => s.doSet l c n v
  | .segment i b lim st => s.doSegment l i b lim st

/-! ## The whole order (R177, R178) -/

/-- An action that an earlier action of the order already names (R177). -/
def duplicates (a b : Action) : Bool :=
  match a, b with
  | .read _ _, _ => false
  | .set c n _, .set c' n' _ => decide (c = c' ∧ n = n')
  | .set _ _ _, _ => false
  | a, b => a.code == b.code

/-- The size of an action's READ result. -/
def Action.resultSize : Action → Nat
  | .read i n => readSize i.toNat n.toNat
  | _ => 0

/-- The actions in their order against the working view: the committed view, or the refusal with its action index. -/
def State.runActions (l : Link) : Nat → Nat → List Action → List Action → State → Except (RefusalCode × Nat) State
  | _, _, _, [], w => .ok w
  | index, used, earlier, a :: rest, w =>
    if earlier.any (duplicates a) then .error (.duplicateAction, index)
    else
      match w.doAction l used a with
      | .error c => .error (c, index)
      | .ok w' => State.runActions l (index + 1) (used + Action.resultSize a) (earlier ++ [a]) rest w'

/-- Whether an action writes a wake enable, at whose commit the wake watch judges (R139). -/
def Action.writesWake : Action → Bool
  | .set c n _ => decide (c = 0#8) && ((Setting.ofNum n.toNat).map Setting.isWakeEnable).getD false
  | _ => false

/-- Whether an action begins a FULL start, whose PRELUBE is timed at the commit (R149, R178). -/
def Action.startsFull : Action → Bool
  | .start m => decide (startModeOf m = some .full)
  | _ => false

/-- What the owners complete in the commit of `as`: a FULL start that the order began makes its PRELUBE_TIME lookup, from
the words and entries as the order leaves them (R149, R178, assumption 27). -/
def State.completed (as : List Action) (w : State) : State := if as.any Action.startsFull then w.timePrelube else w

/-- The commit: the working view, completed, becomes the state, with what the neighbours do in the same event (R87,
R178). -/
def State.commit (s : State) (as : List Action) (w : State) : State :=
  s.settle (as.any Action.writesWake) (w.completed as)

/-! ## Replies (R181) -/

/-- The reply outcomes (section 9.7). -/
def acceptedCode : Nat := 1
def acceptedPendingCode : Nat := 2
def refusedCode : Nat := 3

/-- The body of a refusal, with the snapshot as it stands. -/
def State.refusalBody (s : State) (c : RefusalCode) (index : Nat) : List Byte :=
  [byteOf refusedCode, byteOf c.num, byteOf index] ++ s.snapshot

/-- An order with a CLAIM whose claimant is PENDING in the committed result (R14). -/
def State.answersPending (s : State) (l : Link) (as : List Action) : Bool :=
  as.any (fun a => a.code == 1) && decide ((s.entry (sourceOf l)).place = .pending)

/-- The body of an acceptance, with the snapshot and the READ results after the commit. -/
def State.acceptBody (s : State) (l : Link) (as : List Action) : List Byte :=
  [byteOf (if s.answersPending l as then acceptedPendingCode else acceptedCode), 0#8, 0#8] ++ s.snapshot ++
    s.readResults as

/-- The reply put at the first waiting order of a queue (R176). -/
def answerFirst (made : Nat) (body : List Byte) : List QueuedOrder → List QueuedOrder
  | [] => []
  | q :: rest =>
    match q.reply with
    | none => { q with reply := some ⟨made, encodeFrame kindReply q.tag body⟩ } :: rest
    | some _ => q :: answerFirst made body rest

/-- The reply placed at the order's own place in its queue. -/
def State.answer (s : State) (l : Link) (body : List Byte) : State :=
  let p := s.ports.get l
  s.withPort l { p with queue := answerFirst p.made body p.queue, made := p.made + 1 }

/-- The next order of a link: the first of its queue with no reply yet (R176). -/
def State.nextOrder (s : State) (l : Link) : Option QueuedOrder :=
  (s.ports.get l).queue.find? fun q => q.reply.isNone

/-- What the Order Unit reads in the next order of a link. -/
def State.nextParsed (s : State) (l : Link) : Option ParsedOrder := (s.nextOrder l).map fun q => parseOrder q.body

/-- The Order Unit can take an order of `l` with exactly these actions. -/
def State.offers (s : State) (l : Link) (as : List Action) : Bool :=
  s.orderUnitOpen && decide (s.nextParsed l = some (.actions as))

/-- The taking of an order: all of its actions or none, and its reply (R178, R181). -/
def State.takeOrder (s : State) (l : Link) (as : List Action) : State :=
  match State.runActions l 1 0 [] as s with
  | .error (c, index) => s.answer l (s.refusalBody c index)
  | .ok w => (s.commit as w).answer l ((s.commit as w).acceptBody l as)

/-- The row of an order's first action: the order is taken if it is the link's next (assumption 4). -/
def State.orderRow (s : State) (l : Link) (as : List Action) : State := if s.offers l as then s.takeOrder l as else s

/-! ## The rows -/

/-- CLAIM. -/
def execClaim (l : Link) (n : Byte) (more : List Action) (s : State) : Host.Outcome State Fault Refusal :=
  .next (s.orderRow l (.claim n :: more))

/-- RELEASE. -/
def execRelease (l : Link) (more : List Action) (s : State) : Host.Outcome State Fault Refusal :=
  .next (s.orderRow l (.release :: more))

/-- NOTCH. -/
def execNotch (l : Link) (n : Byte) (more : List Action) (s : State) : Host.Outcome State Fault Refusal :=
  .next (s.orderRow l (.notch n :: more))

/-- START. -/
def execStart (l : Link) (m : Byte) (more : List Action) (s : State) : Host.Outcome State Fault Refusal :=
  .next (s.orderRow l (.start m :: more))

/-- STOP. -/
def execStop (l : Link) (more : List Action) (s : State) : Host.Outcome State Fault Refusal :=
  .next (s.orderRow l (.stop :: more))

/-- CANCEL. -/
def execCancel (l : Link) (more : List Action) (s : State) : Host.Outcome State Fault Refusal :=
  .next (s.orderRow l (.cancel :: more))

/-- ISOLATE. -/
def execIsolate (l : Link) (o : Byte) (more : List Action) (s : State) : Host.Outcome State Fault Refusal :=
  .next (s.orderRow l (.isolate o :: more))

/-- LAYUP. -/
def execLayup (l : Link) (o : Byte) (more : List Action) (s : State) : Host.Outcome State Fault Refusal :=
  .next (s.orderRow l (.layup o :: more))

/-- TRIP_RESET. -/
def execTripReset (l : Link) (more : List Action) (s : State) : Host.Outcome State Fault Refusal :=
  .next (s.orderRow l (.tripReset :: more))

/-- READ. -/
def execRead (l : Link) (item : Byte) (number : Word16) (more : List Action) (s : State) :
    Host.Outcome State Fault Refusal :=
  .next (s.orderRow l (.read item number :: more))

/-- SET_SETTING: a SET of class 0. -/
def execSetSetting (l : Link) (number value : Word16) (more : List Action) (s : State) :
    Host.Outcome State Fault Refusal :=
  .next (s.orderRow l (.set 0#8 number value :: more))

/-- SET_WORD: a SET of class 1, or of a class that R153 refuses (assumption 23). -/
def execSetWord (l : Link) (cls : Byte) (number value : Word16) (more : List Action) (s : State) :
    Host.Outcome State Fault Refusal :=
  .next (s.orderRow l (.set cls number value :: more))

/-- SEGMENT. -/
def execSegment (l : Link) (id : Byte) (base limit : Word16) (stride : Byte) (more : List Action) (s : State) :
    Host.Outcome State Fault Refusal :=
  .next (s.orderRow l (.segment id base limit stride :: more))

/-- MALFORMED_ORDER: the next order of the link does not parse, and is answered REFUSED MALFORMED with the index its
parse gives (R177). -/
def execMalformedOrder (l : Link) (s : State) : Host.Outcome State Fault Refusal :=
  .next (if s.orderUnitOpen then
    match s.nextParsed l with
    | some (.malformed index) => s.answer l (s.refusalBody .malformed index)
    | _ => s
  else s)

end Sys2Proof.Machine
end

