-- ==== Sys2Proof/Machine/Ports.lean ====
section
/-! DEFINITION. The Link Ports: the receive assembler, the order queue and FULL answers, sending, the status timer, and
silence and lapse, with their rows (R21, R22, R173 to R176, R182, R183). -/

namespace Sys2Proof.Machine

/-! ## The receive assembler (R174) -/

/-- What the bytes that follow a SYNC byte are so far. -/
inductive FrameForm where
  | incomplete
  | bad
  | complete (length : Nat)
deriving DecidableEq, Repr

/-- The two CHECK bytes at the end of `r` agree with the check of the bytes before them (R175). -/
def checkAgrees (r : List Byte) : Bool :=
  decide (r.drop (r.length - 2) = be16Word (checkOf (r.take (r.length - 2))))

/-- The form of the bytes from LENGTH onward: LENGTH + 5 of them make a frame (R174). -/
def frameForm : List Byte → FrameForm
  | [] => .incomplete
  | len :: rest =>
    if len.toNat < 2 ∨ 60 < len.toNat then .bad
    else if rest.length + 1 < len.toNat + 5 then .incomplete
    else if checkAgrees ((len :: rest).take (len.toNat + 5)) then .complete (len.toNat + 5)
    else .bad

/-- What the assembler makes of a run of bytes that it examines in HUNT: the valid frames, each from LENGTH onward, and
the buffer of the frame left unfinished, if one is. A bad frame's bytes are examined afresh from the one after its
SYNC. The first argument bounds the bytes to examine. -/
def assemble : Nat → List RxByte → List (List RxByte) × Option (List RxByte)
  | 0, _ => ([], none)
  | _ + 1, [] => ([], none)
  | n + 1, b :: rest =>
    if b.byte ≠ Config.syncByte then assemble n rest
    else
      match frameForm (rest.map RxByte.byte) with
      | .incomplete => ([], some rest)
      | .bad => assemble n rest
      | .complete k => (rest.take k :: (assemble n (rest.drop k)).1, (assemble n (rest.drop k)).2)

/-- The port's assembler with a buffer, or in HUNT with none. -/
def Port.withBuffer (p : Port) : Option (List RxByte) → Port
  | some buf => { p with assembler := .frame, buffer := buf }
  | none => { p with assembler := .hunt, buffer := [] }

/-- The bytes the assembler has still to judge: the SYNC and the buffer of the frame it is collecting. -/
def Port.unjudged (p : Port) : List RxByte :=
  match p.assembler with
  | .hunt => []
  | .frame => ⟨Config.syncByte, p.lastByteAt⟩ :: p.buffer

/-! ## The order queue (R176) -/

/-- A valid frame refreshes last heard at the receipt of its last CHECK byte, whatever it carries (R21, R174). -/
def Port.refreshHeard (p : Port) (t : Nat) : Port := { p with lastHeard := t, silent := false }

/-- An order offered to the queue: queued, answered FULL, or discarded (R176). -/
def State.offerOrder (s : State) (l : Link) (tag : Byte) (body : List Byte) : State :=
  let p := s.ports.get l
  if p.queue.length < 4 then s.withPort l { p with queue := p.queue ++ [⟨tag, body, none⟩] }
  else if p.fulls.length < 2 then
    s.withPort l { p with
      fulls := p.fulls ++ [⟨p.made, encodeFrame kindReply tag (s.refusalBody .full 1)⟩]
      made := p.made + 1 }
  else s

/-- A valid frame delivered, its bytes from LENGTH onward: an ORDER is offered to the queue, any other KIND dropped. -/
def State.deliverFrame (s : State) (l : Link) (frame : List RxByte) : State :=
  let s1 := s.withPort l ((s.ports.get l).refreshHeard ((frame.getLast?.map RxByte.at_).getD s.now))
  match frame.map RxByte.byte with
  | len :: kind :: tag :: rest =>
    if kind = kindOrder then s1.offerOrder l tag (rest.take len.toNat) else s1
  | _ => s1

/-- One received character. One without a stop bit makes the frame bad, and the port hunts from the next (R174). -/
def State.receiveChar (l : Link) (s : State) (c : RxChar) : State :=
  let p := s.ports.get l
  if c.stopBit = false then s.withPort l { p.withBuffer none with lastByteAt := s.now }
  else
    let bytes := p.unjudged ++ [⟨c.byte, s.now⟩]
    let out := assemble bytes.length bytes
    out.1.foldl (fun t f => t.deliverFrame l f) (s.withPort l { p.withBuffer out.2 with lastByteAt := s.now })

/-- A gap of more than 10 ms since the last byte makes the frame being collected bad (R174). -/
def State.gapCheck (s : State) (l : Link) : State :=
  let p := s.ports.get l
  if p.assembler = .frame ∧ p.lastByteAt + Config.byteGap < s.now then s.withPort l (p.withBuffer none) else s

/-- FRAME_RECEIVED: characters arrive on a link, `after` ms on. While RESET-LINE is asserted the port receives
nothing (R173). -/
def execFrameReceived (after : Nat) (l : Link) (chars : List RxChar) (s : State) : Host.Outcome State Fault Refusal :=
  let s1 := s.elapse after
  .next (if s1.live then chars.foldl (State.receiveChar l) (s1.gapCheck l) else s1)

/-- INTER_BYTE_GAP: more than 10 ms pass after the last byte of the frame being collected (R174). -/
def execInterByteGap (l : Link) (s : State) : Host.Outcome State Fault Refusal :=
  let p := s.ports.get l
  .next (if s.live = true ∧ p.assembler = .frame then
    (s.reach (p.lastByteAt + Config.byteGap + 1)).withPort l (p.withBuffer none) else s)

/-! ## Sending (R176, R182, R183) -/

/-- A status frame built from the present state; the lapse mark, carried by it, is cleared (R182). -/
def State.sendStatus (s : State) (l : Link) : State :=
  s.withPort l { s.ports.get l with
    sending := some ⟨.status, encodeFrame kindStatus 0#8 (s.statusBody l), s.now⟩
    statusDue := false
    lapseMark := false }

/-- The oldest FULL answer begins to be sent and waits no more (assumption 14). -/
def State.sendFull (s : State) (l : Link) (r : ReadyReply) : State :=
  s.withPort l { s.ports.get l with
    sending := some ⟨.full, r.bytes, s.now⟩
    fulls := (s.ports.get l).fulls.tail }

/-- The reply at the head of the queue begins to be sent; its order stays until it has been sent in full. -/
def State.sendReply (s : State) (l : Link) (r : ReadyReply) : State :=
  s.withPort l { s.ports.get l with sending := some ⟨.reply, r.bytes, s.now⟩ }

/-- The reply at the head of a queue. -/
def headReply (q : List QueuedOrder) : Option ReadyReply := q.head?.bind QueuedOrder.reply

/-- The next frame of a port whose line is free: a due status frame, then FULL answers and replies in the order in which
they were made (R176). -/
def State.sendNext (s : State) (l : Link) : State :=
  let p := s.ports.get l
  if p.statusDue then s.sendStatus l
  else
    match p.fulls.head?, headReply p.queue with
    | some f, some r => if f.made < r.made then s.sendFull l f else s.sendReply l r
    | some f, none => s.sendFull l f
    | none, some r => s.sendReply l r
    | none, none => s

/-- FRAME_TRANSMIT: the line of a port is free, and it begins its next frame. -/
def execFrameTransmit (l : Link) (s : State) : Host.Outcome State Fault Refusal :=
  .next (if s.live = true ∧ (s.ports.get l).sending = none then s.sendNext l else s)

/-- How long a frame of `n` bytes is on the line, in ms rounded up: ten bits a byte at 57 600 baud, no gaps (R183). -/
def lineTime (n : Nat) : Nat := (n * 10000 + 57599) / 57600

/-- A port whose frame has been sent in full: an answered order leaves its queue, and the line is free (R176). -/
def Port.sentInFull (p : Port) (k : SentKind) : Port :=
  match k with
  | .reply => { p with sending := none, queue := p.queue.tail }
  | .status => { p with sending := none }
  | .full => { p with sending := none }

/-- FRAME_SENT_IN_FULL: the last byte of the frame on the line leaves the port. -/
def execFrameSentInFull (l : Link) (s : State) : Host.Outcome State Fault Refusal :=
  match (s.ports.get l).sending with
  | none => .next s
  | some f =>
    .next (if s.live then
      (s.reach (f.begun + lineTime f.bytes.length)).withPort l ((s.ports.get l).sentInFull f.kind) else s)

/-- STATUS_TIMER_EXPIRY: the timer restarts at 500 ms and a status frame is made ready (R182). -/
def execStatusTimerExpiry (l : Link) (s : State) : Host.Outcome State Fault Refusal :=
  let p := s.ports.get l
  let s1 := s.reach p.statusEnd
  .next (if s.live then s1.withPort l { p with statusEnd := s1.now + Config.statusPeriod, statusDue := true } else s)

/-! ## Silence and lapse (R21, R22) -/

/-- SILENCE_EXPIRY: the time since last heard becomes greater than the silence limit, and the port reports a lapse, once
for each silence (R21). -/
def execSilenceExpiry (l : Link) (s : State) : Host.Outcome State Fault Refusal :=
  let p := s.ports.get l
  .next (if s.live = true ∧ p.silent = false then
    (s.reach (p.lastHeard + s.silenceLimit l + 1)).reportLapse l else s)

/-- The Arbiter's taking of a lapse: dropped when the silence no longer exceeds the limit, without effect on a source that
is OUT, else the effect of a RELEASE and the lapse mark (R22). It is dropped too where a write, and no valid frame, has
brought the limit above the present silence, which stays marked as reported (DESIGN CHOICE, assumption 40). -/
def State.lapseEffect (s : State) (l : Link) : State :=
  if s.silenceLimit l < s.silenceOf l ∧ (s.entry (sourceOf l)).place ≠ .out then
    (s.releaseSource (sourceOf l)).withPort l { s.ports.get l with lapseMark := true }
  else s

/-- The report is taken from the port. -/
def State.takeReport (s : State) (l : Link) : State := s.withPort l { s.ports.get l with lapseWaiting := false }

/-- LAPSE: the Arbiter takes a reported lapse. -/
def execLapse (l : Link) (s : State) : Host.Outcome State Fault Refusal :=
  .next (if s.live = true ∧ (s.ports.get l).lapseWaiting = true then
    s.event false fun t => (t.takeReport l).lapseEffect l else s)

end Sys2Proof.Machine
end

