-- ==== Sys2Proof/Machine/Timers.lean ====
section
/-! DEFINITION. The rows of the Stepper's update, the Monitor's own onset, the expiries of the start phases, the lockout,
the credit, the engine timers and the idle timer, and the judgement after an entry to LAID_UP. A row whose timer does
not run in the state it finds has no effect (assumption 3). -/

namespace Sys2Proof.Machine

/-- STEPPER_UPDATE (R82). Until the engine state is chosen an update leaves everything at 0 (R110). -/
def execStepperUpdate (s : State) : Host.Outcome State Fault Refusal :=
  let s1 := s.reach s.stepper.nextUpdate
  let s2 : State := { s1 with stepper := { s1.stepper with nextUpdate := s1.stepper.nextUpdate + Config.period } }
  .next (if s.live then
    if s.engine.awaitingChoice then s2 else s1.judgeIdle s2.update
  else s)

/-- SCHEDULE_FAULT_ONSET: the Monitor takes a reported lookup fault as its own event (R120). -/
def execScheduleFaultOnset (s : State) : Host.Outcome State Fault Refusal :=
  .next (if s.live = true ∧ s.monitor.faultReported = true ∧ (s.channel .scheduleFault).armed = true then
    s.event false fun t => ({ t with monitor := { t.monitor with faultReported := false } } : State).latchFault else s)

/-- The phase timer discarded. -/
def State.dropPhaseTimer (s : State) : State := { s with sequencer := { s.sequencer with timer := none } }

/-- An expiry of the phase timer in the phase `p`, taken no earlier than its instant. -/
def State.phaseExpiry (s : State) (p : Phase) (change : State → State) : State :=
  match s.sequencer.timer with
  | none => s
  | some t =>
    if s.live = true ∧ s.engine.state = some (.starting p) then (s.reach t).event false fun u => change u.dropPhaseTimer
    else s

/-- PRELUBE_TIMER_EXPIRY (R59). -/
def execPrelubeTimerExpiry (s : State) : Host.Outcome State Fault Refusal :=
  .next (s.phaseExpiry .prelube State.prelubeCheck)

/-- CRANK_WINDOW_EXPIRY (R63). -/
def execCrankWindowExpiry (s : State) : Host.Outcome State Fault Refusal :=
  .next (s.phaseExpiry .crank fun t => t.failAttempt .noFire)

/-- CATCH_WINDOW_EXPIRY (R66). -/
def execCatchWindowExpiry (s : State) : Host.Outcome State Fault Refusal :=
  .next (s.phaseExpiry .catching fun t => t.failAttempt .noCatch)

/-- REST_TIMER_EXPIRY: CRANK if the most recent speed is below 20 rpm, else the wait of R68. -/
def execRestTimerExpiry (s : State) : Host.Outcome State Fault Refusal := .next (s.phaseExpiry .rest State.restTest)

/-- LUBE_WINDOW_EXPIRY: the lube window is the phase timer of WARM while the lube is not yet seen (R70). -/
def execLubeWindowExpiry (s : State) : Host.Outcome State Fault Refusal :=
  .next (if s.sequencer.lubeSeen = some false then s.phaseExpiry .warm fun t => t.endStart .noOilPressure else s)

/-- WARM_TIMER_EXPIRY: the warm timer is the phase timer of WARM once the lube is seen (R71). -/
def execWarmTimerExpiry (s : State) : Host.Outcome State Fault Refusal :=
  .next (if s.sequencer.lubeSeen = some true then s.phaseExpiry .warm State.warmCheck else s)

/-- STARTER_LOCKOUT_EXPIRY: the lockout becomes absent, and a laid-up engine's causes are judged (R69, R139). -/
def execStarterLockoutExpiry (s : State) : Host.Outcome State Fault Refusal :=
  match s.sequencer.lockoutEnd with
  | none => .next s
  | some t =>
    .next (if s.live then
      (s.reach t).event true fun u => { u with sequencer := { u.sequencer with lockoutEnd := none } } else s)

/-- PRELUBE_CREDIT_EXPIRY: the credit becomes absent (R60). -/
def execPrelubeCreditExpiry (s : State) : Host.Outcome State Fault Refusal :=
  match s.sequencer.creditEnd with
  | none => .next s
  | some t =>
    let s1 := s.reach t
    .next (if s.live then { s1 with sequencer := { s1.sequencer with creditEnd := none } } else s)

/-- COOLDOWN_EXPIRY (R43). -/
def execCooldownExpiry (s : State) : Host.Outcome State Fault Refusal :=
  match s.engine.cooldownEnd with
  | none => .next s
  | some t =>
    .next (if s.live = true ∧ s.engine.state = some .cooldown then (s.reach t).event false State.endCooldown else s)

/-- RUNDOWN_EXPIRY (R45). -/
def execRundownExpiry (s : State) : Host.Outcome State Fault Refusal :=
  match s.engine.rundownEnd with
  | none => .next s
  | some t =>
    .next (if s.live = true ∧ s.engine.state = some .rundown then (s.reach t).event false State.endRundown else s)

/-- IDLE_TIMER_EXPIRY: the idle timer reaches IDLE_LIMIT, and a layup request is made (R46, R137). -/
def execIdleTimerExpiry (s : State) : Host.Outcome State Fault Refusal :=
  match s.idle.idleSince with
  | none => .next s
  | some t =>
    .next (if s.live then (s.reach (t + s.settings.idleLimit * 1000)).event false State.layupRequest else s)

/-- LAID_UP_ENTRY_JUDGEMENT: the judgement that follows an entry to LAID_UP (R139). -/
def execLaidUpEntryJudgement (s : State) : Host.Outcome State Fault Refusal :=
  .next (if s.live = true ∧ s.idle.entryJudgementDue = true then
    s.event true fun t => { t with idle := { t.idle with entryJudgementDue := false } } else s)

end Sys2Proof.Machine
end

