-- ==== Sys2Proof/Machine/Resets.lean ====
section
/-! DEFINITION. The resets and the supply: POWER_ON, RESET_LINE_ASSERT, RESET_LINE_EXIT and LOSS_OF_SUPPLY (R3, R50 to
R52, R78, R79, R109, R110, R130, R131, R145, R158, R171 to R173). -/

namespace Sys2Proof.Machine

/-! ## POWER-ON and the loss of supply -/

/-- An input at the POWER-ON exit: filtered inactive, the selected level formed from the raw level, a stability timing
from the exit where it is active (R171). -/
def State.poweredInput (s : State) (levels : PerInput Bool) (i : Input) : InputState :=
  InputState.refresh ⟨levels.get i, false, false, none⟩ (s.selectedAt i (levels.get i)) s.now

/-- Every block at its POWER-ON values, the nonvolatile contents kept (R158). -/
def State.powerOnValues (s : State) (levels : PerInput Bool) : State :=
  State.poweredUp s.now s.store.clearMarks (PerInput.build (s.poweredInput levels)) s.pending

/-- POWER_ON: the supply is applied and the part leaves reset `after` ms on, with the discrete inputs at `levels`; the
first scan, of the readings `raw`, is made at the exit (R50, R161). -/
def execPowerOn (after : Nat) (raw : PerAnalog Int) (levels : PerInput Bool) (s : State) :
    Host.Outcome State Fault Refusal :=
  .next (((s.elapse after).powerOnValues levels).takeScan raw)

/-- The raw levels of the inputs. -/
def State.rawLevels (s : State) : PerInput Bool := PerInput.build fun i => (s.frontEnd.inputs.get i).raw

/-- LOSS_OF_SUPPLY: the part stops, and only the nonvolatile store stands (R158). The volatile blocks are shown at their
POWER-ON values meanwhile (assumption 7). -/
def execLossOfSupply (after : Nat) (s : State) : Host.Outcome State Fault Refusal :=
  let s1 := s.elapse after
  .next (if s1.supply then { s1.powerOnValues s1.rawLevels with supply := false } else s1)

/-! ## The assertion of RESET-LINE -/

/-- A port at the assertion: queue, FULL answers and buffer emptied, the frame on the line cut off, the status frame not
sent; the lapse mark kept (R173, R182). -/
def Port.asserted (p : Port) : Port :=
  { p with assembler := .hunt, buffer := [], queue := [], fulls := [], statusDue := false, sending := none }

/-- The Arbiter at the assertion: as after POWER-ON, but PROTECTION alone holds while the Trip List is non-empty (R3). -/
def Arbiter.asserted (tripsKept : Bool) : Arbiter :=
  if tripsKept then
    { table := (PerSource.all Entry.reset).set .protection { Entry.reset with place := .holding, mtch := some .matched }
      stack := [.protection]
      waiting := [] }
  else Arbiter.reset

/-- The Controller at the assertion: the layup mark kept, and TRIPPED kept as a state (R51). -/
def Engine.asserted (e : Engine) : Engine :=
  { Engine.reset with
    state := if e.state = some .tripped then some .tripped else none
    layupMark := e.layupMark }

/-- The Start Record at the assertion: a start in progress is abandoned with outcome RESET (R51, R79). -/
def Sequencer.asserted (q : Sequencer) (starting : Bool) : Sequencer :=
  if starting then { q.idle with record := q.record.map fun r => { r with outcome := .reset } } else q.idle

/-- The Monitor at the assertion: only SCHEDULE_FAULT keeps its arming and, while latched, its entry (R131). -/
def Monitor.asserted (m : Monitor) : Monitor :=
  { m with
    channels := (PerChannel.all ChannelState.reset).set .scheduleFault (m.channels.get .scheduleFault)
    conditions := m.conditions.filter (· == .scheduleFault) }

/-- An input at the assertion: its stability timing is discarded (R172). -/
def InputState.asserted (v : InputState) : InputState := { v with since := none }

/-- Whether a start is in progress. -/
def State.startRuns (s : State) : Bool := (s.engine.state.map EngineState.isStarting).getD false

/-- Everything that the assertion of RESET-LINE does. -/
def State.assertReset (s : State) : State :=
  let s1 : State := { (s.withStartOutputs false false).unload with
    resetSince := some s.now
    ports := ⟨s.ports.cab.asserted, s.ports.consist.asserted, s.ports.remote.asserted, s.ports.shop.asserted⟩
    arbiter := Arbiter.asserted (!s.monitor.trips.isEmpty)
    engine := s.engine.asserted
    sequencer := s.sequencer.asserted s.startRuns
    monitor := s.monitor.asserted
    idle := IdleReduction.reset
    frontEnd := { s.frontEnd with
      inputs := PerInput.build fun i => (s.frontEnd.inputs.get i).asserted } }
  s1.presentLoops.setAlert

/-- RESET_LINE_ASSERT: RESET-LINE is asserted `after` ms on, while the part is powered (R51). -/
def execResetLineAssert (after : Nat) (s : State) : Host.Outcome State Fault Refusal :=
  let s1 := s.elapse after
  .next (if s1.live then s1.assertReset else s1)

/-! ## The exit from RESET-LINE -/

/-- A remainder that did not count down for `ms` (R79). -/
def laterBy (ms : Nat) (t : Option Nat) : Option Nat := t.map (· + ms)

/-- The Front End at the exit, its first scan still to be taken (R172). -/
def State.exitFrontEnd (s : State) : FrontEnd :=
  { FrontEnd.reset s.now (PerInput.build fun i =>
      let v := s.frontEnd.inputs.get i
      v.refresh (s.selectedAt i v.raw) s.now) with
    scan := s.frontEnd.scan
    clamped := s.frontEnd.clamped
    reported := s.frontEnd.reported }

/-- Everything that the exit does but the first scan; `since` is when RESET-LINE was asserted. The blocks hold what the
assertion left in them (R51, R79, R110, R131). -/
def State.exitReset (s : State) (since : Nat) : State :=
  { s with
    resetSince := none
    ports := ⟨Port.fresh s.now s.ports.cab.lapseMark, Port.fresh s.now s.ports.consist.lapseMark,
      Port.fresh s.now s.ports.remote.lapseMark, Port.fresh s.now s.ports.shop.lapseMark⟩
    sequencer := { s.sequencer with
      lockoutEnd := laterBy (s.now - since) s.sequencer.lockoutEnd
      creditEnd := laterBy (s.now - since) s.sequencer.creditEnd }
    stepper := { s.stepper with dwellMark := s.now, nextUpdate := s.now + Config.period }
    frontEnd := s.exitFrontEnd }

/-- RESET_LINE_EXIT: RESET-LINE is released `after` ms on, and the first scan, of the readings `raw`, is made (R172). -/
def execResetLineExit (after : Nat) (raw : PerAnalog Int) (s : State) : Host.Outcome State Fault Refusal :=
  let s1 := s.elapse after
  .next (if s1.supply then
    match s1.resetSince with
    | some since => (s1.exitReset since).takeScan raw
    | none => s1
  else s1)

end Sys2Proof.Machine
end

