-- ==== Sys2Proof/Machine/Dispatch.lean ====
section
/-! DEFINITION. The dispatch: one arm per command, each a call of its meaning. -/

namespace Sys2Proof.Machine

def exec (i : Instr) (s : State) : Host.Outcome State Fault Refusal :=
  match i with
  | .powerOn after raw levels => Sys2Proof.Machine.execPowerOn after raw levels s
  | .resetLineAssert after => Sys2Proof.Machine.execResetLineAssert after s
  | .resetLineExit after raw => Sys2Proof.Machine.execResetLineExit after raw s
  | .frameReceived after link chars => Sys2Proof.Machine.execFrameReceived after link chars s
  | .interByteGap link => Sys2Proof.Machine.execInterByteGap link s
  | .frameTransmit link => Sys2Proof.Machine.execFrameTransmit link s
  | .statusTimerExpiry link => Sys2Proof.Machine.execStatusTimerExpiry link s
  | .claim link n more => Sys2Proof.Machine.execClaim link n more s
  | .release link more => Sys2Proof.Machine.execRelease link more s
  | .notch link n more => Sys2Proof.Machine.execNotch link n more s
  | .start link mode more => Sys2Proof.Machine.execStart link mode more s
  | .stop link more => Sys2Proof.Machine.execStop link more s
  | .cancel link more => Sys2Proof.Machine.execCancel link more s
  | .isolate link operand more => Sys2Proof.Machine.execIsolate link operand more s
  | .layup link operand more => Sys2Proof.Machine.execLayup link operand more s
  | .tripReset link more => Sys2Proof.Machine.execTripReset link more s
  | .read link item number more => Sys2Proof.Machine.execRead link item number more s
  | .setSetting link number value more => Sys2Proof.Machine.execSetSetting link number value more s
  | .setWord link cls number value more => Sys2Proof.Machine.execSetWord link cls number value more s
  | .segment link id base limit stride more => Sys2Proof.Machine.execSegment link id base limit stride more s
  | .silenceExpiry link => Sys2Proof.Machine.execSilenceExpiry link s
  | .lapse link => Sys2Proof.Machine.execLapse link s
  | .sensorScan raw => Sys2Proof.Machine.execSensorScan raw s
  | .speedMeasurement => Sys2Proof.Machine.execSpeedMeasurement s
  | .flywheelPulse after => Sys2Proof.Machine.execFlywheelPulse after s
  | .rawInputEdge after input level => Sys2Proof.Machine.execRawInputEdge after input level s
  | .filteredLevelChange input => Sys2Proof.Machine.execFilteredLevelChange input s
  | .stepperUpdate => Sys2Proof.Machine.execStepperUpdate s
  | .scheduleFaultOnset => Sys2Proof.Machine.execScheduleFaultOnset s
  | .prelubeTimerExpiry => Sys2Proof.Machine.execPrelubeTimerExpiry s
  | .crankWindowExpiry => Sys2Proof.Machine.execCrankWindowExpiry s
  | .catchWindowExpiry => Sys2Proof.Machine.execCatchWindowExpiry s
  | .restTimerExpiry => Sys2Proof.Machine.execRestTimerExpiry s
  | .lubeWindowExpiry => Sys2Proof.Machine.execLubeWindowExpiry s
  | .warmTimerExpiry => Sys2Proof.Machine.execWarmTimerExpiry s
  | .starterLockoutExpiry => Sys2Proof.Machine.execStarterLockoutExpiry s
  | .prelubeCreditExpiry => Sys2Proof.Machine.execPrelubeCreditExpiry s
  | .cooldownExpiry => Sys2Proof.Machine.execCooldownExpiry s
  | .rundownExpiry => Sys2Proof.Machine.execRundownExpiry s
  | .idleTimerExpiry => Sys2Proof.Machine.execIdleTimerExpiry s
  | .laidUpEntryJudgement => Sys2Proof.Machine.execLaidUpEntryJudgement s
  | .lossOfSupply after => Sys2Proof.Machine.execLossOfSupply after s
  | .frameSentInFull link => Sys2Proof.Machine.execFrameSentInFull link s
  | .malformedOrder link => Sys2Proof.Machine.execMalformedOrder link s

end Sys2Proof.Machine
end

