-- ==== Sys2Proof/Safety.lean ====
section
/-! DEFINITION. What a sound state of the part is, in the terms that claims use: one structure per block, each an
invariant of the steps; and the frames that the claims about single commands share. -/

namespace Sys2Proof.Machine

/-! ## The two stores -/

/-- A Segment Table entry within the bounds of R148. -/
def SegmentEntry.legal (e : SegmentEntry) : Prop :=
  e.base ≤ 511 ∧ 1 ≤ e.limit ∧ e.limit ≤ 512 ∧ 1 ≤ e.stride ∧ e.stride ≤ 16 ∧ e.base + e.limit ≤ 512

/-- The stores: words in canonical form, segments within their bounds, settings in range, ranks distinct
(R147, R148, R154). -/
structure StoreSound (s : State) : Prop where
  words : wordsWellFormed s.store.words = true
  segments : ∀ g : SegmentId, (s.store.segments.get g).legal
  settings : ∀ k : Setting, k.inRange (s.settings.get k) = true
  ranks : ∀ l m : Link, l ≠ m → s.settings.get (rankSetting l) ≠ s.settings.get (rankSetting m)

/-! ## The Link Ports -/

/-- The orders answered stand before those still to be taken (R176). -/
def answeredFirst (q : List QueuedOrder) : Prop := q.Pairwise fun a b => b.reply.isSome = true → a.reply.isSome = true

/-- A port: at most four orders and two FULL answers, orders answered in their order, an empty buffer in HUNT and one
no longer than a frame's otherwise (R173, R176). -/
structure PortSound (p : Port) : Prop where
  queue : p.queue.length ≤ 4
  fulls : p.fulls.length ≤ 2
  order : answeredFirst p.queue
  hunting : p.assembler = .hunt → p.buffer = []

def PortsSound (s : State) : Prop := ∀ l : Link, PortSound (s.ports.get l)

/-! ## The Authority Arbiter -/

/-- The table and the two collections agree, both collections are in strict rank order, and the holder alone has a match
state (R2, R5, R6, R7). -/
structure AuthoritySound (s : State) : Prop where
  holding : ∀ x : Source, (s.entry x).place = .holding ↔ s.holder = some x
  suspended : ∀ x : Source, (s.entry x).place = .suspended ↔ x ∈ s.arbiter.stack.tail
  pending : ∀ x : Source, (s.entry x).place = .pending ↔ x ∈ s.arbiter.waiting
  out : ∀ x : Source, (s.entry x).place = .out → s.entry x = Entry.reset
  stackOrder : s.arbiter.stack.Pairwise fun a b => s.rank a < s.rank b
  waitingOrder : s.arbiter.waiting.Pairwise fun a b => s.rank a < s.rank b
  links : Source.protection ∉ s.arbiter.waiting
  apart : ∀ x : Source, x ∈ s.arbiter.waiting → x ∉ s.arbiter.stack
  unheld : s.arbiter.stack = [] → s.arbiter.waiting = []
  matched : ∀ x : Source, (s.entry x).mtch.isSome = true ↔ (s.entry x).place = .holding
  held : ∀ x : Source, (s.entry x).held.isSome = true ↔ (s.entry x).mtch = some .matching
  matching : ∀ (x : Source) (h : Nat), (s.entry x).held = some h → h < (s.entry x).request
  requests : ∀ x : Source, (s.entry x).request ≤ 8
  protection : (s.entry .protection).request = 0 ∧ (s.entry .protection).permission = .forbid

/-- The Trip List is non-empty exactly while PROTECTION holds (R126). -/
def ProtectionHoldsTrips (s : State) : Prop := s.monitor.trips ≠ [] ↔ s.holder = some .protection

/-! ## The engine, the Sequencer and their contactors -/

/-- The engine state and what goes with it: a state chosen but from a reset to the choice, which RESET-LINE puts off,
FUEL_RUN, STARTER and PRELUBE at the levels of the state, the stop kind and the timers present just in STOPPING, the trip
latched (R30, R31, R50, R51, R56, R126). -/
structure EngineSound (s : State) : Prop where
  waiting : s.engine.awaitingChoice = true → s.engine.state = none ∨ s.engine.state = some .tripped
  chosen : s.engine.awaitingChoice = false → s.engine.state ≠ none
  resetting : s.resetSince ≠ none → s.engine.awaitingChoice = true
  fuel : ∀ st : EngineState, s.engine.awaitingChoice = false → s.engine.state = some st → s.outputs.fuelRun = st.fuel
  starter : s.outputs.starter = true ↔ s.engine.state = some (.starting .crank)
  prelube : s.outputs.prelube = true ↔ ∃ p : Phase, s.engine.state = some (.starting p) ∧ p ≠ .warm
  stopKind : s.engine.stopKind.isSome = true ↔ s.engine.state = some .cooldown ∨ s.engine.state = some .rundown
  cooldown : s.engine.cooldownEnd.isSome = true ↔ s.engine.state = some .cooldown
  rundown : s.engine.rundownEnd.isSome = true ↔ s.engine.state = some .rundown
  phaseItems : (∀ p : Phase, s.engine.state ≠ some (.starting p)) → s.sequencer = s.sequencer.idle
  trips : s.monitor.trips ≠ [] ↔ s.engine.state = some .tripped

/-! ## The Condition Monitor -/

/-- Whether a channel is to be armed: as the table of R121 has it for the state, and in no state not at all. -/
def armedFor (st : Option EngineState) (c : Channel) : Bool :=
  match st with
  | some st => c.armedIn st
  | none => false

/-- The channels are armed as the present state asks (R121). -/
def State.armsAgree (s : State) : Prop := ∀ c : Channel, (s.channel c).armed = armedFor s.engine.state c

/-- The Monitor: channels armed as the state asks, only armed channels listed and each once, the latch with the entry of
SCHEDULE_FAULT, ALERT with the two lists (R112, R120, R121, R123, R125, R131). -/
structure MonitorSound (s : State) : Prop where
  armed : s.engine.awaitingChoice = false → s.armsAgree
  waiting : s.engine.awaitingChoice = true → ∀ c : Channel, c ≠ .scheduleFault → (s.channel c).armed = false
  listed : ∀ c : Channel, c ∈ s.monitor.conditions → (s.channel c).armed = true
  once : s.monitor.conditions.Nodup
  latch : s.monitor.latch = true ↔ Channel.scheduleFault ∈ s.monitor.conditions
  alert : s.outputs.alert = s.alertLevel
  onsetCounts : ∀ c : Channel, (s.channel c).onset ≤ 2
  clearCounts : ∀ c : Channel, (s.channel c).clear ≤ 19

/-! ## The Notch Stepper -/

/-- The Stepper: the granted notch within the target, the loads within the granted notch's ceiling and 0 with it, the
outputs at their references, and until the choice everything at 0 but the held GOVERNOR (R92, R95, R96, R106, R107, R110). -/
structure StepperSound (s : State) : Prop where
  waiting : s.engine.awaitingChoice = true → s.engine.state = none ∨ s.engine.state = some .tripped
  target : s.stepper.target = s.targetNotch
  granted : s.stepper.granted ≤ s.targetNotch
  loadTarget : s.stepper.loadTarget ≤ s.store.loadCeiling s.stepper.granted
  loadRef : s.stepper.loadRef ≤ s.store.loadCeiling s.stepper.granted
  unloaded : s.stepper.granted = 0 → s.stepper.loadTarget = 0 ∧ s.stepper.loadRef = 0
  speed : s.engine.awaitingChoice = false → s.stepper.speedRef = s.formedSpeed
  governor : s.outputs.governor = s.stepper.speedRef
  excitation : s.outputs.excitation = s.stepper.loadRef

/-! ## The Idle-Reduction Controller -/

/-- The idle timer runs exactly while every idle condition holds (R135, R136). -/
def IdleSound (s : State) : Prop := s.idle.idleSince.isSome = true ↔ s.idleConditions = true

/-! ## Frames -/

/-- Two states with the same contents of the stores but for the fault marks, which a lookup may set. -/
def sameContents (s t : State) : Prop :=
  t.store.words = s.store.words ∧ t.store.settings = s.store.settings ∧
    ∀ g : SegmentId, (t.store.segments.get g).base = (s.store.segments.get g).base ∧
      (t.store.segments.get g).limit = (s.store.segments.get g).limit ∧
      (t.store.segments.get g).stride = (s.store.segments.get g).stride

/-- The Monitor as it was, but for a reported lookup fault. -/
def sameMonitor (s t : State) : Prop := t.monitor = { s.monitor with faultReported := t.monitor.faultReported }

/-- The four contactors as they were, but for ALERT. -/
def sameContactors (s t : State) : Prop :=
  t.outputs.starter = s.outputs.starter ∧ t.outputs.prelube = s.outputs.prelube ∧ t.outputs.fuelRun = s.outputs.fuelRun

/-- The clock, the supply, RESET-LINE, the Front End and the queue of commands as they were. -/
def sameWorld (s t : State) : Prop :=
  t.now = s.now ∧ t.supply = s.supply ∧ t.resetSince = s.resetSince ∧ t.frontEnd = s.frontEnd ∧ t.pending = s.pending

/-- The ports of every link but `l` as they were, and that of `l` with the body `body` as the reply of its next order. -/
def answersOnly (s t : State) (l : Link) (body : List Byte) : Prop :=
  t.ports = s.ports.set l { s.ports.get l with
    queue := answerFirst (s.ports.get l).made body (s.ports.get l).queue
    made := (s.ports.get l).made + 1 }

/-- The body of a reply of an accepted order with no READ, in the state that the order left (R181). -/
def acceptedBody (t : State) (outcome : Nat) : List Byte := [byteOf outcome, 0#8, 0#8] ++ t.snapshot

/-- What an event leaves untouched that moves neither the engine nor any sensed value: the world, the engine, the start
record, the stores' contents, the Monitor and the contactors. -/
structure EngineStands (s t : State) : Prop where
  world : sameWorld s t
  engine : t.engine = s.engine
  sequencer : t.sequencer = s.sequencer
  contents : sameContents s t
  monitor : sameMonitor s t
  contactors : sameContactors s t

/-- The command that takes an order with the first action `a` (assumptions 4 and 23). -/
def orderCommand (l : Link) (a : Sys2Proof.Action) (more : List Sys2Proof.Action) : Instr :=
  match a with
  | .claim n => .claim l n more
  | .release => .release l more
  | .notch n => .notch l n more
  | .start m => .start l m more
  | .stop => .stop l more
  | .cancel => .cancel l more
  | .isolate o => .isolate l o more
  | .layup o => .layup l o more
  | .tripReset => .tripReset l more
  | .read i n => .read l i n more
  | .set c n v => if c = 0#8 then .setSetting l n v more else .setWord l c n v more
  | .segment i b lim st => .segment l i b lim st more

/-- A first trip, by the channels `cs` that have onset in its event, as its three owners and the Stepper take it
(R24, R48, R74, R93, R126, R127). -/
structure TripsTaken (s t : State) (cs : List Channel) : Prop where
  engine : t.engine = { s.engine with
    state := some .tripped, stopKind := none, layupMark := false, cooldownEnd := none, rundownEnd := none }
  trips : t.monitor.trips = cs.map fun c => ⟨c, s.engine.state⟩
  listed : ∀ d : Channel, d ∈ t.monitor.conditions → d.armedIn .tripped = true
  fuel : t.outputs.fuelRun = false
  alert : t.outputs.alert = true
  governor : t.outputs.governor = 0
  start : t.sequencer.record =
    if s.startRuns then s.sequencer.record.map (fun r => { r with outcome := .tripped }) else s.sequencer.record
  contactors : s.startRuns = true → t.outputs.starter = false ∧ t.outputs.prelube = false
  unloaded : s.engine.state = some .running → t.stepper.granted = 0 ∧ t.stepper.loadRef = 0 ∧ t.outputs.excitation = 0
  arbiter : t.arbiter = ⟨
    (match s.holder with
      | none => s.arbiter.table
      | some x => s.arbiter.table.set x { s.entry x with place := .suspended, mtch := none, held := none }).set
        .protection ⟨.holding, 0, some .matched, none, .forbid⟩,
    .protection :: s.arbiter.stack, s.arbiter.waiting⟩

/-- A first trip by the channel `c` alone. -/
def TripTaken (s t : State) (c : Channel) : Prop := TripsTaken s t [c]

/-! ### The choice after a reset -/

/-- The engine state that a speed finds at the choice (R50, R52). -/
def stateFound (s : State) (rpm : Nat) : EngineState :=
  if s.monitor.trips ≠ [] then .tripped
  else if s.outputs.fuelRun = true then
    if 280 ≤ rpm then if (s.engine.isolateFlag || s.filtered .isolateSwitch) = true then .isolated else .running
    else .rundown
  else if 20 ≤ rpm then .rundown
  else if s.engine.layupMark = true then .laidUp
  else .stopped

/-- The engine as the choice leaves it where no trip and no wake follows (R45, R50, R52); `now` is the choice's instant. -/
def engineFound (s : State) (st : EngineState) (now : Nat) : Engine :=
  { s.engine with
    state := some st
    awaitingChoice := false
    stopKind := if st = .rundown then
        some (if s.outputs.fuelRun = false ∧ s.engine.layupMark = true then .layup else .normal) else none
    rundownEnd := if st = .rundown then some (now + 60000) else none }

/-- The discrete TRIP channels armed in a state over an active input, in channel order (R118, R121, R122). -/
def tripsAtArming (s : State) (st : EngineState) : List Channel :=
  (if Channel.crankcase.armedIn st && s.filtered .crankcaseSwitch then [.crankcase] else []) ++
  (if Channel.fuelCutoff.armedIn st && s.filtered .fuelCutoffLoop then [.fuelCutoff] else []) ++
  (if Channel.coolantLevel.armedIn st && s.filtered .coolantLevelSwitch then [.coolantLevel] else [])

/-- The engine at the end of its rundown: laid up after a layup stop, with the judgement that follows, else stopped
(R45, R139). -/
def rundownOver (s t : State) : Prop :=
  t.engine = { s.engine with
    state := some (if s.engine.stopKind = some .layup then .laidUp else .stopped)
    layupMark := decide (s.engine.stopKind = some .layup)
    stopKind := none
    cooldownEnd := none
    rundownEnd := none } ∧
  t.outputs.fuelRun = false ∧ t.outputs.governor = 0 ∧
  (s.engine.stopKind = some .layup → t.idle.entryJudgementDue = true)

/-! ### The course of a start -/

/-- CRANK entered for a further attempt: its window, its counts and its contactors (R31, R56, R61). -/
def crankEntered (s t : State) : Prop :=
  t.engine = { s.engine with state := some (.starting .crank) } ∧
  t.sequencer = { s.sequencer with
    timer := some (t.now + s.settings.crankWindow * 1000)
    run := some 0
    peak := some t.frontEnd.reported
    record := s.sequencer.record.map fun r =>
      { r with attemptsBegun := r.attemptsBegun + 1, furthest := r.furthest.later .crank } } ∧
  t.outputs.starter = true ∧ t.outputs.prelube = true ∧ t.outputs.fuelRun = true

/-- A start ended with a failing outcome: the phase items gone, the contactors off, the engine in RUNDOWN if it rotated or
was fuelled, else in STOPPED (R42, R72). -/
def startFails (s t : State) (o : StartOutcome) : Prop :=
  t.sequencer = { s.sequencer.idle with record := s.sequencer.record.map fun r => { r with outcome := o } } ∧
  t.outputs.starter = false ∧ t.outputs.prelube = false ∧ t.outputs.fuelRun = false ∧
  t.engine = if 20 ≤ t.frontEnd.reported ∨ s.outputs.fuelRun = true then
      { s.engine with
        state := some .rundown, stopKind := some .normal, cooldownEnd := none, rundownEnd := some (t.now + 60000) }
    else { s.engine with state := some .stopped }

/-- The Attempt List after a failed attempt: the attempt appended while the list is below CRANK_ATTEMPTS (R67). -/
def attemptsAfter (s : State) (r : StartRecord) (why : AttemptReason) (peak : Nat) : List Attempt :=
  if r.attempts.length < s.settings.crankAttempts then r.attempts ++ [⟨why, peak⟩] else r.attempts

/-- A failed attempt of a fuelled engine: REST while attempts are left, else START_FAILED with its lockout
(R42, R67 to R69, R72). -/
def attemptFailed (s t : State) (r : StartRecord) (why : AttemptReason) (peak : Nat) : Prop :=
  if (attemptsAfter s r why peak).length < s.settings.crankAttempts then
    t.engine = { s.engine with state := some (.starting .rest) } ∧
    t.sequencer = { s.sequencer with
      timer := some (t.now + s.settings.crankRest * 1000)
      run := none
      peak := none
      record := some { r with attempts := attemptsAfter s r why peak, furthest := r.furthest.later .rest } } ∧
    t.outputs.starter = false ∧ t.outputs.prelube = true ∧ t.outputs.fuelRun = false
  else
    t.engine = { s.engine with
      state := some .rundown, stopKind := some .normal, cooldownEnd := none, rundownEnd := some (t.now + 60000) } ∧
    t.sequencer = { s.sequencer.idle with
      record := some { r with attempts := attemptsAfter s r why peak, outcome := .startFailed }
      lockoutEnd := some (t.now + s.settings.starterLockout * 1000) } ∧
    t.outputs.starter = false ∧ t.outputs.prelube = false ∧ t.outputs.fuelRun = false

/-- A wake taken with effect: a FULL start begun by IDLE_REDUCTION, the layup mark clear, in PRELUBE for its time; with a
prelube time of 0 s in CRANK at once, or in STOPPED for want of pressure (R35, R47, R57 to R61). `u` is the state before
the start. -/
def wakeTaken (u t : State) : Prop :=
  t.engine = { u.engine with state := t.engine.state, layupMark := false } ∧
  (1 ≤ t.prelubeDuration →
    t.engine.state = some (.starting .prelube) ∧
    t.sequencer.timer = some (t.now + t.prelubeDuration * 1000) ∧
    t.sequencer.record = some ⟨.idleReduction, .full, .prelube, .inProgress, 0, []⟩ ∧
    t.outputs.starter = false ∧ t.outputs.prelube = true ∧ t.outputs.fuelRun = false) ∧
  (t.prelubeDuration = 0 → 30 ≤ t.reading .lube →
    t.engine.state = some (.starting .crank) ∧
    t.sequencer.timer = some (t.now + t.settings.crankWindow * 1000) ∧
    t.sequencer.run = some 0 ∧ t.sequencer.peak = some t.frontEnd.reported ∧
    t.sequencer.creditEnd = some (t.now + 120000) ∧
    t.sequencer.record = some ⟨.idleReduction, .full, .crank, .inProgress, 1, []⟩ ∧
    t.outputs.starter = true ∧ t.outputs.prelube = true ∧ t.outputs.fuelRun = true) ∧
  (t.prelubeDuration = 0 → t.reading .lube < 30 →
    t.engine.state = some .stopped ∧ t.sequencer.timer = none ∧
    t.sequencer.record = some ⟨.idleReduction, .full, .prelube, .noPrelubePressure, 0, []⟩ ∧
    t.outputs.starter = false ∧ t.outputs.prelube = false ∧ t.outputs.fuelRun = false)

/-- A wake is due in LAID_UP: a cause is present, no lockout remains and the engine does not turn (R47, R140, R142). -/
def wakeDue (t : State) : Prop :=
  t.wakeCause = true ∧ t.sequencer.lockoutEnd = none ∧ t.frontEnd.reported < 20

/-- A judgement of the wake watch over a laid-up engine (R139, R142): the wake where one is due, else nothing. `u` is the
state before it, but for what the event itself changes. -/
def wakeJudged (u t : State) : Prop :=
  (wakeDue t → wakeTaken u t) ∧
  (¬ wakeDue t → t.engine = u.engine ∧ t.sequencer = u.sequencer ∧ sameContactors u t)

/-- What an event of the Arbiter makes of a laid-up engine: a judgement where what the Arbiter presents has changed
(R12, R23, R139), else nothing. -/
def wakeJudgedIfPresented (s t : State) : Prop :=
  (s.presented ≠ t.presented → wakeJudged s t) ∧
  (s.presented = t.presented → t.engine = s.engine ∧ t.sequencer = s.sequencer ∧ sameContactors s t)

/-- The idle timer after an event of the Arbiter: from zero where the holder changed, on where it ran under the same one,
stopped where an idle condition fails (R136). -/
def idleFollows (s t : State) : Prop :=
  t.idle.idleSince =
    if t.idleConditions = true then
      if t.holder = s.holder then some (s.idle.idleSince.getD t.now) else some t.now
    else none

/-- The segments after a judgement of the wake watch: as they were, but for the marks of the wake's own faulting lookups,
which are reported to the Monitor while the latch is clear (R57, R84, R149, R151). -/
def wakeLookups (s t : State) : Prop :=
  (∀ g : SegmentId,
    (t.store.segments.get g).base = (s.store.segments.get g).base ∧
    (t.store.segments.get g).limit = (s.store.segments.get g).limit ∧
    (t.store.segments.get g).stride = (s.store.segments.get g).stride ∧
    ((t.store.segments.get g).faultMark = true ↔ (s.store.segments.get g).faultMark = true ∨
      wakeDue t ∧ g = .prelubeTime ∧ s.store.faults (prelubeLookup (coolantBand (s.reading .coolant))) = true ∨
      wakeDue t ∧ g = .notch ∧ t.engine.state = some (.starting .crank) ∧ s.store.faults (speedLookup 0) = true)) ∧
  (t.monitor.faultReported = true ↔ s.monitor.faultReported = true ∨
    s.monitor.latch = false ∧ wakeDue t ∧
      (s.store.faults (prelubeLookup (coolantBand (s.reading .coolant))) = true ∨
        t.engine.state = some (.starting .crank) ∧ s.store.faults (speedLookup 0) = true))

/-! ### Writes and scans -/

/-- What a committed write to the SCHEDULE group leaves untouched, and what it clears (R120, R151). -/
structure ScheduleWritten (s t : State) (l : Link) : Prop where
  world : sameWorld s t
  engine : t.engine = s.engine
  sequencer : t.sequencer = s.sequencer
  arbiter : t.arbiter = s.arbiter
  stepper : t.stepper = s.stepper
  settings : t.settings = s.settings
  contactors : sameContactors s t
  latch : t.monitor.latch = false ∧ t.monitor.faultReported = false
  cleared : t.monitor.conditions = s.monitor.conditions.filter (· != .scheduleFault)
  trips : t.monitor.trips = s.monitor.trips
  marks : ∀ g : SegmentId, (t.store.segments.get g).faultMark = false
  reply : answersOnly s t l (acceptedBody t 1)

/-- The condition listed, with counts of 0, after a scan. -/
def listedFresh (t : State) (c : Channel) : Prop :=
  c ∈ t.monitor.conditions ∧ (t.channel c).onset = 0 ∧ (t.channel c).clear = 0

/-- The rights of a group for the sender `l` (R155). -/
def writeRights (s : State) (l : Link) : WriteGroup → Prop
  | .link => l = .shop ∧ s.holder = some .shop ∧
      ∀ m : Link, m ≠ .shop → sourceOf m ∉ s.arbiter.stack ∧ sourceOf m ∉ s.arbiter.waiting
  | .limit => l = .shop ∧ s.holder = some .shop ∨
      l = .cab ∧ s.holder = some .cab ∧ s.engine.state = some .stopped
  | .restricted => l = .shop ∧ s.holder = some .shop ∧ s.engine.state = some .stopped
  | .schedule => l = .shop ∧ s.holder = some .shop ∧ s.engine.state = some .stopped

/-- The least and the greatest value of each setting, by number from 1 (R154). -/
def settingBounds : List (Nat × Nat) :=
  [(1, 6), (1, 6), (1, 6), (1, 6), (200, 30000), (200, 30000), (200, 30000), (200, 30000), (1, 50), (1, 200),
   (0, 255), (0, 1000), (0, 600), (5, 30), (1, 5), (10, 120), (60, 1800), (0, 1), (60, 3600), (0, 1),
   (0, 1), (0, 1), (10, 500), (60, 240), (0, 2), (0, 2), (0, 2), (0, 2), (0, 2), (0, 2)]

/-- A value outside the range of the setting `n`; a silence limit, numbers 5 to 8, is a multiple of 100 (R154, R156). -/
def outsideRange (n v : Nat) : Prop :=
  v < (settingBounds.getD (n - 1) (0, 0)).1 ∨ (settingBounds.getD (n - 1) (0, 0)).2 < v ∨
    (5 ≤ n ∧ n ≤ 8 ∧ v % 100 ≠ 0)

/-- An action that writes an item of the group `g` and passes every check but that of its rights (R152, R153, R156). -/
def writesItem (s : State) (a : Sys2Proof.Action) (g : WriteGroup) : Prop :=
  match a with
  | .set c n v =>
    (c = 0#8 ∧ ∃ k : Setting, Setting.ofNum n.toNat = some k ∧ k.inRange v.toNat = true ∧ k.group = g ∧
      ∀ m : Link, k.rankOf = some m → s.rankTaken m v.toNat = false) ∨
    (c = 1#8 ∧ n.toNat ≤ 511 ∧ g = .schedule)
  | .segment id b lim st =>
    id.toNat ≤ 5 ∧ segmentInRange b.toNat lim.toNat st.toNat = true ∧ g = .schedule
  | _ => False

/-- One scan of a threshold channel: what becomes of its place in the Condition List and of its counts when the reading
is `past` the threshold in force, or is not (R116). -/
def scanOutcome (s t : State) (c : Channel) (past : Bool) : Prop :=
  if c ∈ s.monitor.conditions then
    if past = true then
      if 19 ≤ (s.channel c).clear then c ∉ t.monitor.conditions ∧ (t.channel c).onset = 0 ∧ (t.channel c).clear = 0
      else c ∈ t.monitor.conditions ∧ (t.channel c).clear = (s.channel c).clear + 1
    else c ∈ t.monitor.conditions ∧ (t.channel c).clear = 0
  else
    if past = true then
      if 2 ≤ (s.channel c).onset then listedFresh t c
      else c ∉ t.monitor.conditions ∧ (t.channel c).onset = (s.channel c).onset + 1
    else c ∉ t.monitor.conditions ∧ (t.channel c).onset = 0

/-! ### The layouts of section 9.7, read at their offsets -/

/-- The byte at an offset, as a number. -/
def byteAt (b : List Byte) (k : Nat) : Nat := (b.getD k 0#8).toNat

/-- The two-byte value at an offset, high byte first. -/
def wordAt (b : List Byte) (k : Nat) : Nat := byteAt b k * 256 + byteAt b (k + 1)

/-- The codes of section 9.7 for the enumerated fields, in the order of its table. -/
def codesAsTabled : Prop :=
  [Source.cab, .consist, .remote, .shop, .protection].map Source.code = [1, 2, 3, 4, 5] ∧
  (∀ x : Source, (Initiator.source x).code = x.code) ∧ Initiator.idleReduction.code = 6 ∧
  [EngineState.stopped, .starting .prelube, .starting .crank, .starting .rest, .starting .catching, .starting .warm,
    .running, .isolated, .cooldown, .rundown, .laidUp, .tripped].map (fun e => (e.code, e.subCode)) =
    [(1, 0), (2, 1), (2, 2), (2, 3), (2, 4), (2, 5), (3, 0), (4, 0), (5, 6), (5, 7), (6, 0), (7, 0)] ∧
  [Phase.prelube, .crank, .rest, .catching, .warm].map Phase.num = [1, 2, 3, 4, 5] ∧
  [Place.out, .pending, .suspended, .holding].map Place.code = [0, 1, 2, 3] ∧
  [MatchState.matching, .matched].map MatchState.code = [1, 2] ∧
  [StopKind.normal, .layup].map StopKind.code = [1, 2] ∧
  [ChannelClass.trip, .restraint, .notice].map ChannelClass.code = [1, 2, 3] ∧
  [SpeedQuality.good, .erratic, .lost].map SpeedQuality.code = [0, 1, 2] ∧
  [StartOutcome.inProgress, .runningReached, .noPrelubePressure, .startFailed, .speedErratic, .noOilPressure, .cancelled,
    .tripped, .reset].map StartOutcome.code = [1, 2, 3, 4, 5, 6, 7, 8, 9] ∧
  [AttemptReason.noFire, .stall, .noCatch, .speedErratic].map AttemptReason.code = [1, 2, 3, 4] ∧
  [StartMode.full, .skipPrelube].map StartMode.code = [1, 2] ∧
  [Permission.forbid, .permit].map Permission.code = [0, 1]

/-- The code of a field that may be absent, which 0 stands for. -/
def codeOr0 {α : Type} (f : α → Nat) (o : Option α) : Nat := (o.map f).getD 0

/-- Whole seconds left to an instant, rounded up; 0 where none is set (R53, R60, R69). -/
def leftShown (now : Nat) (o : Option Nat) : Nat := codeOr0 (fun e => (e - now + 999) / 1000) o

/-- A field of no more than a bit. -/
def bitShown (b : Bool) : Nat := if b = true then 1 else 0

/-- The seven CLAMPED marks as a number, bit 0 lube pressure through bit 6 battery. -/
def marksShown (m : PerAnalog Bool) : Nat :=
  bitShown m.lube + 2 * bitShown m.fuel + 4 * bitShown m.coolant + 8 * bitShown m.intake + 16 * bitShown m.manifold +
    32 * bitShown m.barometric + 64 * bitShown m.battery

/-- The snapshot of a reply (R181). -/
def snapshotShows (s : State) (b : List Byte) : Prop :=
  b.length = 7 ∧
  byteAt b 0 = codeOr0 EngineState.code s.engine.state ∧ byteAt b 1 = codeOr0 EngineState.subCode s.engine.state ∧
  byteAt b 2 = codeOr0 Source.code s.holder ∧ byteAt b 3 = s.authorityNotch % 256 ∧
  byteAt b 4 = s.stepper.granted % 256 ∧ wordAt b 5 = s.stepper.loadRef % 65536

/-- STATUS part 0 (R53, R111, R146). What an idle timer that is due shows is assumption 28. -/
def status0Shows (s : State) (b : List Byte) : Prop :=
  b.length = 31 ∧
  byteAt b 0 = codeOr0 EngineState.code s.engine.state ∧ byteAt b 1 = codeOr0 EngineState.subCode s.engine.state ∧
  byteAt b 2 = bitShown s.engine.isolateFlag ∧ byteAt b 3 = codeOr0 StopKind.code s.engine.stopKind ∧
  byteAt b 4 = bitShown s.engine.layupMark ∧
  wordAt b 5 = leftShown s.now (s.engine.cooldownEnd.or s.engine.rundownEnd) % 65536 ∧
  byteAt b 7 = s.authorityNotch % 256 ∧ byteAt b 8 = s.ceilingNotch % 256 ∧ byteAt b 9 = s.stepper.target % 256 ∧
  byteAt b 10 = s.stepper.granted % 256 ∧ wordAt b 11 = s.stepper.loadRef % 65536 ∧
  wordAt b 13 = s.stepper.loadTarget % 65536 ∧ wordAt b 15 = s.stepper.speedRef % 65536 ∧
  wordAt b 17 = codeOr0 LoadTerms.ceiling s.stepper.terms % 65536 ∧
  wordAt b 19 = codeOr0 LoadTerms.derate s.stepper.terms % 65536 ∧
  wordAt b 21 = codeOr0 LoadTerms.factor s.stepper.terms % 65536 ∧
  wordAt b 23 = codeOr0 LoadTerms.airLimit s.stepper.terms % 65536 ∧
  byteAt b 25 = codeOr0 (fun x => 1 + bitShown x.sagHold) s.stepper.terms ∧
  wordAt b 26 = min 65535 (s.now - s.stepper.dwellMark) ∧
  byteAt b 28 = bitShown s.idle.idleSince.isSome ∧
  wordAt b 29 = codeOr0 (fun x => min s.settings.idleLimit ((s.now - x) / 1000)) s.idle.idleSince % 65536

/-- The scan value of a channel as two signed bytes, 0 before any scan. -/
def scanShown (s : State) (c : Analog) : Nat := codeOr0 (fun v => (BitVec.ofInt 16 (v.get c)).toNat) s.frontEnd.scan

/-- One discrete input at an offset: selected and filtered level, then its stability timing (assumption 41). -/
def inputShown (s : State) (b : List Byte) (k : Nat) (i : Input) : Prop :=
  byteAt b k = bitShown (s.frontEnd.inputs.get i).selected + 2 * bitShown (s.frontEnd.inputs.get i).filtered ∧
  wordAt b (k + 1) = codeOr0 (fun x => min 65535 (s.now - x)) (s.frontEnd.inputs.get i).since

/-- STATUS part 1 (R170), the inputs in the order of R167. -/
def status1Shows (s : State) (b : List Byte) : Prop :=
  b.length = 45 ∧
  wordAt b 0 = scanShown s .lube ∧ wordAt b 2 = scanShown s .fuel ∧ wordAt b 4 = scanShown s .coolant ∧
  wordAt b 6 = scanShown s .intake ∧ wordAt b 8 = scanShown s .manifold ∧ wordAt b 10 = scanShown s .barometric ∧
  wordAt b 12 = scanShown s .battery ∧ byteAt b 14 = marksShown s.frontEnd.clamped ∧
  wordAt b 15 = s.frontEnd.measured.getD 0 % 65536 ∧ wordAt b 17 = s.frontEnd.reported % 65536 ∧
  wordAt b 19 = s.frontEnd.settled % 65536 ∧ wordAt b 21 = s.frontEnd.pulseCount % 65536 ∧
  byteAt b 23 = s.frontEnd.quality.code ∧ byteAt b 24 = s.frontEnd.jumpRun % 256 ∧
  byteAt b 25 = s.frontEnd.silenceRun % 256 ∧ byteAt b 26 = s.frontEnd.recoveryRun % 256 ∧
  inputShown s b 27 .fuelCutoffLoop ∧ inputShown s b 30 .crankcaseSwitch ∧ inputShown s b 33 .coolantLevelSwitch ∧
  inputShown s b 36 .groundRelay ∧ inputShown s b 39 .isolateSwitch ∧ inputShown s b 42 .brakeAirSwitch

/-- START_RECORD (R76, R80). -/
def startRecordShows (s : State) (b : List Byte) : Prop :=
  b.length = 25 ∧
  byteAt b 0 = codeOr0 (fun r => r.initiator.code) s.sequencer.record ∧
  byteAt b 1 = codeOr0 (fun r => r.mode.code) s.sequencer.record ∧
  byteAt b 2 = codeOr0 (fun r => r.furthest.num) s.sequencer.record ∧
  byteAt b 3 = codeOr0 (fun r => r.outcome.code) s.sequencer.record ∧
  byteAt b 4 = codeOr0 StartRecord.attemptsBegun s.sequencer.record % 256 ∧
  wordAt b 5 = leftShown s.now s.sequencer.lockoutEnd % 65536 ∧
  wordAt b 7 = leftShown s.now s.sequencer.creditEnd % 65536 ∧
  byteAt b 9 = s.attempts.length % 256 ∧
  ∀ k < 5, byteAt b (10 + 3 * k) = codeOr0 (fun a => a.reason.code) s.attempts[k]? ∧
    wordAt b (11 + 3 * k) = codeOr0 Attempt.peak s.attempts[k]? % 65536

/-- An entry of the Condition List at an offset: number, class, ceiling (255 none), factor (65535 none) of R113; all 0 in
an unused place. -/
def conditionShown (b : List Byte) (k : Nat) (c : Option Channel) : Prop :=
  byteAt b k = codeOr0 Channel.num c ∧ byteAt b (k + 1) = codeOr0 (fun x => x.cls.code) c ∧
  byteAt b (k + 2) = codeOr0 (fun x => (x.restraint.map Prod.fst).getD 255) c ∧
  wordAt b (k + 3) = codeOr0 (fun x => (x.restraint.map Prod.snd).getD 65535) c

/-- CONDITIONS part 0: the first nine entries (R132, R180). -/
def conditions0Shows (s : State) (b : List Byte) : Prop :=
  b.length = 46 ∧ byteAt b 0 = s.monitor.conditions.length % 256 ∧
  ∀ k < 9, conditionShown b (1 + 5 * k) s.monitor.conditions[k]?

/-- CONDITIONS part 1: the further entries, the Trip List, what is derived, the latch (R132, R180). -/
def conditions1Shows (s : State) (b : List Byte) : Prop :=
  b.length = 40 ∧ (∀ k < 4, conditionShown b (5 * k) s.monitor.conditions[9 + k]?) ∧
  byteAt b 20 = s.monitor.trips.length % 256 ∧
  (∀ k < 5, byteAt b (21 + 3 * k) = codeOr0 (fun e => e.channel.num) s.monitor.trips[k]? ∧
    byteAt b (22 + 3 * k) = codeOr0 (fun e => codeOr0 EngineState.code e.state) s.monitor.trips[k]? ∧
    byteAt b (23 + 3 * k) = codeOr0 (fun e => codeOr0 EngineState.subCode e.state) s.monitor.trips[k]?) ∧
  byteAt b 36 = s.ceilingNotch % 256 ∧ wordAt b 37 = s.restraintFactor % 65536 ∧
  byteAt b 39 = bitShown s.monitor.latch

/-- CONDITIONS part 2: armed, active and counts of each channel, in channel order (R132, R180). -/
def conditions2Shows (s : State) (b : List Byte) : Prop :=
  b.length = 39 ∧
  ∀ c : Channel, byteAt b (3 * (c.num - 1)) =
      bitShown (s.channel c).armed + 2 * bitShown (s.monitor.conditions.contains c) ∧
    byteAt b (3 * (c.num - 1) + 1) = (s.channel c).onset % 256 ∧
    byteAt b (3 * (c.num - 1) + 2) = (s.channel c).clear % 256

/-- An entry of the Authority Table at an offset, with the time since last heard (R29). -/
def entryShown (b : List Byte) (k : Nat) (e : Entry) (silence : Nat) : Prop :=
  byteAt b k = e.place.code ∧ byteAt b (k + 1) = e.request % 256 ∧ byteAt b (k + 2) = codeOr0 MatchState.code e.mtch ∧
  byteAt b (k + 3) = e.held.getD 255 % 256 ∧ byteAt b (k + 4) = e.permission.code ∧
  wordAt b (k + 5) = min 65535 silence

/-- AUTHORITY: the table, the Authority Stack and the Pending List (R29, R180). -/
def authorityShows (s : State) (b : List Byte) : Prop :=
  b.length = 46 ∧
  entryShown b 0 (s.entry .cab) (s.now - s.ports.cab.lastHeard) ∧
  entryShown b 7 (s.entry .consist) (s.now - s.ports.consist.lastHeard) ∧
  entryShown b 14 (s.entry .remote) (s.now - s.ports.remote.lastHeard) ∧
  entryShown b 21 (s.entry .shop) (s.now - s.ports.shop.lastHeard) ∧
  entryShown b 28 (s.entry .protection) 0 ∧
  byteAt b 35 = s.arbiter.stack.length % 256 ∧ (∀ k < 5, byteAt b (36 + k) = codeOr0 Source.code s.arbiter.stack[k]?) ∧
  byteAt b 41 = s.arbiter.waiting.length % 256 ∧ ∀ k < 4, byteAt b (42 + k) = codeOr0 Source.code s.arbiter.waiting[k]?

/-- A segment entry (R159). -/
def segmentShows (e : SegmentEntry) (b : List Byte) : Prop :=
  b.length = 6 ∧ wordAt b 0 = e.base % 65536 ∧ wordAt b 2 = e.limit % 65536 ∧ byteAt b 4 = e.stride % 256 ∧
  byteAt b 5 = bitShown e.faultMark

/-- An item code and number that name nothing (R180, check 1). -/
def namesNothing (item number : Nat) : Prop :=
  item = 0 ∨ 7 < item ∨ item = 1 ∧ 1 < number ∨ item = 2 ∧ 0 < number ∨ item = 3 ∧ 2 < number ∨
  item = 4 ∧ 0 < number ∨ item = 5 ∧ (number = 0 ∨ 30 < number) ∨ item = 6 ∧ 511 < number ∨ item = 7 ∧ 5 < number

/-- The size of a result with its item and number (section 9.7). -/
def resultSize (item number : Nat) : Nat :=
  match item, number with
  | 1, 0 => 34
  | 1, _ => 48
  | 2, _ => 28
  | 3, 0 => 49
  | 3, 1 => 43
  | 3, _ => 42
  | 4, _ => 49
  | 5, _ => 5
  | 6, _ => 5
  | _, _ => 9

/-- The values of a READ result, by item and number (R180). -/
def valuesShow (s : State) (item number : Nat) (b : List Byte) : Prop :=
  match item, number with
  | 1, 0 => status0Shows s b
  | 1, _ => status1Shows s b
  | 2, _ => startRecordShows s b
  | 3, 0 => conditions0Shows s b
  | 3, 1 => conditions1Shows s b
  | 3, _ => conditions2Shows s b
  | 4, _ => authorityShows s b
  | 5, n => b.length = 2 ∧ wordAt b 0 = codeOr0 s.settings.get (Setting.ofNum n) % 65536
  | 6, n => b.length = 2 ∧ wordAt b 0 = (s.store.word n).toNat
  | 7, n => ∀ g : SegmentId, SegmentId.ofNum n = some g → segmentShows (s.store.segments.get g) b
  | _, _ => False

/-- The BODY of a status frame for the link `l` (R182). -/
def statusBodyShows (s : State) (l : Link) (b : List Byte) : Prop :=
  byteAt b 0 = codeOr0 EngineState.code s.engine.state ∧ byteAt b 1 = codeOr0 EngineState.subCode s.engine.state ∧
  byteAt b 2 = codeOr0 Source.code s.holder ∧ byteAt b 3 = codeOr0 MatchState.code s.presented.mtch ∧
  byteAt b 4 = s.authorityNotch % 256 ∧ byteAt b 5 = s.ceilingNotch % 256 ∧ byteAt b 6 = s.stepper.target % 256 ∧
  byteAt b 7 = s.stepper.granted % 256 ∧ wordAt b 8 = s.stepper.loadRef % 65536 ∧
  wordAt b 10 = s.stepper.loadTarget % 65536 ∧ wordAt b 12 = s.stepper.speedRef % 65536 ∧
  wordAt b 14 = s.frontEnd.reported % 65536 ∧ byteAt b 16 = s.frontEnd.quality.code ∧
  (b.drop 17).map BitVec.toNat =
    s.monitor.conditions.length % 256 :: s.monitor.conditions.map Channel.num ++
    s.monitor.trips.length % 256 :: s.monitor.trips.map (fun e => e.channel.num) ++
    [codeOr0 (fun r => r.outcome.code) s.sequencer.record, codeOr0 (fun r => r.furthest.num) s.sequencer.record,
      s.attempts.length % 256] ++
    s.arbiter.stack.length % 256 :: s.arbiter.stack.map Source.code ++
    s.arbiter.waiting.length % 256 :: s.arbiter.waiting.map Source.code ++
    [(s.entry (sourceOf l)).place.code, bitShown (s.ports.get l).lapseMark, marksShown s.frontEnd.clamped]

end Sys2Proof.Machine
end

