-- ==== Sys2Proof/Certificates/Slice0/Obligations.lean ====
section
/-! DEFINITION. The statements about the part for the provers, over all states unless they say otherwise. -/

open Sys2Proof Sys2Proof.Machine

/-- A step runs the command at the front of the queue, and on an empty queue a millisecond passes (the model's choice,
entry 1). A step takes the command at the front of the queue. The tick on an empty queue is the model's choice (log
entry 1). -/
def Obligations.StepRunsTheFrontCommand : Prop :=
  ∀ (c : Instr) (rest : List Instr) (s : State),
    step { s with pending := c :: rest } = exec c { s with pending := rest } ∧
    step { s with pending := [] } = .next { s with pending := [], now := s.now + 1 }

/-- Every command is answered by a next state: the queue stands, the clock never turns back, and onsets join the
Condition List at its end in channel order. No command faults or is refused; none touches the queue. That a command
whose event cannot occur leaves the state is the model's choice (log entry 3). The place of SCHEDULE_FAULT among the
onsets of a scan is the model's reading (log entry 39). -/
def Obligations.EveryCommandCompletes : Prop :=
  ∀ (i : Instr) (s : State),
    ∃ t : State, exec (i) s = .next t ∧
      t.pending = s.pending ∧
      s.now ≤ t.now ∧
      t.monitor.conditions = t.monitor.conditions.filter (fun c => s.monitor.conditions.contains c) ++
        Channel.order.filter (fun c => t.monitor.conditions.contains c && !s.monitor.conditions.contains c)

/-- The state right after the first POWER-ON meets every invariant of the model, and no timer or order waits in it.
State.reset is sound. That the stores hold the factory contents there is the model's choice (log entry 30). -/
def Obligations.ResetStateIsSound : Prop :=
  StoreSound State.reset ∧ PortsSound State.reset ∧ AuthoritySound State.reset ∧ EngineSound State.reset ∧
    MonitorSound State.reset ∧ StepperSound State.reset ∧ IdleSound State.reset ∧ ProtectionHoldsTrips State.reset ∧
    State.reset.engine.state = none ∧ State.reset.holder = none ∧ State.reset.monitor.trips = [] ∧
    State.reset.outputs = ⟨false, false, false, false, 0, 0⟩ ∧ State.reset.store = ⟨[], PerSegment.factory, Settings.factory⟩ ∧
    (∀ l : Link, (State.reset.ports.get l).queue = [] ∧ (State.reset.ports.get l).fulls = []) ∧
    State.reset.sequencer.lockoutEnd = none ∧ State.reset.sequencer.creditEnd = none

/-- POWER_ON puts every block at its POWER-ON values, empties the Start Sequencer and keeps the nonvolatile contents.
R3, R50, R78, R109, R130, R145, R158, R171 and R173 at POWER-ON, and R151 for the fault marks. The model's choices
are: the first update 50 ms after the exit (log entry 17), the fields of a fresh port that the manual gives no value
(entries 19 and 31), and that the row ends an assertion of RESET-LINE (entry 34). -/
def Obligations.PowerOnTakesItsValues : Prop :=
  ∀ (after : Nat) (raw : PerAnalog Int) (levels : PerInput Bool) (s : State),
    ∃ t : State, exec (.powerOn after raw levels) s = .next t ∧
      t.sequencer = ⟨none, none, none, none, none, none, none, none, none⟩ ∧
      t.outputs = ⟨false, false, false, false, 0, 0⟩ ∧
      t.now = s.now + after ∧
      t.supply = true ∧
      t.resetSince = none ∧
      t.arbiter = ⟨PerSource.all ⟨.out, 0, none, none, .forbid⟩, [], []⟩ ∧
      t.engine = ⟨none, true, none, false, false, none, none⟩ ∧
      t.stepper = ⟨0, 0, t.now, 0, 0, 0, none, t.now + 50⟩ ∧
      t.monitor = ⟨PerChannel.all ⟨false, 0, 0⟩, [], [], false, false⟩ ∧
      t.ceilingNotch = 8 ∧
      t.restraintFactor = 1000 ∧
      t.idle = ⟨none, false⟩ ∧
      t.store.words = s.store.words ∧
      t.store.settings = s.store.settings ∧
      (∀ g : SegmentId, t.store.segments.get g = { s.store.segments.get g with faultMark := false }) ∧
      (∀ l : Link, t.ports.get l = Port.fresh t.now false) ∧
      (∀ i : Input, t.frontEnd.inputs.get i =
        ⟨levels.get i, selectedLevel (s.settings.get (levelSetting i)) (levels.get i), false,
          if selectedLevel (s.settings.get (levelSetting i)) (levels.get i) then some t.now else none⟩) ∧
      t.frontEnd.scan = some (scanValues raw) ∧
      t.frontEnd.quality = .good ∧
      t.frontEnd.reported = 0 ∧
      t.frontEnd.clamped = clampedMarks raw ∧
      t.frontEnd.jumpRun = 0 ∧
      t.frontEnd.silenceRun = 0 ∧
      t.frontEnd.recoveryRun = 0 ∧
      t.frontEnd.settled = 0 ∧
      t.frontEnd.measured = none ∧
      t.frontEnd.previous = none ∧
      t.frontEnd.pulses = [] ∧
      t.frontEnd.pulseCount = 0 ∧
      t.frontEnd.nextMeasurement = t.now + 100 ∧
      t.frontEnd.nextScan = t.now + 50 ∧
      t.pending = s.pending

/-- A loss of supply stops the part and leaves the contents of the nonvolatile stores standing. The nonvolatile contents
stand (R158). What the volatile blocks show meanwhile is the model's choice (log entry 7). -/
def Obligations.LossOfSupplyKeepsTheStores : Prop :=
  ∀ (after : Nat) (s : State),
    ∃ t : State, exec (.lossOfSupply after) s = .next t ∧
      (s.supply = true → t.supply = false ∧ t.now = s.now + after ∧ sameContents s t ∧
        t.outputs = ⟨false, false, false, false, 0, 0⟩ ∧ t.sequencer.record = none ∧ t.pending = s.pending ∧
        (∀ l : Link, (t.ports.get l).queue = []) ∧ (∀ i : Input, (t.frontEnd.inputs.get i).raw = (s.frontEnd.inputs.get i).raw)) ∧
      (s.supply = false → t = { s with now := s.now + after })

/-- The assertion of RESET-LINE: what is held, what is cleared, what is discarded and what is kept. R3, R51, R79, R110,
R131, R145, R172 and R173 at the assertion. That the Stepper's speed reference item stands with the held GOVERNOR is
the model's choice (log entry 26). -/
def Obligations.ResetLineAssertionKeepsWhatItMust : Prop :=
  ∀ (after : Nat) (s : State),
    s.live = true →
    s.outputs.governor = s.stepper.speedRef →
    ∃ t : State, exec (.resetLineAssert after) s = .next t ∧
      t.now = s.now + after ∧
      t.resetSince = some t.now ∧
      t.supply = true ∧
      t.pending = s.pending ∧
      t.store = s.store ∧
      t.outputs = ⟨false, false, s.outputs.fuelRun, t.alertLevel, s.outputs.governor, 0⟩ ∧
      t.engine = ⟨if s.engine.state = some .tripped then some .tripped else none, true, none, false, s.engine.layupMark, none, none⟩ ∧
      t.sequencer = ⟨none, none, none, none, none, none,
        if s.startRuns then s.sequencer.record.map (fun r => { r with outcome := .reset }) else s.sequencer.record,
        s.sequencer.lockoutEnd, s.sequencer.creditEnd⟩ ∧
      t.stepper.target = 0 ∧
      t.stepper.granted = 0 ∧
      t.stepper.loadTarget = 0 ∧
      t.stepper.loadRef = 0 ∧
      t.stepper.terms = none ∧
      t.stepper.speedRef = s.stepper.speedRef ∧
      t.monitor.trips = s.monitor.trips ∧
      t.monitor.latch = s.monitor.latch ∧
      t.monitor.conditions = s.monitor.conditions.filter (· == .scheduleFault) ∧
      (∀ c : Channel, t.channel c = if c = .scheduleFault then s.channel c else ⟨false, 0, 0⟩) ∧
      (s.monitor.trips = [] → t.arbiter = ⟨PerSource.all ⟨.out, 0, none, none, .forbid⟩, [], []⟩) ∧
      (s.monitor.trips ≠ [] → t.arbiter.stack = [.protection] ∧ t.arbiter.waiting = [] ∧ t.authorityNotch = 0 ∧
        t.entry .protection = ⟨.holding, 0, some .matched, none, .forbid⟩ ∧
        ∀ l : Link, t.entry (sourceOf l) = ⟨.out, 0, none, none, .forbid⟩) ∧
      t.idle.idleSince = none ∧
      (∀ l : Link, t.ports.get l = { s.ports.get l with
        assembler := .hunt, buffer := [], queue := [], fulls := [], statusDue := false, sending := none }) ∧
      t.frontEnd.scan = s.frontEnd.scan ∧
      t.frontEnd.reported = s.frontEnd.reported ∧
      (∀ i : Input, t.frontEnd.inputs.get i = { s.frontEnd.inputs.get i with since := none })

/-- The exit from RESET-LINE: ports and measuring start afresh, remainders resume, the first scan is made. R79, R110,
R172 and R173 at the exit. The model's choices are: the first update's instant (log entry 17), that a report waiting
at the Monitor stands (entry 18), that one waiting at a port is dropped (entry 19), and the fields of a fresh port
that the manual gives no value (entry 31). -/
def Obligations.ResetLineExitStartsAfresh : Prop :=
  ∀ (after since : Nat) (raw : PerAnalog Int) (s : State),
    s.supply = true →
    s.resetSince = some since →
    since ≤ s.now →
    ∃ t : State, exec (.resetLineExit after raw) s = .next t ∧
      t.now = s.now + after ∧
      t.resetSince = none ∧
      t.supply = true ∧
      t.pending = s.pending ∧
      t.engine = s.engine ∧
      t.arbiter = s.arbiter ∧
      t.monitor = s.monitor ∧
      t.store = s.store ∧
      t.outputs = s.outputs ∧
      t.idle = s.idle ∧
      (∀ l : Link, t.ports.get l = Port.fresh t.now (s.ports.get l).lapseMark) ∧
      t.sequencer = { s.sequencer with
        lockoutEnd := s.sequencer.lockoutEnd.map (fun e => e + (t.now - since))
        creditEnd := s.sequencer.creditEnd.map (fun e => e + (t.now - since)) } ∧
      t.stepper = { s.stepper with dwellMark := t.now, nextUpdate := t.now + 50 } ∧
      t.frontEnd.scan = some (scanValues raw) ∧
      t.frontEnd.quality = .good ∧
      t.frontEnd.jumpRun = 0 ∧
      t.frontEnd.silenceRun = 0 ∧
      t.frontEnd.recoveryRun = 0 ∧
      t.frontEnd.settled = 0 ∧
      t.frontEnd.measured = none ∧
      t.frontEnd.previous = none ∧
      t.frontEnd.pulses = [] ∧
      t.frontEnd.reported = s.frontEnd.reported ∧
      t.frontEnd.nextMeasurement = t.now + 100 ∧
      t.frontEnd.nextScan = t.now + 50 ∧
      (∀ i : Input, (t.frontEnd.inputs.get i).filtered = (s.frontEnd.inputs.get i).filtered ∧
        (t.frontEnd.inputs.get i).selected = selectedLevel (s.settings.get (levelSetting i)) (s.frontEnd.inputs.get i).raw ∧
        (t.frontEnd.inputs.get i).since =
          if (t.frontEnd.inputs.get i).selected = (t.frontEnd.inputs.get i).filtered then none else some t.now) ∧
      t.frontEnd.pulseCount = 0 ∧
      t.frontEnd.clamped = clampedMarks raw

/-- A whole ORDER frame received character by character is put in the queue with its TAG and BODY, and refreshes last
heard. The receive assembler reads back what the frame encoder writes, byte by byte, with its check (R174 to R176). -/
def Obligations.OrderFrameIsQueued : Prop :=
  ∀ (after : Nat) (l : Link) (tag : Byte) (body : List Byte) (s : State),
    s.live = true →
    2 ≤ body.length →
    body.length ≤ 60 →
    (s.ports.get l).assembler = .hunt →
    (s.ports.get l).queue.length < 4 →
    exec (.frameReceived after l ((encodeFrame kindOrder tag body).map fun b => ⟨b, true⟩)) s =
      .next { s with
        now := s.now + after
        ports := s.ports.set l { s.ports.get l with
          assembler := .hunt
          buffer := []
          lastByteAt := s.now + after
          lastHeard := s.now + after
          silent := false
          queue := (s.ports.get l).queue ++ [⟨tag, body, none⟩] } }

/-- A valid frame that is not queued refreshes last heard, an order at a full queue is answered FULL or discarded, and
the bytes of a bad frame are hunted afresh. R174, R175 and R176 for the frames that are not queued, and the fresh
hunt after a bad one. The gap in whole ms is the model's choice (log entry 21), and so is a character without a stop
bit in HUNT (entry 22). -/
def Obligations.FullQueueAndOtherKinds : Prop :=
  ∀ (after : Nat) (l : Link) (kind tag : Byte) (body head tail : List Byte) (chars : List RxChar) (s : State),
    s.live = true →
    ((2 ≤ body.length → body.length ≤ 60 → (s.ports.get l).assembler = .hunt →
    (kind ≠ kindOrder ∨ 4 ≤ (s.ports.get l).queue.length) →
    ∃ t : State, exec (.frameReceived after l ((encodeFrame kind tag body).map fun b => ⟨b, true⟩)) s = .next t ∧
      t = { s with now := s.now + after, ports := t.ports } ∧
      (∀ m : Link, m ≠ l → t.ports.get m = s.ports.get m) ∧
      (t.ports.get l).lastHeard = s.now + after ∧
      (t.ports.get l).silent = false ∧
      (t.ports.get l).queue = (s.ports.get l).queue ∧
      (t.ports.get l).assembler = .hunt ∧
      (t.ports.get l).fulls = if kind = kindOrder ∧ (s.ports.get l).fulls.length < 2 then
        (s.ports.get l).fulls ++ [⟨(s.ports.get l).made, encodeFrame kindReply tag ([3#8, 9#8, 1#8] ++ s.snapshot)⟩]
      else (s.ports.get l).fulls) ∧
  ((s.ports.get l).assembler = .hunt → kind.toNat < 2 ∨ 60 < kind.toNat → kind ≠ Config.syncByte →
    exec (.frameReceived after l [⟨Config.syncByte, true⟩, ⟨kind, true⟩]) s =
      .next { s with
        now := s.now + after
        ports := s.ports.set l { s.ports.get l with
          assembler := .hunt
          buffer := []
          lastByteAt := s.now + after } }) ∧
  (2 ≤ body.length → body.length ≤ 60 → (s.ports.get l).assembler = .hunt →
    Config.syncByte ∉ kind :: tag :: (body ++ tail) → tail.length = 2 →
    tail ≠ be16Word (checkOf (frameFields kind tag body)) →
    exec (.frameReceived after l ((Config.syncByte :: (frameFields kind tag body ++ tail)).map fun b => ⟨b, true⟩)) s =
      .next { s with
        now := s.now + after
        ports := s.ports.set l { s.ports.get l with
          assembler := .hunt
          buffer := []
          lastByteAt := s.now + after } }) ∧
  (exec (.frameReceived after l [⟨kind, false⟩]) s =
      .next { s with
        now := s.now + after
        ports := s.ports.set l { s.ports.get l with
          assembler := .hunt
          buffer := []
          lastByteAt := s.now + after } }) ∧
  ((s.ports.get l).assembler = .frame → (s.ports.get l).lastByteAt + 10 < s.now + after →
    exec (.frameReceived after l chars) s =
      exec (.frameReceived after l chars) (s.withPort l { s.ports.get l with assembler := .hunt, buffer := [] })) ∧
  (2 ≤ body.length → body.length ≤ 60 → (s.ports.get l).assembler = .hunt → (s.ports.get l).queue.length < 4 →
    Config.syncByte ∉ kind :: (head ++ tail) → 2 ≤ kind.toNat → kind.toNat ≤ 60 →
    kind.toNat + 5 = (kind :: (head ++ encodeFrame kindOrder tag body ++ tail)).length →
    checkAgrees (kind :: (head ++ encodeFrame kindOrder tag body ++ tail)) = false →
    exec (.frameReceived after l
        ((Config.syncByte :: kind :: (head ++ encodeFrame kindOrder tag body ++ tail)).map fun b => ⟨b, true⟩)) s =
      .next { s with
        now := s.now + after
        ports := s.ports.set l { s.ports.get l with
          assembler := .hunt
          buffer := []
          lastByteAt := s.now + after
          lastHeard := s.now + after
          silent := false
          queue := (s.ports.get l).queue ++ [⟨tag, body, none⟩] } }))

/-- A free line sends a due status frame first, its BODY as section 9.7 lays out the present state, and else the
earliest made of the waiting answers. R176's order of sending and R182's build of a status frame, its BODY read at
the offsets of section 9.7. That a FULL answer leaves its list when its sending begins is the model's choice (log
entry 14), and so is that the row has no effect with nothing to send (entry 3). -/
def Obligations.LineSendsTheEarliestAnswer : Prop :=
  ∀ (l : Link) (s : State),
    s.live = true →
    (s.ports.get l).sending = none →
    ∃ t : State, exec (.frameTransmit l) s = .next t ∧
      ((s.ports.get l).statusDue = true → t = s.withPort l { s.ports.get l with
        sending := some ⟨.status, encodeFrame kindStatus 0#8 (s.statusBody l), s.now⟩, statusDue := false, lapseMark := false }) ∧
      ((s.ports.get l).statusDue = true → statusBodyShows s l (s.statusBody l)) ∧
      ((s.ports.get l).statusDue = false → (s.ports.get l).fulls = [] → headReply (s.ports.get l).queue = none → t = s) ∧
      (∀ f : ReadyReply, (s.ports.get l).statusDue = false → (s.ports.get l).fulls.head? = some f →
        (∀ r : ReadyReply, headReply (s.ports.get l).queue = some r → f.made < r.made) →
        t = s.withPort l { s.ports.get l with
          sending := some ⟨.full, f.bytes, s.now⟩, fulls := (s.ports.get l).fulls.tail }) ∧
      (∀ r : ReadyReply, (s.ports.get l).statusDue = false → headReply (s.ports.get l).queue = some r →
        (∀ f : ReadyReply, (s.ports.get l).fulls.head? = some f → r.made ≤ f.made) →
        t = s.withPort l { s.ports.get l with sending := some ⟨.reply, r.bytes, s.now⟩ })

/-- The gap of a bad frame, the status timer and the end of a sent frame each change their port as the rules say, and
nothing else. R174 (gap), R182 (status timer) and R176, R183 (sent in full); the whole-ms instants are the model's
(log entries 15, 21). That a due event may be taken late is the model's choice (log entry 2). -/
def Obligations.PortTimersAndTheLine : Prop :=
  ∀ (l : Link) (f : SendingFrame) (s : State),
    s.live = true →
    (((s.ports.get l).assembler = .frame →
        exec (.interByteGap l) s = .next ({ s with now := max s.now ((s.ports.get l).lastByteAt + 11) }.withPort l
          { s.ports.get l with assembler := .hunt, buffer := [] })) ∧
      exec (.statusTimerExpiry l) s = .next ({ s with now := max s.now (s.ports.get l).statusEnd }.withPort l
          { s.ports.get l with statusEnd := max s.now (s.ports.get l).statusEnd + 500, statusDue := true }) ∧
      ((s.ports.get l).sending = some f →
        exec (.frameSentInFull l) s = .next ({ s with now := max s.now (f.begun + lineTime f.bytes.length) }.withPort l
          { s.ports.get l with
            sending := none
            queue := if f.kind = SentKind.reply then (s.ports.get l).queue.tail else (s.ports.get l).queue })))

/-- A silence greater than its limit is reported to the Arbiter, and a silence already reported is not reported again.
R21. The mark that a report waits is the model's own (log entry 19). -/
def Obligations.SilenceIsReportedOnce : Prop :=
  ∀ (l : Link) (s : State),
    s.live = true →
    ∃ t : State, exec (.silenceExpiry l) s = .next t ∧
      ((s.ports.get l).silent = false →
        t = { s with now := t.now }.withPort l { s.ports.get l with silent := true, lapseWaiting := true } ∧
        s.now ≤ t.now ∧ (s.ports.get l).lastHeard + s.settings.get (silenceSetting l) < t.now) ∧
      ((s.ports.get l).silent = true → t = s)

/-- A lapse taken while the silence lasts releases its source and sets the lapse mark; otherwise it is dropped or finds
the source OUT. R22, R136, R139 and R141. That a report waits at the port as a mark and is taken here is the model's
choice (log entry 19); that the engine stands outside LAID_UP follows from R22's effect being a RELEASE's alone. The
arming premise is an invariant (MonitorSound.armed). That a lapse is dropped where a write has raised the limit
above the present silence with no frame heard is the model's choice (log entry 40). -/
def Obligations.LapseActsAsRelease : Prop :=
  ∀ (l : Link) (s : State),
    s.live = true →
    (s.ports.get l).lapseWaiting = true →
    (s.engine.awaitingChoice = false → s.armsAgree) →
    ∃ t : State, exec (.lapse l) s = .next t ∧
      (s.now - (s.ports.get l).lastHeard ≤ s.settings.get (silenceSetting l) ∨ (s.entry (sourceOf l)).place = .out →
        t.arbiter = s.arbiter ∧ t.ports = s.ports.set l { s.ports.get l with lapseWaiting := false }) ∧
      (s.settings.get (silenceSetting l) < s.now - (s.ports.get l).lastHeard → (s.entry (sourceOf l)).place ≠ .out →
        t.arbiter = (s.releaseSource (sourceOf l)).arbiter ∧
        t.ports = s.ports.set l { s.ports.get l with lapseWaiting := false, lapseMark := true } ∧
        idleFollows s t) ∧
      (s.engine.state ≠ some .laidUp → EngineStands s t) ∧
      (s.engine.state = some .laidUp → wakeJudgedIfPresented s t)

/-- A CLAIM takes authority when the part is unheld or the claimant outranks the holder, is pending otherwise, and is
refused as R15 says. R8, R10, R14 to R16, R92, R136, R139 and R141. The arming premise is an invariant
(MonitorSound.armed). -/
def Obligations.ClaimTakesOrAwaitsAuthority : Prop :=
  ∀ (l : Link) (n : Byte) (s : State),
    s.offers l [.claim n] = true →
    ∃ t : State, exec (.claim l n []) s = .next t ∧
      (n.toNat ≤ 8 →
        s.entry (sourceOf l) = Entry.reset →
        (l = .shop → s.atRest = true) →
        s.armsAgree →
        ((∀ x ∈ s.holder, s.rank (sourceOf l) < s.rank x) →
        t.arbiter = ⟨
          (match s.holder with
            | none => s.arbiter.table
            | some x => s.arbiter.table.set x { s.entry x with place := .suspended, mtch := none, held := none }).set
            (sourceOf l)
            (if n.toNat ≤ s.stepper.granted then ⟨.holding, n.toNat, some .matched, none, .forbid⟩
              else ⟨.holding, n.toNat, some .matching, some s.stepper.granted, .forbid⟩),
          sourceOf l :: s.arbiter.stack, s.arbiter.waiting⟩ ∧
        answersOnly s t l (acceptedBody t 1)) ∧
        (¬ (∀ x ∈ s.holder, s.rank (sourceOf l) < s.rank x) →
        t.arbiter = ⟨s.arbiter.table.set (sourceOf l) ⟨.pending, n.toNat, none, none, .forbid⟩, s.arbiter.stack,
          s.arbiter.waiting.takeWhile (fun y => !s.outranks (sourceOf l) y) ++
            sourceOf l :: s.arbiter.waiting.dropWhile (fun y => !s.outranks (sourceOf l) y)⟩ ∧
        answersOnly s t l (acceptedBody t 2)) ∧
        (s.engine.state ≠ some .laidUp →
        EngineStands s t ∧ t.stepper.granted = min s.stepper.granted t.targetNotch) ∧
        (s.engine.state = some .laidUp → wakeJudgedIfPresented s t) ∧
        idleFollows s t) ∧
      (8 < n.toNat →
        t = s.answer l (s.refusalBody .badValue 1)) ∧
      (n.toNat ≤ 8 →
        (s.entry (sourceOf l)).place ≠ .out →
        t = s.answer l (s.refusalBody .already 1)) ∧
      (n.toNat ≤ 8 →
        (s.entry (sourceOf l)).place = .out →
        l = .shop →
        s.atRest = false →
        t = s.answer l (s.refusalBody .notAtRest 1))

/-- A RELEASE takes its source out of the collections, and after a holder the rule of resumption says who holds next;
from OUT it is refused. R4, R8, R19, R20, R136, R139 and R141. -/
def Obligations.ReleaseLeavesTheCollections : Prop :=
  ∀ (l : Link) (s : State),
    s.offers l [.release] = true →
    ∃ t : State, exec (.release l []) s = .next t ∧
      ((s.entry (sourceOf l)).place ≠ .out →
        AuthoritySound s →
        s.armsAgree →
        (s.holder ≠ some (sourceOf l) →
        t.arbiter = ⟨s.arbiter.table.set (sourceOf l) Entry.reset, s.arbiter.stack.filter (· != sourceOf l),
          s.arbiter.waiting.filter (· != sourceOf l)⟩) ∧
        (s.holder = some (sourceOf l) →
        t.arbiter = match s.arbiter.waiting, s.arbiter.stack.tail with
          | [], [] => ⟨s.arbiter.table.set (sourceOf l) Entry.reset, [], []⟩
          | [], b :: r =>
            ⟨(s.arbiter.table.set (sourceOf l) Entry.reset).set b ((s.entry b).gain s.stepper.granted), b :: r, []⟩
          | p :: w, [] =>
            ⟨(s.arbiter.table.set (sourceOf l) Entry.reset).set p ((s.entry p).gain s.stepper.granted), [p], w⟩
          | p :: w, b :: r =>
            if s.rank p < s.rank b then
              ⟨(s.arbiter.table.set (sourceOf l) Entry.reset).set p ((s.entry p).gain s.stepper.granted),
                p :: b :: r, w⟩
            else
              ⟨(s.arbiter.table.set (sourceOf l) Entry.reset).set b ((s.entry b).gain s.stepper.granted),
                b :: r, p :: w⟩) ∧
        answersOnly s t l (acceptedBody t 1) ∧
        (s.engine.state ≠ some .laidUp →
        EngineStands s t ∧ t.stepper.granted = min s.stepper.granted t.targetNotch) ∧
        (s.engine.state = some .laidUp → wakeJudgedIfPresented s t) ∧
        idleFollows s t) ∧
      ((s.entry (sourceOf l)).place = .out →
        t = s.answer l (s.refusalBody .notClaimed 1))

/-- A NOTCH replaces the request and matches a MATCHING holder at or below its held notch, a LAYUP the permission; from
OUT both are refused. R9, R18, R23, R136, R139, R141 and R179. -/
def Obligations.NotchAndLayupAreStored : Prop :=
  ∀ (l : Link) (n : Byte) (s : State),
    (s.offers l [.notch n] = true → (s.entry (sourceOf l)).place ≠ .out → s.armsAgree → n.toNat ≤ 8 →
    ∃ t : State, exec (.notch l n []) s = .next t ∧
      t.arbiter = { s.arbiter with
        table := s.arbiter.table.set (sourceOf l)
          (if (s.entry (sourceOf l)).mtch = some .matching ∧ n.toNat ≤ (s.entry (sourceOf l)).held.getD 0 then
            { s.entry (sourceOf l) with request := n.toNat, mtch := some .matched, held := none }
          else { s.entry (sourceOf l) with request := n.toNat }) } ∧
      answersOnly s t l (acceptedBody t 1) ∧
      (s.engine.state ≠ some .laidUp → EngineStands s t ∧ t.stepper.granted = min s.stepper.granted t.targetNotch) ∧
      (s.engine.state = some .laidUp → wakeJudgedIfPresented s t) ∧ idleFollows s t) ∧
  (∀ p : Permission, s.offers l [.layup n] = true → (s.entry (sourceOf l)).place ≠ .out → s.armsAgree →
    permissionOf n = some p →
    ∃ t : State, exec (.layup l n []) s = .next t ∧
      t.arbiter = { s.arbiter with
        table := s.arbiter.table.set (sourceOf l) { s.entry (sourceOf l) with permission := p } } ∧
      answersOnly s t l (acceptedBody t 1) ∧
      (s.engine.state ≠ some .laidUp → EngineStands s t ∧ t.stepper.granted = min s.stepper.granted t.targetNotch) ∧
      (s.engine.state = some .laidUp → wakeJudgedIfPresented s t) ∧ idleFollows s t) ∧
  (s.offers l [.notch n] = true →
    ∃ t : State, exec (.notch l n []) s = .next t ∧
      (8 < n.toNat → t = s.answer l (s.refusalBody .badValue 1)) ∧
      (n.toNat ≤ 8 → (s.entry (sourceOf l)).place = .out → t = s.answer l (s.refusalBody .notClaimed 1))) ∧
  (s.offers l [.layup n] = true →
    ∃ t : State, exec (.layup l n []) s = .next t ∧
      (1 < n.toNat → t = s.answer l (s.refusalBody .badValue 1)) ∧
      (n.toNat ≤ 1 → (s.entry (sourceOf l)).place = .out → t = s.answer l (s.refusalBody .notClaimed 1)))

/-- A TRIP_RESET empties the Trip List, stops the engine and gives authority to the successor, or is refused in the
order of its checks. R26 to R28 and R49. -/
def Obligations.TripResetReturnsAuthority : Prop :=
  ∀ (l : Link) (s : State),
    s.offers l [.tripReset] = true →
    ∃ t : State, exec (.tripReset l []) s = .next t ∧
      (s.engine.state = some .tripped →
        s.holder = some .protection →
        s.monitor.trips ≠ [] →
        s.mayReset l = true →
        s.frontEnd.reported < 20 →
        (∀ c ∈ s.monitor.conditions, c.cls ≠ .trip) →
        AuthoritySound s →
        s.armsAgree →
        t.engine = { s.engine with state := some .stopped } ∧
        t.outputs.fuelRun = false ∧
        t.outputs.governor = 0 ∧
        t.monitor = { s.monitor with trips := [] } ∧
        t.outputs.alert = !s.monitor.conditions.isEmpty ∧
        t.holder = s.successor ∧
        t.entry .protection = Entry.reset ∧
        (∀ x ∈ s.successor, t.entry x = (s.entry x).gain s.stepper.granted) ∧
        (∀ x : Source, x ≠ .protection → s.successor ≠ some x → t.entry x = s.entry x) ∧
        t.sequencer = s.sequencer ∧
        t.store = s.store ∧
        sameWorld s t ∧
        answersOnly s t l (acceptedBody t 1)) ∧
      (s.monitor.trips = [] →
        t = s.answer l (s.refusalBody .notTripped 1)) ∧
      (s.monitor.trips ≠ [] →
        s.successor ≠ some (sourceOf l) →
        (¬ (l = .shop ∧ (.shop ∈ s.arbiter.stack ∨ .shop ∈ s.arbiter.waiting))) →
        t = s.answer l (s.refusalBody .notSuccessor 1)) ∧
      (s.monitor.trips ≠ [] →
        s.mayReset l = true →
        20 ≤ s.frontEnd.reported →
        t = s.answer l (s.refusalBody .rotating 1)) ∧
      (s.monitor.trips ≠ [] →
        s.mayReset l = true →
        s.frontEnd.reported < 20 →
        (∃ c ∈ s.monitor.conditions, c.cls = .trip) →
        t = s.answer l (s.refusalBody .tripActive 1))

/-- An accepted START begins the Start Record, enters PRELUBE or CRANK, and switches the contactors of that phase. R35,
R55, R57 to R61. The premises on the channels and the Stepper are invariants (MonitorSound.armed, StepperSound). -/
def Obligations.StartEntersItsFirstPhase : Prop :=
  ∀ (l : Link) (m : Byte) (mode : StartMode) (s : State),
    s.offers l [.start m] = true →
    startModeOf m = some mode →
    s.holds l = true →
    s.startRefusal mode = none →
    (s.engine.state = some .stopped ∨ s.engine.state = some .laidUp) →
    s.armsAgree →
    StepperSound s →
    ∃ t : State, exec (.start l m []) s = .next t ∧
      t.arbiter = s.arbiter ∧
      sameWorld s t ∧
      sameContents s t ∧
      sameMonitor s t ∧
      answersOnly s t l (acceptedBody t 1) ∧
      t.engine = { s.engine with state := t.engine.state, layupMark := false } ∧
      t.sequencer.lockoutEnd = none ∧
      (mode = .full → 1 ≤ s.prelubeDuration →
        t.engine.state = some (.starting .prelube) ∧ t.sequencer.timer = some (s.now + s.prelubeDuration * 1000) ∧
        t.sequencer.record = some ⟨.source (sourceOf l), .full, .prelube, .inProgress, 0, []⟩ ∧
        t.outputs.starter = false ∧ t.outputs.prelube = true ∧ t.outputs.fuelRun = false ∧ t.outputs.governor = 0) ∧
      (mode = .skipPrelube →
        t.engine.state = some (.starting .crank) ∧
        t.sequencer.timer = some (s.now + s.settings.crankWindow * 1000) ∧
        t.sequencer.run = some 0 ∧ t.sequencer.peak = some s.frontEnd.reported ∧
        t.sequencer.record = some ⟨.source (sourceOf l), .skipPrelube, .crank, .inProgress, 1, []⟩ ∧
        t.outputs.starter = true ∧ t.outputs.prelube = true ∧ t.outputs.fuelRun = true ∧
        t.outputs.governor = s.store.scheduledSpeed 0) ∧
      (mode = .full → s.prelubeDuration = 0 → 30 ≤ s.reading .lube →
        t.engine.state = some (.starting .crank) ∧
        t.sequencer.timer = some (s.now + s.settings.crankWindow * 1000) ∧
        t.sequencer.run = some 0 ∧ t.sequencer.peak = some s.frontEnd.reported ∧
        t.sequencer.creditEnd = some (s.now + 120000) ∧
        t.sequencer.record = some ⟨.source (sourceOf l), .full, .crank, .inProgress, 1, []⟩ ∧
        t.outputs.starter = true ∧ t.outputs.prelube = true ∧ t.outputs.fuelRun = true ∧
        t.outputs.governor = s.store.scheduledSpeed 0) ∧
      (mode = .full → s.prelubeDuration = 0 → s.reading .lube < 30 →
        t.engine.state = some .stopped ∧ t.sequencer.timer = none ∧
        t.sequencer.record = some ⟨.source (sourceOf l), .full, .prelube, .noPrelubePressure, 0, []⟩ ∧
        t.outputs.starter = false ∧ t.outputs.prelube = false ∧ t.outputs.fuelRun = false ∧ t.outputs.governor = 0)

/-- The checks of START are made in their order, and the first that fails gives the refusal, which changes nothing. R34,
check by check. -/
def Obligations.StartIsRefusedInOrder : Prop :=
  ∀ (l : Link) (m : Byte) (mode : StartMode) (s : State),
    s.offers l [.start m] = true →
    startModeOf m = some mode →
    s.holds l = true →
    ∃ t : State, exec (.start l m []) s = .next t ∧
      (s.sequencer.lockoutEnd.isSome = true → t = s.answer l (s.refusalBody .starterRest 1)) ∧
      (s.sequencer.lockoutEnd = none → (∃ p : Phase, s.engine.state = some (.starting p)) →
        t = s.answer l (s.refusalBody .alreadyStarting 1)) ∧
      (s.sequencer.lockoutEnd = none → s.engine.state = some .running ∨ s.engine.state = some .isolated →
        t = s.answer l (s.refusalBody .alreadyRunning 1)) ∧
      (s.sequencer.lockoutEnd = none → s.engine.state = some .cooldown ∨ s.engine.state = some .rundown →
        t = s.answer l (s.refusalBody .inTransition 1)) ∧
      (s.sequencer.lockoutEnd = none → s.engine.state = some .tripped → t = s.answer l (s.refusalBody .tripped 1)) ∧
      (s.sequencer.lockoutEnd = none → s.engine.state = some .stopped ∨ s.engine.state = some .laidUp →
        20 ≤ s.frontEnd.reported → t = s.answer l (s.refusalBody .rotating 1)) ∧
      (s.sequencer.lockoutEnd = none → s.engine.state = some .stopped ∨ s.engine.state = some .laidUp →
        s.frontEnd.reported < 20 → mode = .skipPrelube → s.sequencer.creditEnd = none →
        t = s.answer l (s.refusalBody .noPrelubeCredit 1)) ∧
      (s.sequencer.lockoutEnd = none → s.engine.state = some .stopped ∨ s.engine.state = some .laidUp →
        s.frontEnd.reported < 20 → (mode = .skipPrelube → s.sequencer.creditEnd.isSome = true) →
        answersOnly s t l (acceptedBody t 1))

/-- A STOP begins a cool-down or a rundown, turns a stop in progress into an ordinary one, and ends a layup; elsewhere
it is refused. R36, R37, R93 and R122. -/
def Obligations.StopBeginsTheStop : Prop :=
  ∀ (l : Link) (s : State),
    s.offers l [.stop] = true →
    s.holds l = true →
    ∃ t : State, exec (.stop l []) s = .next t ∧
      ((s.runs = true ∨ s.engine.state = some .cooldown ∨ s.engine.state = some .rundown ∨ s.engine.state = some .laidUp) →
        MonitorSound s →
        (s.runs = true → 1 ≤ s.settings.cooldownTime →
        t.engine = { s.engine with
          state := some .cooldown, stopKind := some .normal
          cooldownEnd := some (s.now + s.settings.cooldownTime * 1000) } ∧ t.outputs.fuelRun = true) ∧
        (s.runs = true → s.settings.cooldownTime = 0 →
        t.engine = { s.engine with
          state := some .rundown, stopKind := some .normal, cooldownEnd := none
          rundownEnd := some (s.now + 60000) } ∧ t.outputs.fuelRun = false ∧ t.outputs.governor = 0) ∧
        (s.engine.state = some .cooldown ∨ s.engine.state = some .rundown →
        t.engine = { s.engine with stopKind := some .normal } ∧ t.outputs.fuelRun = s.outputs.fuelRun) ∧
        (s.engine.state = some .laidUp →
        t.engine = { s.engine with state := some .stopped, layupMark := false } ∧ t.outputs.fuelRun = false) ∧
        (s.engine.state = some .running → t.stepper.granted = 0 ∧ t.stepper.loadRef = 0 ∧ t.outputs.excitation = 0) ∧
        (∀ c : Channel, c ∈ t.monitor.conditions ↔ c ∈ s.monitor.conditions ∧ armedFor t.engine.state c = true) ∧
        t.monitor.trips = s.monitor.trips ∧
        t.arbiter = s.arbiter ∧
        t.sequencer = s.sequencer ∧
        sameContents s t ∧
        sameWorld s t ∧
        t.outputs.starter = s.outputs.starter ∧
        t.outputs.prelube = s.outputs.prelube ∧
        answersOnly s t l (acceptedBody t 1)) ∧
      ((∃ p : Phase, s.engine.state = some (.starting p)) →
        t = s.answer l (s.refusalBody .inTransition 1)) ∧
      ((s.engine.state = some .stopped ∨ s.engine.state = some .tripped) →
        t = s.answer l (s.refusalBody .notRunning 1))

/-- A CANCEL ends a start with outcome CANCELLED, or returns a cool-down to running; elsewhere it is refused, and it may
arm CRANKCASE into a trip. R38, R42 and R73. The premise on the switch leaves aside a trip at the arming of
CRANKCASE in RUNDOWN (R118). R118 and R122 for the onset at the arming, where the state that the trip's entry
records is the model's reading (log entry 9). -/
def Obligations.CancelEndsStartOrCooldown : Prop :=
  ∀ (l : Link) (s : State),
    s.offers l [.cancel] = true →
    s.holds l = true →
    ∃ t : State, exec (.cancel l []) s = .next t ∧
      ((s.engine.state = some .cooldown ∨ (s.startRuns = true ∧ s.filtered .crankcaseSwitch = false)) →
        MonitorSound s →
        (s.startRuns = true →
        t.sequencer = { s.sequencer.idle with record := s.sequencer.record.map fun r => { r with outcome := .cancelled } } ∧
        t.outputs.starter = false ∧ t.outputs.prelube = false ∧ t.outputs.fuelRun = false ∧
        t.engine = if 20 ≤ s.frontEnd.reported ∨ s.outputs.fuelRun = true then
            { s.engine with
              state := some .rundown, stopKind := some .normal, cooldownEnd := none
              rundownEnd := some (s.now + 60000) }
          else { s.engine with state := some .stopped }) ∧
        (s.engine.state = some .cooldown →
        t.engine = { s.engine with
          state := some (if s.engine.isolateFlag || s.filtered .isolateSwitch then .isolated else .running)
          stopKind := none, cooldownEnd := none, rundownEnd := none } ∧
        t.outputs.fuelRun = true ∧ t.sequencer = s.sequencer) ∧
        t.monitor.trips = s.monitor.trips ∧
        t.arbiter = s.arbiter ∧
        sameContents s t ∧
        sameWorld s t ∧
        answersOnly s t l (acceptedBody t 1)) ∧
      (s.engine.state = some .rundown →
        t = s.answer l (s.refusalBody .tooLate 1)) ∧
      ((s.engine.state = some .stopped ∨ s.runs = true ∨ s.engine.state = some .laidUp ∨ s.engine.state = some .tripped) →
        t = s.answer l (s.refusalBody .nothingToCancel 1)) ∧
      (s.engine.state = some (.starting .prelube) ∨ s.engine.state = some (.starting .crank) ∨
          s.engine.state = some (.starting .rest) →
        s.filtered .crankcaseSwitch = true → 20 ≤ s.frontEnd.reported ∨ s.outputs.fuelRun = true →
        MonitorSound s → s.monitor.trips = [] → s.entry .protection = Entry.reset →
        TripTaken { s with
            engine := { s.engine with
              state := some .rundown, stopKind := some .normal, cooldownEnd := none
              rundownEnd := some (s.now + 60000) }
            sequencer := { s.sequencer.idle with
              record := s.sequencer.record.map fun r => { r with outcome := .cancelled } } } t .crankcase ∧
        t.outputs.starter = false ∧ t.outputs.prelube = false ∧ t.holder = some .protection ∧
        answersOnly s t l (acceptedBody t 1))

/-- An accepted ISOLATE sets the flag, and in RUNNING and ISOLATED the engine takes the state isolation then asks. R39
and R41. -/
def Obligations.IsolateSetsTheFlag : Prop :=
  ∀ (l : Link) (o : Byte) (on : Bool) (s : State),
    s.offers l [.isolate o] = true →
    s.holds l = true →
    switchOf o = some on →
    EngineSound s →
    MonitorSound s →
    ∃ t : State, exec (.isolate l o []) s = .next t ∧
      t.engine = { s.engine with
        isolateFlag := on
        state := if s.runs then some (if on || s.filtered .isolateSwitch then .isolated else .running)
          else s.engine.state } ∧
      (s.engine.state = some .running → t.engine.state = some .isolated →
        t.stepper.granted = 0 ∧ t.stepper.loadRef = 0 ∧ t.outputs.excitation = 0) ∧
      t.arbiter = s.arbiter ∧
      t.sequencer = s.sequencer ∧
      sameMonitor s t ∧
      sameContactors s t ∧
      sameContents s t ∧
      sameWorld s t ∧
      answersOnly s t l (acceptedBody t 1)

/-- READ changes nothing but its reply: snapshot and results laid out as section 9.7 has them, or BAD_VALUE for what
names nothing or exceeds 50 bytes. R29, R53, R80, R111, R132, R146, R159, R170, R180 and R181, with the layouts and
codes of section 9.7. The model's choices are what 0 stands for beyond enumerated fields (log entry 24), and how
times that are due (entries 28 and 41) and counts wider than their field (entry 37) are shown. -/
def Obligations.ReadChangesNothing : Prop :=
  ∀ (l : Link) (s : State),
    codesAsTabled ∧
  (∀ (item : Byte) (number : Word16), s.offers l [.read item number] = true → namesNothing item.toNat number.toNat →
    exec (.read l item number []) s = .next (s.answer l (s.refusalBody .badValue 1))) ∧
  (∀ (item : Byte) (number : Word16), s.offers l [.read item number] = true → ¬ namesNothing item.toNat number.toNat →
    MonitorSound s → StepperSound s → IdleSound s →
    ∃ t : State, exec (.read l item number []) s = .next t ∧
      t = s.answer l ([1#8, 0#8, 0#8] ++ s.snapshot ++ item :: (be16Word number ++ s.readValues item.toNat number.toNat)) ∧ snapshotShows s s.snapshot ∧
      (item :: (be16Word number ++ s.readValues item.toNat number.toNat)).length = resultSize item.toNat number.toNat ∧
      valuesShow s item.toNat number.toNat (s.readValues item.toNat number.toNat)) ∧
  (∀ (item item2 : Byte) (number number2 : Word16), s.offers l [.read item number, .read item2 number2] = true →
    ¬ namesNothing item.toNat number.toNat → ¬ namesNothing item2.toNat number2.toNat →
    (50 < resultSize item.toNat number.toNat + resultSize item2.toNat number2.toNat →
      exec (.read l item number [.read item2 number2]) s = .next (s.answer l (s.refusalBody .badValue 2))) ∧
    (resultSize item.toNat number.toNat + resultSize item2.toNat number2.toNat ≤ 50 →
      MonitorSound s → StepperSound s → IdleSound s →
      ∃ t : State, exec (.read l item number [.read item2 number2]) s = .next t ∧
        t = s.answer l ([1#8, 0#8, 0#8] ++ s.snapshot ++
          (item :: (be16Word number ++ s.readValues item.toNat number.toNat) ++
            item2 :: (be16Word number2 ++ s.readValues item2.toNat number2.toNat)))))

/-- A SET of a setting stores the value and its reader takes it up in the commit, nothing else changes; or it is refused
by the checks of R156 in order. R21, R139, R140, R149, R151, R154 to R157, R169. That the report of a lapse is made
in the commit is the model's reading (log entry 20). -/
def Obligations.SettingIsWritten : Prop :=
  ∀ (l : Link) (number value : Word16) (s : State),
    s.offers l [.set 0#8 number value] = true →
    ((number.toNat = 0 ∨ 30 < number.toNat → exec (.setSetting l number value []) s = .next (s.answer l (s.refusalBody .badValue 1))) ∧
  (1 ≤ number.toNat → number.toNat ≤ 30 → outsideRange number.toNat value.toNat →
    exec (.setSetting l number value []) s = .next (s.answer l (s.refusalBody .badValue 1))) ∧
  (∀ k : Setting, Setting.ofNum number.toNat = some k → ¬ outsideRange number.toNat value.toNat →
    s.writeAdmitted l k.group = false →
    exec (.setSetting l number value []) s = .next (s.answer l (s.refusalBody .groupLocked 1))) ∧
  (∀ (k : Setting) (m m2 : Link), Setting.ofNum number.toNat = some k → ¬ outsideRange number.toNat value.toNat →
    s.writeAdmitted l k.group = true → k.rankOf = some m → m2 ≠ m → s.settings.get (rankSetting m2) = value.toNat →
    exec (.setSetting l number value []) s = .next (s.answer l (s.refusalBody .rankConflict 1))) ∧
  (∀ (k : Setting) (u : State), Setting.ofNum number.toNat = some k →
    ¬ outsideRange number.toNat value.toNat →
    s.writeAdmitted l k.group = true →
    (∀ m m2 : Link, k.rankOf = some m → m2 ≠ m → s.settings.get (rankSetting m2) ≠ value.toNat) →
    MonitorSound s →
    StepperSound s →
    IdleSound s →
    u = { s with store := { s.store with settings := s.settings.set k value.toNat } } →
    ∃ t : State, exec (.setSetting l number value []) s = .next t ∧
      t.settings.get k = value.toNat ∧
      (∀ j : Setting, j ≠ k → t.settings.get j = s.settings.get j) ∧
      t.store.words = s.store.words ∧
      (k.isWakeEnable = false ∨ s.engine.state ≠ some .laidUp → k.silenceOf = none → k.inputOf = none →
        t = u.answer l (acceptedBody t 1)) ∧
      (∀ m ∈ k.silenceOf,
        t = (if value.toNat < s.silenceOf m ∧ (s.ports.get m).silent = false then
            u.withPort m { s.ports.get m with silent := true, lapseWaiting := true } else u).answer l (acceptedBody t 1)) ∧
      (∀ i ∈ k.inputOf,
        t = (u.withInput i ⟨(s.frontEnd.inputs.get i).raw, selectedLevel value.toNat (s.frontEnd.inputs.get i).raw,
          s.filtered i,
          if selectedLevel value.toNat (s.frontEnd.inputs.get i).raw = s.filtered i then none else some s.now⟩).answer l
            (acceptedBody t 1)) ∧
      (k.isWakeEnable = true → s.engine.state = some .laidUp →
        wakeJudged s t ∧ wakeLookups s t ∧ t.arbiter = s.arbiter ∧ sameWorld s t ∧ sameMonitor s t ∧
        answersOnly s t l (acceptedBody t 1))))

/-- A SET of a word or SEGMENT writes that word or entry and clears the fault latch and marks; a start in its order
looks up what the order leaves. R35, R120, R148, R149, R151 to R153. The dropping of a waiting report is the model's
choice (log entry 18), and so is the row of the class (entry 23). That a start cancelled in its own order still
makes its lookup at the commit is the model's reading (log entry 27). -/
def Obligations.WordsAndSegmentsAreWritten : Prop :=
  ∀ (s : State),
    s.holder = some .shop →
    s.engine.state = some .stopped →
    MonitorSound s →
    StepperSound s →
    IdleSound s →
    StoreSound s →
    ((∀ number value : Word16, s.offers .shop [.set 1#8 number value] = true → number.toNat ≤ 511 →
    ∃ t : State, exec (.setWord .shop 1#8 number value []) s = .next t ∧ ScheduleWritten s t .shop ∧
      t.store.word number.toNat = value ∧ (∀ i : Nat, i ≠ number.toNat → t.store.word i = s.store.word i) ∧
      (∀ g : SegmentId, t.store.segments.get g = { s.store.segments.get g with faultMark := false })) ∧
  (∀ (id : Byte) (base limit : Word16) (stride : Byte) (g : SegmentId),
    s.offers .shop [.segment id base limit stride] = true → SegmentId.ofNum id.toNat = some g →
    segmentInRange base.toNat limit.toNat stride.toNat = true →
    ∃ t : State, exec (.segment .shop id base limit stride []) s = .next t ∧ ScheduleWritten s t .shop ∧
      t.store.segments.get g = ⟨base.toNat, limit.toNat, stride.toNat, false⟩ ∧
      (∀ h : SegmentId, h ≠ g → t.store.segments.get h = { s.store.segments.get h with faultMark := false }) ∧
      t.store.words = s.store.words) ∧
  (∀ (l : Link) (cls : Byte) (number value : Word16), s.offers l [.set cls number value] = true → 1 < cls.toNat →
    exec (.setWord l cls number value []) s = .next (s.answer l (s.refusalBody .badValue 1))) ∧
  (∀ (l : Link) (number value : Word16), s.offers l [.set 1#8 number value] = true → 511 < number.toNat →
    exec (.setWord l 1#8 number value []) s = .next (s.answer l (s.refusalBody .badValue 1))) ∧
  (∀ (l : Link) (id : Byte) (base limit : Word16) (stride : Byte), s.offers l [.segment id base limit stride] = true →
    5 < id.toNat ∨ segmentInRange base.toNat limit.toNat stride.toNat = false →
    exec (.segment l id base limit stride []) s = .next (s.answer l (s.refusalBody .segmentRange 1))) ∧
  (∀ number value : Word16, s.offers .shop [.set 1#8 number value, .start 0#8] = true → number.toNat ≤ 511 →
    s.startRefusal .full = none →
    ∃ t : State, exec (.setWord .shop 1#8 number value [.start 0#8]) s = .next t ∧
      t.store.word number.toNat = value ∧ (∀ i : Nat, i ≠ number.toNat → t.store.word i = s.store.word i) ∧
      t.monitor.latch = false ∧ t.arbiter = s.arbiter ∧ sameWorld s t ∧
      (1 ≤ t.prelubeDuration →
        t.engine = { s.engine with state := some (.starting .prelube), layupMark := false } ∧
        t.sequencer.timer = some (t.now + t.prelubeDuration * 1000) ∧
        t.sequencer.record = some ⟨.source .shop, .full, .prelube, .inProgress, 0, []⟩ ∧
        t.outputs.starter = false ∧ t.outputs.prelube = true ∧ t.outputs.fuelRun = false) ∧
      (t.prelubeDuration = 0 → 30 ≤ s.reading .lube → t.engine.state = some (.starting .crank) ∧
        t.sequencer.creditEnd = some (t.now + 120000)) ∧
      (t.prelubeDuration = 0 → s.reading .lube < 30 → t.engine.state = some .stopped ∧
        t.sequencer.record = some ⟨.source .shop, .full, .prelube, .noPrelubePressure, 0, []⟩) ∧
      answersOnly s t .shop (acceptedBody t 1)) ∧
  (∀ (base limit : Word16) (stride : Byte),
    s.offers .shop [.start 0#8, .cancel, .segment 2#8 base limit stride] = true → s.startRefusal .full = none →
    segmentInRange base.toNat limit.toNat stride.toNat = true →
    ∃ t : State, exec (.start .shop 0#8 [.cancel, .segment 2#8 base limit stride]) s = .next t ∧
      t.engine = { s.engine with layupMark := false } ∧
      t.outputs.starter = false ∧ t.outputs.prelube = false ∧ t.outputs.fuelRun = false ∧
      t.sequencer.record = some ⟨.source .shop, .full, .prelube, .cancelled, 0, []⟩ ∧ t.sequencer.timer = none ∧
      t.store.segments.get .prelubeTime = ⟨base.toNat, limit.toNat, stride.toNat,
        decide (limit.toNat ≤ coolantBand (s.reading .coolant) * stride.toNat)⟩ ∧
      t.monitor.faultReported = decide (limit.toNat ≤ coolantBand (s.reading .coolant) * stride.toNat) ∧
      t.monitor.latch = false ∧
      (∀ h : SegmentId, h ≠ .prelubeTime →
        t.store.segments.get h = { s.store.segments.get h with faultMark := false }) ∧
      t.store.words = s.store.words ∧ t.arbiter = s.arbiter ∧ sameWorld s t ∧
      answersOnly s t .shop (acceptedBody t 1)))

/-- An order that does not parse is refused MALFORMED with the index of its parse, and nothing else changes. R177. Where
the spec gives no index the parse gives 1 (log entry 33). The index that a parse gives is stated in
ParseReadsWhatIsEncoded. -/
def Obligations.MalformedOrderIsRefused : Prop :=
  ∀ (l : Link) (index : Nat) (s : State),
    s.orderUnitOpen = true →
    s.nextParsed l = some (.malformed index) →
    exec (.malformedOrder l) s = .next (s.answer l ([3#8, 8#8, byteOf index] ++ s.snapshot))

/-- An order takes effect whole or not at all: refused, it changes nothing but its reply; accepted, its last view is
committed. R177 and R178. That a row without its order has no effect is the model's choice (log entries 3 and 4). -/
def Obligations.OrdersCommitWholeOrNot : Prop :=
  ∀ (l : Link) (a : Sys2Proof.Action) (more : List Sys2Proof.Action) (s : State),
    ∃ t : State, exec (orderCommand l a more) s = .next t ∧
      (s.offers l (a :: more) = false → t = s) ∧
      (s.offers l (a :: more) = true → ∀ (c : RefusalCode) (index : Nat),
        State.runActions l 1 0 [] (a :: more) s = .error (c, index) →
        t = s.answer l ([3#8, byteOf c.num, byteOf index] ++ s.snapshot)) ∧
      (s.offers l (a :: more) = true → ∀ w : State, State.runActions l 1 0 [] (a :: more) s = .ok w →
        t = (s.commit (a :: more) w).answer l ((s.commit (a :: more) w).acceptBody l (a :: more)))

/-- An action that repeats an earlier one of its order, or a SET item, is refused DUPLICATE_ACTION at its own index; no
accepted order holds one. R177, by induction over the order. -/
def Obligations.AcceptedOrdersNameItemsOnce : Prop :=
  ∀ (l : Link) (a : Sys2Proof.Action) (as rest : List Sys2Proof.Action) (s : State),
    (∀ w : State, State.runActions l 1 0 [] as s = .ok w → as.Pairwise fun x y => duplicates y x = false) ∧
  (∀ (c : RefusalCode) (index : Nat), State.runActions l 1 0 [] as s = .error (c, index) → 1 ≤ index ∧ index ≤ as.length) ∧
  (∀ w : State, State.runActions l 1 0 [] as s = .ok w →
    (∃ b ∈ as, (a.code = b.code ∧ a.code ≠ 10 ∧ a.code ≠ 11) ∨
      ∃ (c : Byte) (n v v' : Word16), a = .set c n v ∧ b = .set c n v') →
    State.runActions l 1 0 [] (as ++ a :: rest) s = .error (.duplicateAction, as.length + 1) ∧
    (s.offers l (as ++ a :: rest) = true → ∀ (b : Sys2Proof.Action) (more : List Sys2Proof.Action), as = b :: more →
      exec (orderCommand l b (more ++ a :: rest)) s =
        .next (s.answer l (s.refusalBody .duplicateAction (as.length + 1)))))

/-- START, STOP, CANCEL and ISOLATE from a link that does not hold are refused NOT_HOLDER and change nothing. R7 and
R33, checks 1 and 2. -/
def Obligations.OnlyTheHolderActsOnTheEngine : Prop :=
  ∀ (l : Link) (a : Sys2Proof.Action) (more : List Sys2Proof.Action) (m : Byte) (s : State),
    s.offers l (a :: more) = true →
    (a = .start m ∨ a = .stop ∨ a = .cancel ∨ a = .isolate m) →
    ∃ t : State, exec (orderCommand l a more) s = .next t ∧
      (s.holds l = false → (a = .start m → 2 > m.toNat) → (a = .isolate m → 2 > m.toNat) →
        t = s.answer l (s.refusalBody .notHolder 1)) ∧
      (a = .start m ∨ a = .isolate m → 2 ≤ m.toNat → t = s.answer l (s.refusalBody .badValue 1))

/-- A write is admitted when sender, holder and engine state meet the rights of its group, and refused GROUP_LOCKED
otherwise. R155; the groups are those of R154. -/
def Obligations.WritesNeedTheirRights : Prop :=
  ∀ (l : Link) (a : Sys2Proof.Action) (g : WriteGroup) (s : State),
    s.offers l [a] = true →
    writesItem s a g →
    ∃ t : State, exec (orderCommand l a []) s = .next t ∧
      (writeRights s l g →
        (t.ports.get l).queue = answerFirst (s.ports.get l).made (acceptedBody t 1) (s.ports.get l).queue) ∧
      (¬ writeRights s l g → t = s.answer l (s.refusalBody .groupLocked 1))

/-- A scan gives every analog channel its reading brought into range, with a mark just where the reading lay outside.
R161 and R162. That a due event may be taken late is the model's choice (log entry 2). -/
def Obligations.ScanClampsEveryChannel : Prop :=
  ∀ (raw : PerAnalog Int) (s : State),
    s.live = true →
    ∃ t : State, exec (.sensorScan raw) s = .next t ∧
      t.now = max s.now s.frontEnd.nextScan ∧
      (∀ c : Analog, s.frontEnd.nextScan + 50 = t.frontEnd.nextScan ∧
        t.reading c = min (analogRange c).2 (max (analogRange c).1 (raw.get c)) ∧
        (t.frontEnd.clamped.get c = true ↔ raw.get c < (analogRange c).1 ∨ (analogRange c).2 < raw.get c)) ∧
      analogRange .lube = (0, 1000) ∧ analogRange .fuel = (0, 1000) ∧ analogRange .coolant = (-50, 150) ∧
      analogRange .intake = (-50, 120) ∧ analogRange .manifold = (0, 400) ∧ analogRange .barometric = (50, 110) ∧
      analogRange .battery = (0, 150) ∧
      t.frontEnd = { s.frontEnd with scan := t.frontEnd.scan, clamped := t.frontEnd.clamped, nextScan := t.frontEnd.nextScan } ∧
      t.ports = s.ports ∧
      t.settings = s.settings ∧
      t.pending = s.pending

/-- A scan counts each armed threshold channel (three scans for onset, twenty for clearing), sees the lube in WARM, and
wakes a laid-up engine. R70, R71, R114 to R116, R139 and R47. The premises leave aside a trip at this scan
(ThirdOverspeedScanTrips). That the Monitor takes the scan before the Sequencer and the wake watch is the model's
choice (log entries 10 and 11). -/
def Obligations.ScanCountsPersistence : Prop :=
  ∀ (raw : PerAnalog Int) (st : EngineState) (s : State),
    s.live = true →
    s.engine.state = some st →
    s.engine.awaitingChoice = false →
    MonitorSound s →
    (s.monitor.trips = [] → (s.channel .overspeed).onset ≤ 1 ∧ (s.channel .lubeLow).onset ≤ 1) →
    ∃ t : State, exec (.sensorScan raw) s = .next t ∧
      (∀ c ∈ Channel.thresholds, (s.channel c).armed = true → scanOutcome s t c
          (if c ∈ s.monitor.conditions then c.pastClear (t.channelReading c) (s.store.look (s.channelLookup c))
            else c.pastOnset (t.channelReading c) (s.store.look (s.channelLookup c)))) ∧
      (st ≠ .starting .warm → st ≠ .laidUp → t.engine = s.engine ∧ t.sequencer = s.sequencer) ∧
      (s.monitor.trips = [] → t.monitor.trips = []) ∧
      t.arbiter = s.arbiter ∧
      (st = .starting .warm → s.sequencer.lubeSeen ≠ some false ∨ t.reading .lube < (s.sequencer.lubeMinimum.getD 0 : Int) →
        t.engine = s.engine ∧ t.sequencer = s.sequencer) ∧
      (st = .starting .warm → s.sequencer.lubeSeen = some false → (s.sequencer.lubeMinimum.getD 0 : Int) ≤ t.reading .lube →
        1 ≤ s.sequencer.warmTime.getD 0 →
        t.engine = s.engine ∧
        t.sequencer = { s.sequencer with
          lubeSeen := some true, timer := some (t.now + s.sequencer.warmTime.getD 0 * 1000) }) ∧
      (st = .starting .warm → s.sequencer.lubeSeen = some false → (s.sequencer.lubeMinimum.getD 0 : Int) ≤ t.reading .lube →
        s.sequencer.warmTime.getD 0 = 0 →
        t.engine = { s.engine with
          state := some (if s.engine.isolateFlag || s.filtered .isolateSwitch then .isolated else .running) } ∧
        t.sequencer = { s.sequencer.idle with
          record := s.sequencer.record.map fun r => { r with outcome := .runningReached } } ∧
        t.outputs.starter = false ∧ t.outputs.prelube = false ∧ t.outputs.fuelRun = true) ∧
      (st = .laidUp → wakeJudged s t)

/-- A third scan past the overspeed or the lube threshold is a trip, and so is the arming of CRANKCASE over its active
input: engine, authority, start, outputs. R24, R48, R74, R115, R116, R118, R122 and R127. That the entry records the
state before the trip is the model's choice (log entry 9), and so is that the Monitor takes the scan before the
Sequencer, so that a start in WARM is recorded TRIPPED and not ended by the lube comparison (entry 10). -/
def Obligations.ThirdOverspeedScanTrips : Prop :=
  ∀ (raw : PerAnalog Int) (st : EngineState) (s : State),
    s.live = true →
    s.engine.awaitingChoice = false →
    s.engine.state = some st →
    MonitorSound s →
    s.monitor.trips = [] →
    s.entry .protection = Entry.reset →
    ((st.turnsUnderPower = true →
    (s.channel .overspeed).onset = 2 →
    Channel.overspeed ∉ s.monitor.conditions →
    (s.channel .lubeLow).onset ≤ 1 →
    s.store.look (thresholdLookup 0 0) ≤ s.frontEnd.reported →
    ∃ t : State, exec (.sensorScan raw) s = .next t ∧ TripTaken s t .overspeed ∧ t.holder = some .protection ∧ t.authorityNotch = 0) ∧
  (st = .running ∨ st = .isolated ∨ st = .cooldown →
    (s.channel .lubeLow).onset = 2 →
    Channel.lubeLow ∉ s.monitor.conditions →
    (s.channel .overspeed).onset ≤ 1 →
    clampReading .lube raw.lube < s.store.look (lubeLookup (speedBand s.frontEnd.reported)) →
    ∃ t : State, exec (.sensorScan raw) s = .next t ∧ TripTaken s t .lubeLow ∧ t.holder = some .protection ∧ t.authorityNotch = 0) ∧
  (st = .starting .crank → s.filtered .crankcaseSwitch = true → 5 ≤ s.sequencer.run.getD 0 →
    ∃ t : State, exec .speedMeasurement s = .next t ∧
      (t.frontEnd.quality = .good → 160 ≤ t.frontEnd.measured.getD 0 →
        TripTaken { s with
          engine := { s.engine with state := some (.starting .catching) }
          sequencer := { s.sequencer with
            record := s.sequencer.record.map fun r => { r with furthest := r.furthest.later .catching } } } t .crankcase ∧ t.holder = some .protection ∧ t.authorityNotch = 0)))

/-- A measurement counts the pulses of the last 100 ms and forms the measured speed from them. R163. The edge of the
window is the model's choice (log entry 16). That a due event may be taken late is the model's choice (log entry 2). -/
def Obligations.MeasurementCountsPulses : Prop :=
  ∀ (s : State),
    s.live = true →
    ∃ t : State, exec (.speedMeasurement) s = .next t ∧
      t.now = max s.now s.frontEnd.nextMeasurement ∧
      t.frontEnd.pulses = s.frontEnd.pulses.filter (fun p => decide (t.now < p + 100)) ∧
      t.frontEnd.pulseCount = t.frontEnd.pulses.length ∧
      t.frontEnd.measured = some (min 1500 (t.frontEnd.pulseCount * 600 / s.settings.flywheelTeeth)) ∧
      t.frontEnd.previous = s.frontEnd.measured ∧
      t.frontEnd.nextMeasurement = s.frontEnd.nextMeasurement + 50 ∧
      t.frontEnd.scan = s.frontEnd.scan ∧
      t.frontEnd.clamped = s.frontEnd.clamped ∧
      t.frontEnd.inputs = s.frontEnd.inputs ∧
      t.ports = s.ports ∧
      t.pending = s.pending

/-- The runs, the speed quality, the reported and the settled speed follow their tables at every measurement. R164 and
R165. `jump` and `quiet` are the two tests, `j` and `q` whether a run reaches 3 at this measurement. -/
def Obligations.QualityFollowsTheRuns : Prop :=
  ∀ (jump quiet j q : Bool) (m : Nat) (s t : State),
    s.live = true →
    exec .speedMeasurement s = .next t →
    t.frontEnd.measured = some m →
    jump = (match s.frontEnd.measured with
      | some p => decide (150 < distance (t.frontEnd.measured.getD 0) p)
      | none => false) →
    quiet = (decide (t.frontEnd.pulseCount = 0) && s.outputs.fuelRun && decide (250 ≤ s.frontEnd.settled)) →
    j = (jump && decide (s.frontEnd.jumpRun = 2)) →
    q = (quiet && decide (s.frontEnd.silenceRun = 2)) →
    (t.frontEnd.quality = s.frontEnd.quality ∨ t.frontEnd.quality ≠ .good →
      t.frontEnd.jumpRun = (if jump then min 3 (s.frontEnd.jumpRun + 1) else 0) ∧
      t.frontEnd.silenceRun = (if quiet then min 3 (s.frontEnd.silenceRun + 1) else 0)) ∧
    (s.frontEnd.quality = .good → t.frontEnd.quality = if j then .erratic else if q then .lost else .good) ∧
    (s.frontEnd.quality ≠ .good → j = false → q = false →
      (jump = false → (s.frontEnd.quality = .lost → t.frontEnd.pulseCount ≠ 0) →
        (if 9 ≤ s.frontEnd.recoveryRun then
          t.frontEnd.quality = .good ∧ t.frontEnd.jumpRun = 0 ∧ t.frontEnd.silenceRun = 0 ∧ t.frontEnd.recoveryRun = 0
        else t.frontEnd.quality = s.frontEnd.quality ∧ t.frontEnd.recoveryRun = s.frontEnd.recoveryRun + 1)) ∧
      (jump = true ∨ (s.frontEnd.quality = .lost ∧ t.frontEnd.pulseCount = 0) →
        t.frontEnd.quality = s.frontEnd.quality ∧ t.frontEnd.recoveryRun = 0)) ∧
    (s.frontEnd.quality = .erratic → j = true → t.frontEnd.quality = .erratic) ∧
    (s.frontEnd.quality = .erratic → j = false → q = true → t.frontEnd.quality = .lost ∧ t.frontEnd.recoveryRun = 0) ∧
    (s.frontEnd.quality = .lost → j = true → t.frontEnd.quality = .erratic ∧ t.frontEnd.recoveryRun = 0) ∧
    (s.frontEnd.quality = .lost → j = false → q = true → t.frontEnd.quality = .lost) ∧
    (t.frontEnd.quality = .good → t.frontEnd.reported = m) ∧
    (t.frontEnd.quality = .good → s.frontEnd.quality ≠ .good ∨ t.frontEnd.jumpRun = 0 ∧ t.frontEnd.silenceRun = 0 →
      t.frontEnd.settled = m) ∧
    (t.frontEnd.quality ≠ .good → s.frontEnd.quality = .good →
      t.frontEnd.reported = s.frontEnd.settled ∧ t.frontEnd.settled = s.frontEnd.settled) ∧
    (t.frontEnd.quality ≠ .good → s.frontEnd.quality ≠ .good →
      t.frontEnd.reported = s.frontEnd.reported ∧ t.frontEnd.settled = s.frontEnd.settled) ∧
    (t.frontEnd.quality = .good → s.frontEnd.quality = .good → t.frontEnd.jumpRun ≠ 0 ∨ t.frontEnd.silenceRun ≠ 0 →
      t.frontEnd.settled = s.frontEnd.settled)

/-- At the first measurement after a reset the engine state is chosen from Trip List, FUEL_RUN, speed and layup mark; a
trip at its arming or a wake follows. R50, R52, R118, R122, R127, R128, R130, R131, R144 and R145. That a trip's
entries record the state found is the model's reading (log entry 9). That in LAID_UP the trip is taken before a wake
whose cause is present, where R144 allows either order, is the model's choice (log entry 11). -/
def Obligations.EngineStateIsChosen : Prop :=
  ∀ (s : State),
    s.live = true →
    s.engine.awaitingChoice = true →
    (s.engine.stopKind = none ∧ s.engine.cooldownEnd = none ∧ s.engine.rundownEnd = none) →
    MonitorSound s →
    (∃ t : State, exec (.speedMeasurement) s = .next t ∧ ∀ f : EngineState, f = stateFound s t.frontEnd.reported →
      t.engine.awaitingChoice = false ∧
      ((s.monitor.trips = [] → tripsAtArming s f = []) → f ≠ .laidUp →
        t.engine = engineFound s f t.now ∧ t.outputs.fuelRun = f.fuel ∧ t.arbiter = s.arbiter ∧
        t.sequencer = s.sequencer ∧
        (Channel.groundFault ∈ t.monitor.conditions ↔
          Channel.groundFault.armedIn f = true ∧ s.filtered .groundRelay = true) ∧
        (Channel.speedSignal ∈ t.monitor.conditions ↔
          Channel.speedSignal.armedIn f = true ∧ t.frontEnd.quality ≠ .good)) ∧
      (s.monitor.trips ≠ [] →
        t.monitor.trips = s.monitor.trips ++
          ((tripsAtArming s f).filter fun c => !s.tripListed c).map fun c => ⟨c, some .tripped⟩) ∧
      (s.monitor.trips ≠ [] → ∀ c ∈ tripsAtArming s f, c ∈ t.monitor.conditions) ∧
      (s.monitor.trips = [] → tripsAtArming s f ≠ [] → s.entry .protection = Entry.reset →
        TripsTaken { s with engine := engineFound s f t.now } t (tripsAtArming s f) ∧
        t.holder = some .protection ∧ t.authorityNotch = 0) ∧
      (s.monitor.trips = [] → tripsAtArming s f = [] → f = .laidUp →
        wakeJudged { s with engine := engineFound s f t.now } t ∧ t.arbiter = s.arbiter ∧ t.monitor.trips = []))

/-- Measurements fire, catch, stall or fail a start: CRANK to CATCH to WARM, the failed attempts of R64 and R66, and the
end of REST. R61, R62, R64 to R70, R72. The premise on the switch leaves aside a trip at the arming of CRANKCASE
(R118). `max` of the peaks is the attempt peak of R61. -/
def Obligations.EngineFiresAndCatches : Prop :=
  ∀ (s : State),
    s.live = true →
    s.engine.awaitingChoice = false →
    MonitorSound s →
    (s.engine.state = some (.starting .crank) ∧ s.filtered .crankcaseSwitch = false ∨ s.engine.state = some (.starting .catching) ∨ s.engine.state = some (.starting .rest)) →
    ∃ t : State, exec (.speedMeasurement) s = .next t ∧
      t.monitor.trips = s.monitor.trips ∧
      t.arbiter = s.arbiter ∧
      (s.engine.state = some (.starting .crank) → t.frontEnd.quality = .good →
        t.sequencer.peak = some (max (s.sequencer.peak.getD 0) t.frontEnd.reported) ∧
        (t.frontEnd.measured.getD 0 < 160 → t.engine = s.engine ∧ t.sequencer.run = some 0) ∧
        (160 ≤ t.frontEnd.measured.getD 0 → s.sequencer.run.getD 0 < 5 →
          t.engine = s.engine ∧ t.sequencer.run = some (s.sequencer.run.getD 0 + 1)) ∧
        (160 ≤ t.frontEnd.measured.getD 0 → 5 ≤ s.sequencer.run.getD 0 →
          t.engine = { s.engine with state := some (.starting .catching) } ∧
          t.sequencer.timer = some (t.now + 10000) ∧ t.sequencer.run = some 0 ∧
          t.outputs.starter = false ∧ t.outputs.prelube = true ∧ t.outputs.fuelRun = true)) ∧
      (s.engine.state = some (.starting .crank) → s.frontEnd.quality ≠ .good → t.frontEnd.quality ≠ .good →
        t.engine = s.engine ∧ t.sequencer = { s.sequencer with run := some 0, peak := some (max (s.sequencer.peak.getD 0) t.frontEnd.reported) }) ∧
      (s.engine.state = some (.starting .crank) → s.frontEnd.quality = .good → t.frontEnd.quality = .lost →
        startFails s t .speedErratic) ∧
      (s.engine.state = some (.starting .crank) → s.frontEnd.quality = .good → t.frontEnd.quality = .erratic →
        s.settings.erraticPolicy ≠ 1 → startFails s t .speedErratic) ∧
      (s.engine.state = some (.starting .crank) → s.frontEnd.quality = .good → t.frontEnd.quality = .erratic →
        s.settings.erraticPolicy = 1 → (∀ r ∈ s.sequencer.record, s.outputs.fuelRun = true → attemptFailed s t r .speedErratic (max (s.sequencer.peak.getD 0) t.frontEnd.reported))) ∧
      (s.engine.state = some (.starting .catching) → 280 ≤ t.frontEnd.reported →
        t.engine = { s.engine with state := some (.starting .warm) } ∧
        t.sequencer.timer = some (t.now + 20000) ∧ t.sequencer.lubeSeen = some false ∧
        t.sequencer.lubeMinimum = some (s.store.look (lubeLookup (min 9 (s.store.scheduledSpeed 0 / 100)))).toNat ∧
        t.sequencer.warmTime = some (s.store.look (warmLookup (coolantBand (s.reading .coolant)))).toNat ∧
        t.outputs.starter = false ∧ t.outputs.prelube = false ∧ t.outputs.fuelRun = true) ∧
      (s.engine.state = some (.starting .catching) → 60 ≤ t.frontEnd.reported → t.frontEnd.reported < 280 →
        t.engine = s.engine ∧ t.sequencer = { s.sequencer with run := some 0, peak := some (max (s.sequencer.peak.getD 0) t.frontEnd.reported) }) ∧
      (s.engine.state = some (.starting .catching) → t.frontEnd.reported < 60 → s.sequencer.run.getD 0 < 2 →
        t.engine = s.engine ∧ t.sequencer = { s.sequencer with run := some (s.sequencer.run.getD 0 + 1), peak := some (max (s.sequencer.peak.getD 0) t.frontEnd.reported) }) ∧
      (s.engine.state = some (.starting .catching) → t.frontEnd.reported < 60 → 2 ≤ s.sequencer.run.getD 0 →
        (∀ r ∈ s.sequencer.record, s.outputs.fuelRun = true → attemptFailed s t r .stall (max (s.sequencer.peak.getD 0) t.frontEnd.reported))) ∧
      (s.engine.state = some (.starting .rest) → s.sequencer.timer = none → t.frontEnd.reported < 20 →
        crankEntered s t) ∧
      (s.engine.state = some (.starting .rest) → s.sequencer.timer ≠ none ∨ 20 ≤ t.frontEnd.reported →
        t.engine = s.engine ∧ t.sequencer = s.sequencer)

/-- A cool-down expires into a rundown; a rundown ends at its expiry or below 20 rpm, in LAID_UP after a layup stop,
else in STOPPED. R43, R45, R138 and R139. That every rundown of kind NORMAL ends with the layup mark clear is the
model's choice (log entry 13), and so is the mark that a judgement is due (entry 25). That a due event may be taken
late is the model's choice (log entry 2). -/
def Obligations.CooldownAndRundownEnd : Prop :=
  ∀ (e : Nat) (s : State),
    s.live = true →
    s.engine.awaitingChoice = false →
    MonitorSound s →
    ((s.engine.state = some .cooldown → s.engine.cooldownEnd = some e →
    ∃ t : State, exec .cooldownExpiry s = .next t ∧ t.now = max s.now e ∧
      t.engine = { s.engine with
        state := some .rundown, cooldownEnd := none, rundownEnd := some (max s.now e + 60000) } ∧
      t.outputs.fuelRun = false ∧ t.outputs.governor = 0 ∧ t.arbiter = s.arbiter ∧ t.sequencer = s.sequencer ∧
      t.monitor.trips = s.monitor.trips) ∧
  (s.engine.state = some .rundown → s.engine.rundownEnd = some e →
    ∃ t : State, exec .rundownExpiry s = .next t ∧ t.now = max s.now e ∧ rundownOver s t ∧ t.arbiter = s.arbiter ∧
      t.sequencer = s.sequencer ∧ t.monitor.trips = s.monitor.trips) ∧
  (s.engine.state = some .rundown →
    ∃ t : State, exec .speedMeasurement s = .next t ∧
      (t.frontEnd.reported < 20 → rundownOver s t) ∧ (20 ≤ t.frontEnd.reported → t.engine = s.engine) ∧
      t.arbiter = s.arbiter ∧ t.sequencer = s.sequencer ∧ t.monitor.trips = s.monitor.trips))

/-- A pulse is counted and a raw edge forms the selected level, in a part that acts; otherwise only the pin and the
clock move. R163, R168 and R172. That an unpowered part lets only the pin and the clock move is the model's choice
(log entries 7 and 34), and so is what an edge does to a timing that is due (entry 38). -/
def Obligations.PulsesAndEdgesReachThePins : Prop :=
  ∀ (after : Nat) (i : Input) (level : Bool) (s : State),
    exec (.flywheelPulse after) s =
      .next { s with
        now := s.now + after
        frontEnd := { s.frontEnd with
          pulses := if s.live then (s.now + after) :: s.frontEnd.pulses else s.frontEnd.pulses } } ∧
    exec (.rawInputEdge after i level) s =
      .next { s with
        now := s.now + after
        frontEnd := { s.frontEnd with
          inputs := s.frontEnd.inputs.set i
            (if s.live = false ∨
                selectedLevel (s.settings.get (levelSetting i)) level = (s.frontEnd.inputs.get i).selected then
              { s.frontEnd.inputs.get i with raw := level }
            else ⟨level, selectedLevel (s.settings.get (levelSetting i)) level, (s.frontEnd.inputs.get i).filtered,
              if selectedLevel (s.settings.get (levelSetting i)) level = (s.frontEnd.inputs.get i).filtered then none
              else some (s.now + after)⟩) } }

/-- A completed stability timing makes the filtered level the selected one, and its reader takes the change. R41, R118,
R139, R140, R167, R168. That a due event may be taken late is the model's choice (log entry 2). The Stepper's
premise of the last clause is an invariant (StepperSound). -/
def Obligations.FilteredLevelFollowsItsTiming : Prop :=
  ∀ (i : Input) (e : Nat) (s : State),
    s.live = true →
    s.engine.awaitingChoice = false →
    MonitorSound s →
    (s.frontEnd.inputs.get i).since = some e →
    (i = .groundRelay ∨ i = .isolateSwitch ∨ i = .brakeAirSwitch ∨ (s.frontEnd.inputs.get i).selected = false ∨ ∀ c ∈ channelOf i, (s.channel c).armed = false) →
    ∃ t : State, exec (.filteredLevelChange i) s = .next t ∧
      t.now = max s.now (e + s.settings.inputFilter) ∧
      t.frontEnd = { s.frontEnd with
        inputs := s.frontEnd.inputs.set i ⟨(s.frontEnd.inputs.get i).raw, (s.frontEnd.inputs.get i).selected,
          (s.frontEnd.inputs.get i).selected, none⟩ } ∧
      (∀ c ∈ channelOf i, (s.channel c).armed = true →
        (c ∈ t.monitor.conditions ↔ (s.frontEnd.inputs.get i).selected = true)) ∧
      (s.engine.state ≠ some .laidUp →
        t.engine = { s.engine with
          state := if i = .isolateSwitch ∧ s.runs = true then
              some (if s.engine.isolateFlag || (s.frontEnd.inputs.get i).selected then .isolated else .running)
            else s.engine.state } ∧ t.sequencer = s.sequencer) ∧
      t.monitor.trips = s.monitor.trips ∧
      t.arbiter = s.arbiter ∧
      t.ports = s.ports ∧
      (s.engine.state = some .laidUp → i = .brakeAirSwitch → wakeJudged s t) ∧
      (s.engine.state = some .laidUp → i ≠ .brakeAirSwitch → t.engine = s.engine ∧ t.sequencer = s.sequencer ∧ sameContactors s t) ∧
      (∀ c ∈ channelOf i, (s.channel c).armed = false →
        EngineStands { s with now := t.now, frontEnd := t.frontEnd } t ∧ (StepperSound s → t.monitor = s.monitor))

/-- An active filtered level of an armed CRANKCASE, FUEL_CUTOFF or COOLANT_LEVEL input is a trip, or joins both lists
while the Trip List is not empty. R24, R48, R74, R118, R126, R127 and R128. That the entry records the state before
the trip is the model's choice (log entry 9). That a due event may be taken late is the model's choice (log entry
2). -/
def Obligations.SwitchOnsetTrips : Prop :=
  ∀ (i : Input) (c : Channel) (e : Nat) (s : State),
    s.live = true →
    s.engine.awaitingChoice = false →
    MonitorSound s →
    (s.frontEnd.inputs.get i).since = some e →
    (s.frontEnd.inputs.get i).selected = true →
    channelOf i = some c →
    c.cls = .trip →
    (s.channel c).armed = true →
    c ∉ s.monitor.conditions →
    ((s.monitor.trips = [] →
    s.entry .protection = Entry.reset →
    s.engine.state ≠ some .tripped →
    s.engine.state ≠ none →
    ∃ t : State, exec (.filteredLevelChange i) s = .next t ∧
      t.now = max s.now (e + s.settings.inputFilter) ∧
      TripTaken s t c ∧
      t.holder = some .protection ∧
      t.authorityNotch = 0) ∧
  (s.monitor.trips ≠ [] →
    ∃ t : State, exec (.filteredLevelChange i) s = .next t ∧
      t.now = max s.now (e + s.settings.inputFilter) ∧
      t.monitor.conditions = s.monitor.conditions ++ [c] ∧
      t.monitor.trips = (if s.tripListed c = true then s.monitor.trips else s.monitor.trips ++ [⟨c, s.engine.state⟩]) ∧
      (t.channel c).armed = true ∧ (t.channel c).onset = 0 ∧ (t.channel c).clear = 0 ∧
      t.outputs.alert = true ∧
      t.engine = s.engine ∧
      t.sequencer = s.sequencer ∧
      t.arbiter = s.arbiter ∧
      t.ports = s.ports ∧
      sameContactors s t))

/-- A Stepper update raises the granted notch by at most one when dwell and speed allow, then forms the load and both
references. R82, R88, R95 to R106. That the sag hold is recorded only where the load reference is below its target
is the model's choice (log entry 35). That a due event may be taken late is the model's choice (log entry 2). -/
def Obligations.UpdateFollowsTheRules : Prop :=
  ∀ (s : State),
    s.live = true →
    s.engine.awaitingChoice = false →
    StepperSound s →
    ∃ t : State, exec (.stepperUpdate) s = .next t ∧
      t.now = max s.now s.stepper.nextUpdate ∧
      t.stepper.nextUpdate = s.stepper.nextUpdate + 50 ∧
      t.stepper.target = s.targetNotch ∧
      (if s.engine.state = some .running ∧ s.stepper.granted < s.targetNotch ∧
          s.store.stepDwell (s.stepper.granted + 1) ≤ t.now - s.stepper.dwellMark ∧
          distance s.frontEnd.reported (s.store.scheduledSpeed s.stepper.granted) ≤
            s.store.speedTolerance s.stepper.granted then
        t.stepper.granted = s.stepper.granted + 1 ∧ t.stepper.dwellMark = t.now
      else t.stepper.granted = s.stepper.granted ∧ t.stepper.dwellMark = s.stepper.dwellMark) ∧
      (s.engine.state = some .running → 1 ≤ t.stepper.granted →
        t.stepper.terms = some ⟨s.store.loadCeiling t.stepper.granted, s.ambientDerate, s.restraintFactor, s.airLimit,
          t.sagHolds && decide (min s.stepper.loadRef (s.store.loadCeiling t.stepper.granted) < t.stepper.loadTarget)⟩ ∧
        t.stepper.loadTarget =
          min (s.store.loadCeiling t.stepper.granted * s.ambientDerate / 1000 * s.restraintFactor / 1000) s.airLimit ∧
        t.stepper.loadRef = rampLoad (min s.stepper.loadRef (s.store.loadCeiling t.stepper.granted))
          t.stepper.loadTarget s.settings.rampUp s.settings.rampDown t.sagHolds) ∧
      (s.engine.state ≠ some .running ∨ t.stepper.granted = 0 →
        t.stepper.loadTarget = 0 ∧ t.stepper.loadRef = 0 ∧ t.stepper.terms = none) ∧
      t.stepper.speedRef = t.formedSpeed ∧
      t.outputs = { s.outputs with governor := t.stepper.speedRef, excitation := t.stepper.loadRef } ∧
      t.engine = s.engine ∧
      t.sequencer = s.sequencer ∧
      t.arbiter = s.arbiter ∧
      t.ports = s.ports ∧
      t.frontEnd = s.frontEnd ∧
      sameMonitor s t ∧
      sameContents s t ∧
      t.pending = s.pending

/-- A reported lookup fault lists SCHEDULE_FAULT with its latch set, which holds the target and the granted notch at 0.
R92, R120 and R151. The mark that a fault is reported is the model's own (log entry 18). -/
def Obligations.ScheduleFaultHoldsIdle : Prop :=
  ∀ (s : State),
    s.live = true →
    s.engine.awaitingChoice = false →
    s.monitor.faultReported = true →
    (s.channel .scheduleFault).armed = true →
    s.monitor.latch = false →
    MonitorSound s →
    StepperSound s →
    ∃ t : State, exec (.scheduleFaultOnset) s = .next t ∧
      t.monitor.latch = true ∧
      t.monitor.faultReported = false ∧
      t.monitor.conditions = s.monitor.conditions ++ [.scheduleFault] ∧
      t.monitor.trips = s.monitor.trips ∧
      t.ceilingNotch = 0 ∧
      t.stepper.target = 0 ∧
      t.stepper.granted = 0 ∧
      t.stepper.loadTarget = 0 ∧
      t.stepper.loadRef = 0 ∧
      t.outputs.excitation = 0 ∧
      t.outputs.alert = true ∧
      t.engine = s.engine ∧
      t.sequencer = s.sequencer ∧
      t.arbiter = s.arbiter ∧
      sameWorld s t ∧
      sameContents s t ∧
      sameContactors s t ∧
      t.ports = s.ports

/-- PRELUBE expires into CRANK with a credit or fails without pressure; REST expires into CRANK below 20 rpm or waits.
R59 to R61, R68, R42. The premise on the switch leaves aside a trip at the arming of CRANKCASE in RUNDOWN. That a
due event may be taken late is the model's choice (log entry 2). -/
def Obligations.PrelubeAndRestLeadToCrank : Prop :=
  ∀ (e : Nat) (s : State),
    s.live = true →
    s.engine.awaitingChoice = false →
    MonitorSound s →
    s.filtered .crankcaseSwitch = false →
    s.sequencer.timer = some e →
    ((s.engine.state = some (.starting .prelube) →
    ∃ t : State, exec .prelubeTimerExpiry s = .next t ∧ t.now = max s.now e ∧ t.arbiter = s.arbiter ∧
      t.monitor.trips = s.monitor.trips ∧
      (30 ≤ s.reading .lube → t.sequencer.creditEnd = some (t.now + 120000) ∧
        t.engine = { s.engine with state := some (.starting .crank) } ∧
        t.sequencer.timer = some (t.now + s.settings.crankWindow * 1000) ∧ t.sequencer.run = some 0 ∧
        t.sequencer.peak = some s.frontEnd.reported ∧
        t.sequencer.record = s.sequencer.record.map (fun r =>
          { r with attemptsBegun := r.attemptsBegun + 1, furthest := r.furthest.later .crank }) ∧
        t.outputs.starter = true ∧ t.outputs.prelube = true ∧ t.outputs.fuelRun = true) ∧
      (s.reading .lube < 30 →
        t.sequencer = { s.sequencer.idle with
          record := s.sequencer.record.map fun r => { r with outcome := .noPrelubePressure } } ∧
        t.outputs.starter = false ∧ t.outputs.prelube = false ∧ t.outputs.fuelRun = false ∧
        t.engine.state =
          some (if 20 ≤ s.frontEnd.reported ∨ s.outputs.fuelRun = true then .rundown else .stopped))) ∧
  (s.engine.state = some (.starting .rest) →
    ∃ t : State, exec .restTimerExpiry s = .next t ∧ t.now = max s.now e ∧ t.arbiter = s.arbiter ∧
      t.monitor.trips = s.monitor.trips ∧
      (s.frontEnd.reported < 20 →
        t.engine = { s.engine with state := some (.starting .crank) } ∧
        t.sequencer.timer = some (t.now + s.settings.crankWindow * 1000) ∧ t.sequencer.run = some 0 ∧
        t.sequencer.peak = some s.frontEnd.reported ∧
        t.sequencer.record = s.sequencer.record.map (fun r =>
          { r with attemptsBegun := r.attemptsBegun + 1, furthest := r.furthest.later .crank }) ∧
        t.outputs.starter = true ∧ t.outputs.prelube = true ∧ t.outputs.fuelRun = true) ∧
      (20 ≤ s.frontEnd.reported → t.engine = s.engine ∧ t.sequencer = { s.sequencer with timer := none })))

/-- An expired crank or catch window fails the attempt: REST while attempts are left, else START_FAILED with its
lockout. R42, R63, R66 to R69, R72. That a due event may be taken late is the model's choice (log entry 2). -/
def Obligations.WindowsFailTheAttempt : Prop :=
  ∀ (e : Nat) (r : StartRecord) (s : State),
    s.live = true →
    s.engine.awaitingChoice = false →
    MonitorSound s →
    s.filtered .crankcaseSwitch = false →
    s.outputs.fuelRun = true →
    s.sequencer.record = some r →
    r.attempts.length < s.settings.crankAttempts →
    s.sequencer.timer = some e →
    ((s.engine.state = some (.starting .crank) →
    ∃ t : State, exec .crankWindowExpiry s = .next t ∧ t.now = max s.now e ∧ t.arbiter = s.arbiter ∧
      t.monitor.trips = s.monitor.trips ∧
      (r.attempts.length + 1 < s.settings.crankAttempts →
        t.engine = { s.engine with state := some (.starting .rest) } ∧
        t.sequencer = { s.sequencer with
          timer := some (t.now + s.settings.crankRest * 1000), run := none, peak := none
          record := some { r with
            attempts := r.attempts ++ [⟨.noFire, s.sequencer.peak.getD 0⟩], furthest := r.furthest.later .rest } } ∧
        t.outputs.starter = false ∧ t.outputs.prelube = true ∧ t.outputs.fuelRun = false) ∧
      (r.attempts.length + 1 = s.settings.crankAttempts →
        t.engine = { s.engine with
          state := some .rundown, stopKind := some .normal, cooldownEnd := none, rundownEnd := some (t.now + 60000) } ∧
        t.sequencer = { s.sequencer.idle with
          record := some { r with
            attempts := r.attempts ++ [⟨.noFire, s.sequencer.peak.getD 0⟩], outcome := .startFailed }
          lockoutEnd := some (t.now + s.settings.starterLockout * 1000) } ∧
        t.outputs.starter = false ∧ t.outputs.prelube = false ∧ t.outputs.fuelRun = false)) ∧
  (s.engine.state = some (.starting .catching) →
    ∃ t : State, exec .catchWindowExpiry s = .next t ∧ t.now = max s.now e ∧ t.arbiter = s.arbiter ∧
      t.monitor.trips = s.monitor.trips ∧
      (r.attempts.length + 1 < s.settings.crankAttempts →
        t.engine = { s.engine with state := some (.starting .rest) } ∧
        t.sequencer = { s.sequencer with
          timer := some (t.now + s.settings.crankRest * 1000), run := none, peak := none
          record := some { r with
            attempts := r.attempts ++ [⟨.noCatch, s.sequencer.peak.getD 0⟩], furthest := r.furthest.later .rest } } ∧
        t.outputs.starter = false ∧ t.outputs.prelube = true ∧ t.outputs.fuelRun = false) ∧
      (r.attempts.length + 1 = s.settings.crankAttempts →
        t.engine = { s.engine with
          state := some .rundown, stopKind := some .normal, cooldownEnd := none, rundownEnd := some (t.now + 60000) } ∧
        t.sequencer = { s.sequencer.idle with
          record := some { r with
            attempts := r.attempts ++ [⟨.noCatch, s.sequencer.peak.getD 0⟩], outcome := .startFailed }
          lockoutEnd := some (t.now + s.settings.starterLockout * 1000) } ∧
        t.outputs.starter = false ∧ t.outputs.prelube = false ∧ t.outputs.fuelRun = false)))

/-- WARM ends in running when its timer expires with enough lube pressure, and in NO_OIL_PRESSURE otherwise. R40, R42,
R70 to R72. That a due event may be taken late is the model's choice (log entry 2). -/
def Obligations.WarmEndsTheStart : Prop :=
  ∀ (e : Nat) (s : State),
    s.live = true →
    s.engine.awaitingChoice = false →
    MonitorSound s →
    s.engine.state = some (.starting .warm) →
    s.sequencer.timer = some e →
    ((s.sequencer.lubeSeen = some false →
    ∃ t : State, exec .lubeWindowExpiry s = .next t ∧ t.now = max s.now e ∧ t.arbiter = s.arbiter ∧
      t.monitor.trips = s.monitor.trips ∧ t.outputs.starter = false ∧ t.outputs.prelube = false ∧
      t.sequencer = { s.sequencer.idle with
          record := s.sequencer.record.map fun r => { r with outcome := .noOilPressure } } ∧
        t.engine.state = some (if 20 ≤ s.frontEnd.reported ∨ s.outputs.fuelRun = true then .rundown else .stopped) ∧
        t.outputs.fuelRun = false) ∧
  (s.sequencer.lubeSeen = some true →
    ∃ t : State, exec .warmTimerExpiry s = .next t ∧ t.now = max s.now e ∧ t.arbiter = s.arbiter ∧
      t.monitor.trips = s.monitor.trips ∧ t.outputs.starter = false ∧ t.outputs.prelube = false ∧
      ((s.sequencer.lubeMinimum.getD 0 : Int) ≤ s.reading .lube →
        t.sequencer = { s.sequencer.idle with
          record := s.sequencer.record.map fun r => { r with outcome := .runningReached } } ∧
        t.engine = { s.engine with
          state := some (if s.engine.isolateFlag || s.filtered .isolateSwitch then .isolated else .running) } ∧
        t.outputs.fuelRun = true) ∧
      (s.reading .lube < (s.sequencer.lubeMinimum.getD 0 : Int) →
        t.sequencer = { s.sequencer.idle with
          record := s.sequencer.record.map fun r => { r with outcome := .noOilPressure } } ∧
        t.engine.state = some (if 20 ≤ s.frontEnd.reported ∨ s.outputs.fuelRun = true then .rundown else .stopped) ∧
        t.outputs.fuelRun = false)))

/-- The starter lockout and the prelube credit become absent at their expiry; in LAID_UP the lockout's is a judgement of
the wake watch. R60, R69, R139 and R142. That a due event may be taken late is the model's choice (log entry 2). -/
def Obligations.LockoutAndCreditExpire : Prop :=
  ∀ (e : Nat) (s : State),
    s.live = true →
    ((s.sequencer.creditEnd = some e →
    exec .prelubeCreditExpiry s =
      .next { s with now := max s.now e, sequencer := { s.sequencer with creditEnd := none } }) ∧
  (s.sequencer.lockoutEnd = some e → s.engine.state ≠ some .laidUp → s.engine.awaitingChoice = false →
    MonitorSound s → StepperSound s → IdleSound s →
    exec .starterLockoutExpiry s =
      .next { s with now := max s.now e, sequencer := { s.sequencer with lockoutEnd := none } }) ∧
  (s.sequencer.lockoutEnd = some e → s.engine.state = some .laidUp → s.engine.awaitingChoice = false → MonitorSound s →
    ∃ t : State, exec .starterLockoutExpiry s = .next t ∧ t.now = max s.now e ∧ t.arbiter = s.arbiter ∧
      t.ports = s.ports ∧ t.frontEnd = s.frontEnd ∧ t.monitor.trips = s.monitor.trips ∧
      wakeJudged { s with sequencer := { s.sequencer with lockoutEnd := none } } t))

/-- The idle timer at IDLE_LIMIT begins a layup stop, and the timer stops. R46 and R137. That a due event may be taken
late is the model's choice (log entry 2). -/
def Obligations.IdleLimitBeginsLayup : Prop :=
  ∀ (e : Nat) (s : State),
    s.live = true →
    s.engine.awaitingChoice = false →
    s.runs = true →
    MonitorSound s →
    s.idle.idleSince = some e →
    ∃ t : State, exec (.idleTimerExpiry) s = .next t ∧
      t.now = max s.now (e + s.settings.idleLimit * 1000) ∧
      (1 ≤ s.settings.cooldownTime →
        t.engine = { s.engine with
          state := some .cooldown, stopKind := some .layup
          cooldownEnd := some (t.now + s.settings.cooldownTime * 1000) } ∧ t.outputs.fuelRun = true) ∧
      (s.settings.cooldownTime = 0 →
        t.engine = { s.engine with
          state := some .rundown, stopKind := some .layup, cooldownEnd := none, rundownEnd := some (t.now + 60000) } ∧
        t.outputs.fuelRun = false) ∧
      t.idle.idleSince = none ∧
      (s.engine.state = some .running → t.stepper.granted = 0 ∧ t.stepper.loadRef = 0) ∧
      t.arbiter = s.arbiter ∧
      t.monitor.trips = s.monitor.trips ∧
      t.sequencer = s.sequencer

/-- The judgement after an entry to LAID_UP starts the engine if a wake cause holds and no lockout or rotation bars it.
R47, R139 and R140. The mark that a judgement is due is the model's own (log entry 25). -/
def Obligations.LaidUpJudgementWakes : Prop :=
  ∀ (s : State),
    s.live = true →
    s.engine.awaitingChoice = false →
    s.engine.state = some .laidUp →
    s.idle.entryJudgementDue = true →
    MonitorSound s →
    ∃ t : State, exec (.laidUpEntryJudgement) s = .next t ∧
      t.idle.entryJudgementDue = false ∧
      t.arbiter = s.arbiter ∧
      sameWorld s t ∧
      t.ports = s.ports ∧
      wakeJudged s t

/-- The Order Unit reads from an encoded BODY exactly its actions, and refuses a BODY of another form with the index
R177 gives. The action layouts of section 9.7 and R177: no bit of an encoding is dropped. -/
def Obligations.ParseReadsWhatIsEncoded : Prop :=
  ∀ (as : List Sys2Proof.Action) (a : Sys2Proof.Action) (b code count : Byte) (k : Nat) (rest : List Byte),
    as ≠ [] →
    as.length ≤ 3 →
    parseOrder (encodeOrder as) = .actions as ∧
    parseOrder (encodeOrder as ++ b :: rest) = .malformed as.length ∧
    (count.toNat = 0 ∨ 3 < count.toNat → parseOrder (count :: rest) = .malformed 1) ∧
    (as.length < count.toNat → count.toNat ≤ 3 → code.toNat = 0 ∨ 12 < code.toNat →
      parseOrder (count :: (as.flatMap Action.encode ++ code :: rest)) = .malformed (as.length + 1)) ∧
    (as.length < count.toNat → count.toNat ≤ 3 → 1 ≤ k → k < a.encode.length →
      parseOrder (count :: (as.flatMap Action.encode ++ a.encode.take k)) = .malformed (as.length + 1)) ∧
    (as.length < count.toNat → count.toNat ≤ 3 →
      parseOrder (count :: as.flatMap Action.encode) = .malformed as.length) ∧
    (1 ≤ count.toNat → count.toNat ≤ 3 → code.toNat = 0 ∨ 12 < code.toNat → parseOrder (count :: code :: rest) = .malformed 1) ∧
    (1 ≤ count.toNat → count.toNat ≤ 3 → 1 ≤ k → k < a.encode.length → parseOrder (count :: a.encode.take k) = .malformed 1)

/-- The check of any bytes followed by their own check, high byte first, is 0. The check register of R175 is a
remainder. -/
def Obligations.CheckOverItselfIsZero : Prop :=
  ∀ (bytes body : List Byte) (kind tag : Byte),
    checkOf (bytes ++ be16Word (checkOf bytes)) = 0#16 ∧
    (2 ≤ body.length → body.length ≤ 60 →
      frameForm (frameFields kind tag body ++ be16Word (checkOf (frameFields kind tag body))) =
        .complete (body.length + 5))

/-- The ambient bands are those of R99, every load term lies in 0 to 1000, and the load target never exceeds its
ceiling. R98 to R105. -/
def Obligations.LoadTermsStayInRange : Prop :=
  ∀ (T P : Int) (notch ref target up down : Nat) (hold : Bool) (s : State),
    (T < 0 → intakeBand T = 0) ∧
    (0 ≤ T → (intakeBand T : Int) = min 7 (T / 10 + 1)) ∧
    (99 ≤ P → baroBand P = 0) ∧
    (P < 99 → (baroBand P : Int) = min 5 ((99 - P) / 5)) ∧
    s.store.loadCeiling notch ≤ 1000 ∧
    s.ambientDerate ≤ 1000 ∧
    s.restraintFactor ≤ 1000 ∧
    s.airLimit ≤ 1000 ∧
    loadTargetOf (s.store.loadCeiling notch) s.ambientDerate s.restraintFactor s.airLimit ≤
      min (s.store.loadCeiling notch) s.airLimit ∧
    (ref ≤ target → ref ≤ rampLoad ref target up down hold ∧ rampLoad ref target up down hold ≤ target) ∧
    (target ≤ ref → target ≤ rampLoad ref target up down hold ∧ rampLoad ref target up down hold ≤ ref)

/-- The calibration words stay canonical, every segment legal, every setting in range and the ranks distinct, whatever
command is taken. An invariant of every step, over all states. -/
def Obligations.StoreStaysSound : Prop :=
  ∀ (s t : State),
    StoreSound s →
    step s = .next t →
    StoreSound t

/-- Every port keeps at most four orders and two FULL answers, answers in order, and an empty buffer while it hunts. An
invariant of every step, over all states. -/
def Obligations.PortsStaySound : Prop :=
  ∀ (s t : State),
    PortsSound s →
    step s = .next t →
    PortsSound t

/-- The Authority Table, the stack and the Pending List stay in agreement and in rank order, whatever command is taken.
An invariant of every step, over all states. -/
def Obligations.AuthorityStaysSound : Prop :=
  ∀ (s t : State),
    AuthoritySound s →
    StoreSound s →
    step s = .next t →
    AuthoritySound t

/-- PROTECTION holds exactly while the Trip List is non-empty, whatever command is taken. An invariant of every step,
over all states. -/
def Obligations.ProtectionStaysWithTrips : Prop :=
  ∀ (s t : State),
    ProtectionHoldsTrips s →
    StoreSound s →
    AuthoritySound s →
    EngineSound s →
    step s = .next t →
    ProtectionHoldsTrips t

/-- A state stands chosen but from a reset to the choice, the three contactors stay at its levels, and TRIPPED goes with
the Trip List, over every step. An invariant of every step, over all states. -/
def Obligations.EngineStaysSound : Prop :=
  ∀ (s t : State),
    EngineSound s →
    step s = .next t →
    EngineSound t

/-- The channels stay armed as the state asks, the Condition List and the latch in agreement, and ALERT with the lists,
whatever command is taken. An invariant of every step, over all states. -/
def Obligations.MonitorStaysSound : Prop :=
  ∀ (s t : State),
    MonitorSound s →
    step s = .next t →
    MonitorSound t

/-- The granted notch never exceeds the target, the loads never the ceiling of the granted notch, and the loops present
the references. An invariant of every step, over all states. The premise on the engine is the invariant of
EngineStaysSound. -/
def Obligations.StepperStaysSound : Prop :=
  ∀ (s t : State),
    StepperSound s →
    EngineSound s →
    step s = .next t →
    StepperSound t

/-- The idle timer runs exactly while every idle condition holds, whatever command is taken. An invariant of every step,
over all states. The premise on the engine is the invariant of EngineStaysSound. -/
def Obligations.IdleTimerStaysSound : Prop :=
  ∀ (s t : State),
    IdleSound s →
    EngineSound s →
    step s = .next t →
    IdleSound t
end

