-- ==== Sys2Proof/Laws/Bytes.lean ====
section
/-! SUPPORT. Reading the bytes of a layout at its offsets: one lemma per way a layout is built. -/

namespace Sys2Proof.Machine

@[simp] theorem byteOf_toNat (n : Nat) : (byteOf n).toNat = n % 256 := by
  unfold byteOf; simp

@[simp] theorem be16_length (n : Nat) : (be16 n).length = 2 := rfl

@[simp] theorem byteAt_cons_zero (x : Byte) (b : List Byte) : byteAt (x :: b) 0 = x.toNat := rfl

@[simp] theorem byteAt_cons_succ (x : Byte) (b : List Byte) (k : Nat) : byteAt (x :: b) (k + 1) = byteAt b k := rfl

/-- An offset past the first part of a layout reads in the second. -/
theorem byteAt_append (a b : List Byte) (k : Nat) : byteAt (a ++ b) (a.length + k) = byteAt b k := by
  induction a with
  | nil => simp
  | cons x a ih =>
    rw [List.length_cons, Nat.add_right_comm, List.cons_append, byteAt_cons_succ]
    exact ih

/-- An offset within the first part of a layout reads there. -/
theorem byteAt_append_left (a b : List Byte) (k : Nat) (h : k < a.length) : byteAt (a ++ b) k = byteAt a k := by
  induction a generalizing k with
  | nil => exact absurd h (Nat.not_lt_zero k)
  | cons x a ih =>
    cases k with
    | zero => rfl
    | succ k => exact ih k (Nat.lt_of_succ_lt_succ h)

/-- Two bytes written high byte first read back as the value, within 16 bits. -/
theorem wordAt_be16 (n : Nat) (b : List Byte) : wordAt (be16 n ++ b) 0 = n % 65536 := by
  show (byteOf (n / 256)).toNat * 256 + (byteOf n).toNat = _
  rw [byteOf_toNat, byteOf_toNat]
  omega

theorem wordAt_append (a b : List Byte) (k : Nat) : wordAt (a ++ b) (a.length + k) = wordAt b k := by
  unfold wordAt
  rw [Nat.add_assoc, byteAt_append, byteAt_append]

end Sys2Proof.Machine
end

