-- ==== Sys2Proof/Laws/Data.lean ====
section
/-! SUPPORT. Reading the fixed collections after a write to one of their places, and the bytes of words. -/

namespace Sys2Proof

@[simp] theorem PerLink.get_set_self {α : Type} (p : PerLink α) (l : Link) (v : α) : (p.set l v).get l = v := by
  cases l <;> rfl

theorem PerLink.get_set_ne {α : Type} (p : PerLink α) {l m : Link} (v : α) (h : m ≠ l) :
    (p.set l v).get m = p.get m := by
  cases l <;> cases m <;> first | rfl | exact absurd rfl h

@[simp] theorem PerInput.get_set_self {α : Type} (p : PerInput α) (i : Input) (v : α) : (p.set i v).get i = v := by
  cases i <;> rfl

theorem PerInput.get_set_ne {α : Type} (p : PerInput α) {i j : Input} (v : α) (h : j ≠ i) :
    (p.set i v).get j = p.get j := by
  cases i <;> cases j <;> first | rfl | exact absurd rfl h

@[simp] theorem PerInput.get_build {α : Type} (f : Input → α) (i : Input) : (PerInput.build f).get i = f i := by
  cases i <;> rfl

@[simp] theorem PerLink.get_all {α : Type} (v : α) (l : Link) : (PerLink.all v).get l = v := by cases l <;> rfl

@[simp] theorem byteOf_toNat (n : Nat) : (byteOf n).toNat = n % 256 := by simp [byteOf]

/-- The two bytes of a word, high byte first, give the word back. -/
theorem wordOf_be16 (w : Word16) : wordOf (byteOf (w.toNat / 256)) (byteOf w.toNat) = w := by
  apply BitVec.eq_of_toNat_eq
  have h := w.isLt
  simp [wordOf]
  omega

namespace Machine

@[simp] theorem PerSource.get_set_self {α : Type} (p : PerSource α) (x : Source) (v : α) : (p.set x v).get x = v := by
  cases x <;> rfl

theorem PerSource.get_set_ne {α : Type} (p : PerSource α) {x y : Source} (v : α) (h : y ≠ x) :
    (p.set x v).get y = p.get y := by
  cases x <;> cases y <;> first | rfl | exact absurd rfl h

@[simp] theorem PerSource.get_all {α : Type} (v : α) (x : Source) : (PerSource.all v).get x = v := by cases x <;> rfl

@[simp] theorem PerChannel.get_set_self {α : Type} (p : PerChannel α) (c : Channel) (v : α) :
    (p.set c v).get c = v := by cases c <;> rfl

theorem PerChannel.get_set_ne {α : Type} (p : PerChannel α) {c d : Channel} (v : α) (h : d ≠ c) :
    (p.set c v).get d = p.get d := by
  cases c <;> cases d <;> first | rfl | exact absurd rfl h

@[simp] theorem PerChannel.get_all {α : Type} (v : α) (c : Channel) : (PerChannel.all v).get c = v := by cases c <;> rfl

@[simp] theorem PerSegment.get_set_self {α : Type} (p : PerSegment α) (g : SegmentId) (v : α) :
    (p.set g v).get g = v := by cases g <;> rfl

theorem PerSegment.get_set_ne {α : Type} (p : PerSegment α) {g h : SegmentId} (v : α) (hne : h ≠ g) :
    (p.set g v).get h = p.get h := by
  cases g <;> cases h <;> first | rfl | exact absurd rfl hne

@[simp] theorem Settings.get_set_self (s : Settings) (k : Setting) (v : Nat) : (s.set k v).get k = v := by
  cases k <;> rfl

theorem Settings.get_set_ne (s : Settings) {k j : Setting} (v : Nat) (h : j ≠ k) :
    (s.set k v).get j = s.get j := by
  cases k <;> cases j <;> first | rfl | exact absurd rfl h

/-- Setting numbers name settings, and each its own. -/
theorem Setting.ofNum_num (k : Setting) : Setting.ofNum k.num = some k := by cases k <;> rfl

theorem sourceOf_injective {l m : Link} (h : sourceOf l = sourceOf m) : l = m := by
  cases l <;> cases m <;> first | rfl | exact absurd h (by decide)

theorem sourceOf_ne_protection (l : Link) : sourceOf l ≠ .protection := by cases l <;> decide

end Machine

end Sys2Proof
end

