-- ==== Sys2Proof/Laws/State.lean ====
section
/-! SUPPORT. What each update of the state makes of each of its fields, one lemma per field and update. -/

namespace Sys2Proof.Machine

/-! ## elapse -/

@[simp] theorem State.elapse_now (s : State) (ms : Nat) : (s.elapse ms).now = s.now + ms := rfl
@[simp] theorem State.elapse_supply (s : State) (ms : Nat) : (s.elapse ms).supply = s.supply := rfl
@[simp] theorem State.elapse_resetSince (s : State) (ms : Nat) : (s.elapse ms).resetSince = s.resetSince := rfl
@[simp] theorem State.elapse_ports (s : State) (ms : Nat) : (s.elapse ms).ports = s.ports := rfl
@[simp] theorem State.elapse_arbiter (s : State) (ms : Nat) : (s.elapse ms).arbiter = s.arbiter := rfl
@[simp] theorem State.elapse_engine (s : State) (ms : Nat) : (s.elapse ms).engine = s.engine := rfl
@[simp] theorem State.elapse_sequencer (s : State) (ms : Nat) : (s.elapse ms).sequencer = s.sequencer := rfl
@[simp] theorem State.elapse_stepper (s : State) (ms : Nat) : (s.elapse ms).stepper = s.stepper := rfl
@[simp] theorem State.elapse_monitor (s : State) (ms : Nat) : (s.elapse ms).monitor = s.monitor := rfl
@[simp] theorem State.elapse_idle (s : State) (ms : Nat) : (s.elapse ms).idle = s.idle := rfl
@[simp] theorem State.elapse_store (s : State) (ms : Nat) : (s.elapse ms).store = s.store := rfl
@[simp] theorem State.elapse_frontEnd (s : State) (ms : Nat) : (s.elapse ms).frontEnd = s.frontEnd := rfl
@[simp] theorem State.elapse_outputs (s : State) (ms : Nat) : (s.elapse ms).outputs = s.outputs := rfl
@[simp] theorem State.elapse_pending (s : State) (ms : Nat) : (s.elapse ms).pending = s.pending := rfl

/-! ## reach -/

@[simp] theorem State.reach_now (s : State) (t : Nat) : (s.reach t).now = max s.now t := rfl
@[simp] theorem State.reach_supply (s : State) (t : Nat) : (s.reach t).supply = s.supply := rfl
@[simp] theorem State.reach_resetSince (s : State) (t : Nat) : (s.reach t).resetSince = s.resetSince := rfl
@[simp] theorem State.reach_ports (s : State) (t : Nat) : (s.reach t).ports = s.ports := rfl
@[simp] theorem State.reach_arbiter (s : State) (t : Nat) : (s.reach t).arbiter = s.arbiter := rfl
@[simp] theorem State.reach_engine (s : State) (t : Nat) : (s.reach t).engine = s.engine := rfl
@[simp] theorem State.reach_sequencer (s : State) (t : Nat) : (s.reach t).sequencer = s.sequencer := rfl
@[simp] theorem State.reach_stepper (s : State) (t : Nat) : (s.reach t).stepper = s.stepper := rfl
@[simp] theorem State.reach_monitor (s : State) (t : Nat) : (s.reach t).monitor = s.monitor := rfl
@[simp] theorem State.reach_idle (s : State) (t : Nat) : (s.reach t).idle = s.idle := rfl
@[simp] theorem State.reach_store (s : State) (t : Nat) : (s.reach t).store = s.store := rfl
@[simp] theorem State.reach_frontEnd (s : State) (t : Nat) : (s.reach t).frontEnd = s.frontEnd := rfl
@[simp] theorem State.reach_outputs (s : State) (t : Nat) : (s.reach t).outputs = s.outputs := rfl
@[simp] theorem State.reach_pending (s : State) (t : Nat) : (s.reach t).pending = s.pending := rfl

/-! ## withEntry -/

@[simp] theorem State.withEntry_now (s : State) (x : Source) (e : Entry) : (s.withEntry x e).now = s.now := rfl
@[simp] theorem State.withEntry_supply (s : State) (x : Source) (e : Entry) : (s.withEntry x e).supply = s.supply := rfl
@[simp] theorem State.withEntry_resetSince (s : State) (x : Source) (e : Entry) :
    (s.withEntry x e).resetSince = s.resetSince := rfl
@[simp] theorem State.withEntry_ports (s : State) (x : Source) (e : Entry) : (s.withEntry x e).ports = s.ports := rfl
@[simp] theorem State.withEntry_arbiter (s : State) (x : Source) (e : Entry) :
    (s.withEntry x e).arbiter = { s.arbiter with table := s.arbiter.table.set x e } := rfl
@[simp] theorem State.withEntry_engine (s : State) (x : Source) (e : Entry) : (s.withEntry x e).engine = s.engine := rfl
@[simp] theorem State.withEntry_sequencer (s : State) (x : Source) (e : Entry) :
    (s.withEntry x e).sequencer = s.sequencer := rfl
@[simp] theorem State.withEntry_stepper (s : State) (x : Source) (e : Entry) :
    (s.withEntry x e).stepper = s.stepper := rfl
@[simp] theorem State.withEntry_monitor (s : State) (x : Source) (e : Entry) :
    (s.withEntry x e).monitor = s.monitor := rfl
@[simp] theorem State.withEntry_idle (s : State) (x : Source) (e : Entry) : (s.withEntry x e).idle = s.idle := rfl
@[simp] theorem State.withEntry_store (s : State) (x : Source) (e : Entry) : (s.withEntry x e).store = s.store := rfl
@[simp] theorem State.withEntry_frontEnd (s : State) (x : Source) (e : Entry) :
    (s.withEntry x e).frontEnd = s.frontEnd := rfl
@[simp] theorem State.withEntry_outputs (s : State) (x : Source) (e : Entry) :
    (s.withEntry x e).outputs = s.outputs := rfl
@[simp] theorem State.withEntry_pending (s : State) (x : Source) (e : Entry) :
    (s.withEntry x e).pending = s.pending := rfl

/-! ## withStack -/

@[simp] theorem State.withStack_now (s : State) (l : List Source) : (s.withStack l).now = s.now := rfl
@[simp] theorem State.withStack_supply (s : State) (l : List Source) : (s.withStack l).supply = s.supply := rfl
@[simp] theorem State.withStack_resetSince (s : State) (l : List Source) :
    (s.withStack l).resetSince = s.resetSince := rfl
@[simp] theorem State.withStack_ports (s : State) (l : List Source) : (s.withStack l).ports = s.ports := rfl
@[simp] theorem State.withStack_arbiter (s : State) (l : List Source) :
    (s.withStack l).arbiter = { s.arbiter with stack := l } := rfl
@[simp] theorem State.withStack_engine (s : State) (l : List Source) : (s.withStack l).engine = s.engine := rfl
@[simp] theorem State.withStack_sequencer (s : State) (l : List Source) : (s.withStack l).sequencer = s.sequencer := rfl
@[simp] theorem State.withStack_stepper (s : State) (l : List Source) : (s.withStack l).stepper = s.stepper := rfl
@[simp] theorem State.withStack_monitor (s : State) (l : List Source) : (s.withStack l).monitor = s.monitor := rfl
@[simp] theorem State.withStack_idle (s : State) (l : List Source) : (s.withStack l).idle = s.idle := rfl
@[simp] theorem State.withStack_store (s : State) (l : List Source) : (s.withStack l).store = s.store := rfl
@[simp] theorem State.withStack_frontEnd (s : State) (l : List Source) : (s.withStack l).frontEnd = s.frontEnd := rfl
@[simp] theorem State.withStack_outputs (s : State) (l : List Source) : (s.withStack l).outputs = s.outputs := rfl
@[simp] theorem State.withStack_pending (s : State) (l : List Source) : (s.withStack l).pending = s.pending := rfl

/-! ## withWaiting -/

@[simp] theorem State.withWaiting_now (s : State) (l : List Source) : (s.withWaiting l).now = s.now := rfl
@[simp] theorem State.withWaiting_supply (s : State) (l : List Source) : (s.withWaiting l).supply = s.supply := rfl
@[simp] theorem State.withWaiting_resetSince (s : State) (l : List Source) :
    (s.withWaiting l).resetSince = s.resetSince := rfl
@[simp] theorem State.withWaiting_ports (s : State) (l : List Source) : (s.withWaiting l).ports = s.ports := rfl
@[simp] theorem State.withWaiting_arbiter (s : State) (l : List Source) :
    (s.withWaiting l).arbiter = { s.arbiter with waiting := l } := rfl
@[simp] theorem State.withWaiting_engine (s : State) (l : List Source) : (s.withWaiting l).engine = s.engine := rfl
@[simp] theorem State.withWaiting_sequencer (s : State) (l : List Source) :
    (s.withWaiting l).sequencer = s.sequencer := rfl
@[simp] theorem State.withWaiting_stepper (s : State) (l : List Source) : (s.withWaiting l).stepper = s.stepper := rfl
@[simp] theorem State.withWaiting_monitor (s : State) (l : List Source) : (s.withWaiting l).monitor = s.monitor := rfl
@[simp] theorem State.withWaiting_idle (s : State) (l : List Source) : (s.withWaiting l).idle = s.idle := rfl
@[simp] theorem State.withWaiting_store (s : State) (l : List Source) : (s.withWaiting l).store = s.store := rfl
@[simp] theorem State.withWaiting_frontEnd (s : State) (l : List Source) :
    (s.withWaiting l).frontEnd = s.frontEnd := rfl
@[simp] theorem State.withWaiting_outputs (s : State) (l : List Source) : (s.withWaiting l).outputs = s.outputs := rfl
@[simp] theorem State.withWaiting_pending (s : State) (l : List Source) : (s.withWaiting l).pending = s.pending := rfl

/-! ## withStopKind -/

@[simp] theorem State.withStopKind_now (s : State) (k : Option StopKind) : (s.withStopKind k).now = s.now := rfl
@[simp] theorem State.withStopKind_supply (s : State) (k : Option StopKind) :
    (s.withStopKind k).supply = s.supply := rfl
@[simp] theorem State.withStopKind_resetSince (s : State) (k : Option StopKind) :
    (s.withStopKind k).resetSince = s.resetSince := rfl
@[simp] theorem State.withStopKind_ports (s : State) (k : Option StopKind) : (s.withStopKind k).ports = s.ports := rfl
@[simp] theorem State.withStopKind_arbiter (s : State) (k : Option StopKind) :
    (s.withStopKind k).arbiter = s.arbiter := rfl
@[simp] theorem State.withStopKind_engine (s : State) (k : Option StopKind) :
    (s.withStopKind k).engine = { s.engine with stopKind := k } := rfl
@[simp] theorem State.withStopKind_sequencer (s : State) (k : Option StopKind) :
    (s.withStopKind k).sequencer = s.sequencer := rfl
@[simp] theorem State.withStopKind_stepper (s : State) (k : Option StopKind) :
    (s.withStopKind k).stepper = s.stepper := rfl
@[simp] theorem State.withStopKind_monitor (s : State) (k : Option StopKind) :
    (s.withStopKind k).monitor = s.monitor := rfl
@[simp] theorem State.withStopKind_idle (s : State) (k : Option StopKind) : (s.withStopKind k).idle = s.idle := rfl
@[simp] theorem State.withStopKind_store (s : State) (k : Option StopKind) : (s.withStopKind k).store = s.store := rfl
@[simp] theorem State.withStopKind_frontEnd (s : State) (k : Option StopKind) :
    (s.withStopKind k).frontEnd = s.frontEnd := rfl
@[simp] theorem State.withStopKind_outputs (s : State) (k : Option StopKind) :
    (s.withStopKind k).outputs = s.outputs := rfl
@[simp] theorem State.withStopKind_pending (s : State) (k : Option StopKind) :
    (s.withStopKind k).pending = s.pending := rfl

/-! ## withLayupMark -/

@[simp] theorem State.withLayupMark_now (s : State) (b : Bool) : (s.withLayupMark b).now = s.now := rfl
@[simp] theorem State.withLayupMark_supply (s : State) (b : Bool) : (s.withLayupMark b).supply = s.supply := rfl
@[simp] theorem State.withLayupMark_resetSince (s : State) (b : Bool) :
    (s.withLayupMark b).resetSince = s.resetSince := rfl
@[simp] theorem State.withLayupMark_ports (s : State) (b : Bool) : (s.withLayupMark b).ports = s.ports := rfl
@[simp] theorem State.withLayupMark_arbiter (s : State) (b : Bool) : (s.withLayupMark b).arbiter = s.arbiter := rfl
@[simp] theorem State.withLayupMark_engine (s : State) (b : Bool) :
    (s.withLayupMark b).engine = { s.engine with layupMark := b } := rfl
@[simp] theorem State.withLayupMark_sequencer (s : State) (b : Bool) :
    (s.withLayupMark b).sequencer = s.sequencer := rfl
@[simp] theorem State.withLayupMark_stepper (s : State) (b : Bool) : (s.withLayupMark b).stepper = s.stepper := rfl
@[simp] theorem State.withLayupMark_monitor (s : State) (b : Bool) : (s.withLayupMark b).monitor = s.monitor := rfl
@[simp] theorem State.withLayupMark_idle (s : State) (b : Bool) : (s.withLayupMark b).idle = s.idle := rfl
@[simp] theorem State.withLayupMark_store (s : State) (b : Bool) : (s.withLayupMark b).store = s.store := rfl
@[simp] theorem State.withLayupMark_frontEnd (s : State) (b : Bool) : (s.withLayupMark b).frontEnd = s.frontEnd := rfl
@[simp] theorem State.withLayupMark_outputs (s : State) (b : Bool) : (s.withLayupMark b).outputs = s.outputs := rfl
@[simp] theorem State.withLayupMark_pending (s : State) (b : Bool) : (s.withLayupMark b).pending = s.pending := rfl

/-! ## dropTimers -/

@[simp] theorem State.dropTimers_now (s : State) : (s.dropTimers).now = s.now := rfl
@[simp] theorem State.dropTimers_supply (s : State) : (s.dropTimers).supply = s.supply := rfl
@[simp] theorem State.dropTimers_resetSince (s : State) : (s.dropTimers).resetSince = s.resetSince := rfl
@[simp] theorem State.dropTimers_ports (s : State) : (s.dropTimers).ports = s.ports := rfl
@[simp] theorem State.dropTimers_arbiter (s : State) : (s.dropTimers).arbiter = s.arbiter := rfl
@[simp] theorem State.dropTimers_engine (s : State) :
    (s.dropTimers).engine = { s.engine with cooldownEnd := none, rundownEnd := none } := rfl
@[simp] theorem State.dropTimers_sequencer (s : State) : (s.dropTimers).sequencer = s.sequencer := rfl
@[simp] theorem State.dropTimers_stepper (s : State) : (s.dropTimers).stepper = s.stepper := rfl
@[simp] theorem State.dropTimers_monitor (s : State) : (s.dropTimers).monitor = s.monitor := rfl
@[simp] theorem State.dropTimers_idle (s : State) : (s.dropTimers).idle = s.idle := rfl
@[simp] theorem State.dropTimers_store (s : State) : (s.dropTimers).store = s.store := rfl
@[simp] theorem State.dropTimers_frontEnd (s : State) : (s.dropTimers).frontEnd = s.frontEnd := rfl
@[simp] theorem State.dropTimers_outputs (s : State) : (s.dropTimers).outputs = s.outputs := rfl
@[simp] theorem State.dropTimers_pending (s : State) : (s.dropTimers).pending = s.pending := rfl

/-! ## withRecord -/

@[simp] theorem State.withRecord_now (s : State) (f : StartRecord → StartRecord) : (s.withRecord f).now = s.now := rfl
@[simp] theorem State.withRecord_supply (s : State) (f : StartRecord → StartRecord) :
    (s.withRecord f).supply = s.supply := rfl
@[simp] theorem State.withRecord_resetSince (s : State) (f : StartRecord → StartRecord) :
    (s.withRecord f).resetSince = s.resetSince := rfl
@[simp] theorem State.withRecord_ports (s : State) (f : StartRecord → StartRecord) :
    (s.withRecord f).ports = s.ports := rfl
@[simp] theorem State.withRecord_arbiter (s : State) (f : StartRecord → StartRecord) :
    (s.withRecord f).arbiter = s.arbiter := rfl
@[simp] theorem State.withRecord_engine (s : State) (f : StartRecord → StartRecord) :
    (s.withRecord f).engine = s.engine := rfl
@[simp] theorem State.withRecord_sequencer (s : State) (f : StartRecord → StartRecord) :
    (s.withRecord f).sequencer = { s.sequencer with record := s.sequencer.record.map f } := rfl
@[simp] theorem State.withRecord_stepper (s : State) (f : StartRecord → StartRecord) :
    (s.withRecord f).stepper = s.stepper := rfl
@[simp] theorem State.withRecord_monitor (s : State) (f : StartRecord → StartRecord) :
    (s.withRecord f).monitor = s.monitor := rfl
@[simp] theorem State.withRecord_idle (s : State) (f : StartRecord → StartRecord) :
    (s.withRecord f).idle = s.idle := rfl
@[simp] theorem State.withRecord_store (s : State) (f : StartRecord → StartRecord) :
    (s.withRecord f).store = s.store := rfl
@[simp] theorem State.withRecord_frontEnd (s : State) (f : StartRecord → StartRecord) :
    (s.withRecord f).frontEnd = s.frontEnd := rfl
@[simp] theorem State.withRecord_outputs (s : State) (f : StartRecord → StartRecord) :
    (s.withRecord f).outputs = s.outputs := rfl
@[simp] theorem State.withRecord_pending (s : State) (f : StartRecord → StartRecord) :
    (s.withRecord f).pending = s.pending := rfl

/-! ## withStartOutputs -/

@[simp] theorem State.withStartOutputs_now (s : State) (a b : Bool) : (s.withStartOutputs a b).now = s.now := rfl
@[simp] theorem State.withStartOutputs_supply (s : State) (a b : Bool) :
    (s.withStartOutputs a b).supply = s.supply := rfl
@[simp] theorem State.withStartOutputs_resetSince (s : State) (a b : Bool) :
    (s.withStartOutputs a b).resetSince = s.resetSince := rfl
@[simp] theorem State.withStartOutputs_ports (s : State) (a b : Bool) : (s.withStartOutputs a b).ports = s.ports := rfl
@[simp] theorem State.withStartOutputs_arbiter (s : State) (a b : Bool) :
    (s.withStartOutputs a b).arbiter = s.arbiter := rfl
@[simp] theorem State.withStartOutputs_engine (s : State) (a b : Bool) :
    (s.withStartOutputs a b).engine = s.engine := rfl
@[simp] theorem State.withStartOutputs_sequencer (s : State) (a b : Bool) :
    (s.withStartOutputs a b).sequencer = s.sequencer := rfl
@[simp] theorem State.withStartOutputs_stepper (s : State) (a b : Bool) :
    (s.withStartOutputs a b).stepper = s.stepper := rfl
@[simp] theorem State.withStartOutputs_monitor (s : State) (a b : Bool) :
    (s.withStartOutputs a b).monitor = s.monitor := rfl
@[simp] theorem State.withStartOutputs_idle (s : State) (a b : Bool) : (s.withStartOutputs a b).idle = s.idle := rfl
@[simp] theorem State.withStartOutputs_store (s : State) (a b : Bool) : (s.withStartOutputs a b).store = s.store := rfl
@[simp] theorem State.withStartOutputs_frontEnd (s : State) (a b : Bool) :
    (s.withStartOutputs a b).frontEnd = s.frontEnd := rfl
@[simp] theorem State.withStartOutputs_outputs (s : State) (a b : Bool) :
    (s.withStartOutputs a b).outputs = { s.outputs with starter := a, prelube := b } := rfl
@[simp] theorem State.withStartOutputs_pending (s : State) (a b : Bool) :
    (s.withStartOutputs a b).pending = s.pending := rfl

/-! ## withRun -/

@[simp] theorem State.withRun_now (s : State) (n : Nat) : (s.withRun n).now = s.now := rfl
@[simp] theorem State.withRun_supply (s : State) (n : Nat) : (s.withRun n).supply = s.supply := rfl
@[simp] theorem State.withRun_resetSince (s : State) (n : Nat) : (s.withRun n).resetSince = s.resetSince := rfl
@[simp] theorem State.withRun_ports (s : State) (n : Nat) : (s.withRun n).ports = s.ports := rfl
@[simp] theorem State.withRun_arbiter (s : State) (n : Nat) : (s.withRun n).arbiter = s.arbiter := rfl
@[simp] theorem State.withRun_engine (s : State) (n : Nat) : (s.withRun n).engine = s.engine := rfl
@[simp] theorem State.withRun_sequencer (s : State) (n : Nat) :
    (s.withRun n).sequencer = { s.sequencer with run := some n } := rfl
@[simp] theorem State.withRun_stepper (s : State) (n : Nat) : (s.withRun n).stepper = s.stepper := rfl
@[simp] theorem State.withRun_monitor (s : State) (n : Nat) : (s.withRun n).monitor = s.monitor := rfl
@[simp] theorem State.withRun_idle (s : State) (n : Nat) : (s.withRun n).idle = s.idle := rfl
@[simp] theorem State.withRun_store (s : State) (n : Nat) : (s.withRun n).store = s.store := rfl
@[simp] theorem State.withRun_frontEnd (s : State) (n : Nat) : (s.withRun n).frontEnd = s.frontEnd := rfl
@[simp] theorem State.withRun_outputs (s : State) (n : Nat) : (s.withRun n).outputs = s.outputs := rfl
@[simp] theorem State.withRun_pending (s : State) (n : Nat) : (s.withRun n).pending = s.pending := rfl

/-! ## dropPhaseTimer -/

@[simp] theorem State.dropPhaseTimer_now (s : State) : (s.dropPhaseTimer).now = s.now := rfl
@[simp] theorem State.dropPhaseTimer_supply (s : State) : (s.dropPhaseTimer).supply = s.supply := rfl
@[simp] theorem State.dropPhaseTimer_resetSince (s : State) : (s.dropPhaseTimer).resetSince = s.resetSince := rfl
@[simp] theorem State.dropPhaseTimer_ports (s : State) : (s.dropPhaseTimer).ports = s.ports := rfl
@[simp] theorem State.dropPhaseTimer_arbiter (s : State) : (s.dropPhaseTimer).arbiter = s.arbiter := rfl
@[simp] theorem State.dropPhaseTimer_engine (s : State) : (s.dropPhaseTimer).engine = s.engine := rfl
@[simp] theorem State.dropPhaseTimer_sequencer (s : State) :
    (s.dropPhaseTimer).sequencer = { s.sequencer with timer := none } := rfl
@[simp] theorem State.dropPhaseTimer_stepper (s : State) : (s.dropPhaseTimer).stepper = s.stepper := rfl
@[simp] theorem State.dropPhaseTimer_monitor (s : State) : (s.dropPhaseTimer).monitor = s.monitor := rfl
@[simp] theorem State.dropPhaseTimer_idle (s : State) : (s.dropPhaseTimer).idle = s.idle := rfl
@[simp] theorem State.dropPhaseTimer_store (s : State) : (s.dropPhaseTimer).store = s.store := rfl
@[simp] theorem State.dropPhaseTimer_frontEnd (s : State) : (s.dropPhaseTimer).frontEnd = s.frontEnd := rfl
@[simp] theorem State.dropPhaseTimer_outputs (s : State) : (s.dropPhaseTimer).outputs = s.outputs := rfl
@[simp] theorem State.dropPhaseTimer_pending (s : State) : (s.dropPhaseTimer).pending = s.pending := rfl

/-! ## startLockout -/

@[simp] theorem State.startLockout_now (s : State) : (s.startLockout).now = s.now := rfl
@[simp] theorem State.startLockout_supply (s : State) : (s.startLockout).supply = s.supply := rfl
@[simp] theorem State.startLockout_resetSince (s : State) : (s.startLockout).resetSince = s.resetSince := rfl
@[simp] theorem State.startLockout_ports (s : State) : (s.startLockout).ports = s.ports := rfl
@[simp] theorem State.startLockout_arbiter (s : State) : (s.startLockout).arbiter = s.arbiter := rfl
@[simp] theorem State.startLockout_engine (s : State) : (s.startLockout).engine = s.engine := rfl
@[simp] theorem State.startLockout_sequencer (s : State) :
    (s.startLockout).sequencer = { s.sequencer with lockoutEnd := some (s.now + s.settings.starterLockout * 1000) } := rfl
@[simp] theorem State.startLockout_stepper (s : State) : (s.startLockout).stepper = s.stepper := rfl
@[simp] theorem State.startLockout_monitor (s : State) : (s.startLockout).monitor = s.monitor := rfl
@[simp] theorem State.startLockout_idle (s : State) : (s.startLockout).idle = s.idle := rfl
@[simp] theorem State.startLockout_store (s : State) : (s.startLockout).store = s.store := rfl
@[simp] theorem State.startLockout_frontEnd (s : State) : (s.startLockout).frontEnd = s.frontEnd := rfl
@[simp] theorem State.startLockout_outputs (s : State) : (s.startLockout).outputs = s.outputs := rfl
@[simp] theorem State.startLockout_pending (s : State) : (s.startLockout).pending = s.pending := rfl

/-! ## withTarget -/

@[simp] theorem State.withTarget_now (s : State) (n : Nat) : (s.withTarget n).now = s.now := rfl
@[simp] theorem State.withTarget_supply (s : State) (n : Nat) : (s.withTarget n).supply = s.supply := rfl
@[simp] theorem State.withTarget_resetSince (s : State) (n : Nat) : (s.withTarget n).resetSince = s.resetSince := rfl
@[simp] theorem State.withTarget_ports (s : State) (n : Nat) : (s.withTarget n).ports = s.ports := rfl
@[simp] theorem State.withTarget_arbiter (s : State) (n : Nat) : (s.withTarget n).arbiter = s.arbiter := rfl
@[simp] theorem State.withTarget_engine (s : State) (n : Nat) : (s.withTarget n).engine = s.engine := rfl
@[simp] theorem State.withTarget_sequencer (s : State) (n : Nat) : (s.withTarget n).sequencer = s.sequencer := rfl
@[simp] theorem State.withTarget_stepper (s : State) (n : Nat) :
    (s.withTarget n).stepper = { s.stepper with target := n } := rfl
@[simp] theorem State.withTarget_monitor (s : State) (n : Nat) : (s.withTarget n).monitor = s.monitor := rfl
@[simp] theorem State.withTarget_idle (s : State) (n : Nat) : (s.withTarget n).idle = s.idle := rfl
@[simp] theorem State.withTarget_store (s : State) (n : Nat) : (s.withTarget n).store = s.store := rfl
@[simp] theorem State.withTarget_frontEnd (s : State) (n : Nat) : (s.withTarget n).frontEnd = s.frontEnd := rfl
@[simp] theorem State.withTarget_outputs (s : State) (n : Nat) : (s.withTarget n).outputs = s.outputs := rfl
@[simp] theorem State.withTarget_pending (s : State) (n : Nat) : (s.withTarget n).pending = s.pending := rfl

/-! ## noLoad -/

@[simp] theorem State.noLoad_now (s : State) : (s.noLoad).now = s.now := rfl
@[simp] theorem State.noLoad_supply (s : State) : (s.noLoad).supply = s.supply := rfl
@[simp] theorem State.noLoad_resetSince (s : State) : (s.noLoad).resetSince = s.resetSince := rfl
@[simp] theorem State.noLoad_ports (s : State) : (s.noLoad).ports = s.ports := rfl
@[simp] theorem State.noLoad_arbiter (s : State) : (s.noLoad).arbiter = s.arbiter := rfl
@[simp] theorem State.noLoad_engine (s : State) : (s.noLoad).engine = s.engine := rfl
@[simp] theorem State.noLoad_sequencer (s : State) : (s.noLoad).sequencer = s.sequencer := rfl
@[simp] theorem State.noLoad_stepper (s : State) :
    (s.noLoad).stepper = { s.stepper with loadTarget := 0, loadRef := 0, terms := none } := rfl
@[simp] theorem State.noLoad_monitor (s : State) : (s.noLoad).monitor = s.monitor := rfl
@[simp] theorem State.noLoad_idle (s : State) : (s.noLoad).idle = s.idle := rfl
@[simp] theorem State.noLoad_store (s : State) : (s.noLoad).store = s.store := rfl
@[simp] theorem State.noLoad_frontEnd (s : State) : (s.noLoad).frontEnd = s.frontEnd := rfl
@[simp] theorem State.noLoad_outputs (s : State) : (s.noLoad).outputs = s.outputs := rfl
@[simp] theorem State.noLoad_pending (s : State) : (s.noLoad).pending = s.pending := rfl

/-! ## unload -/

@[simp] theorem State.unload_now (s : State) : (s.unload).now = s.now := rfl
@[simp] theorem State.unload_supply (s : State) : (s.unload).supply = s.supply := rfl
@[simp] theorem State.unload_resetSince (s : State) : (s.unload).resetSince = s.resetSince := rfl
@[simp] theorem State.unload_ports (s : State) : (s.unload).ports = s.ports := rfl
@[simp] theorem State.unload_arbiter (s : State) : (s.unload).arbiter = s.arbiter := rfl
@[simp] theorem State.unload_engine (s : State) : (s.unload).engine = s.engine := rfl
@[simp] theorem State.unload_sequencer (s : State) : (s.unload).sequencer = s.sequencer := rfl
@[simp] theorem State.unload_monitor (s : State) : (s.unload).monitor = s.monitor := rfl
@[simp] theorem State.unload_idle (s : State) : (s.unload).idle = s.idle := rfl
@[simp] theorem State.unload_store (s : State) : (s.unload).store = s.store := rfl
@[simp] theorem State.unload_frontEnd (s : State) : (s.unload).frontEnd = s.frontEnd := rfl
@[simp] theorem State.unload_outputs (s : State) : (s.unload).outputs = s.outputs := rfl
@[simp] theorem State.unload_pending (s : State) : (s.unload).pending = s.pending := rfl

/-! ## withChannel -/

@[simp] theorem State.withChannel_now (s : State) (c : Channel) (v : ChannelState) :
    (s.withChannel c v).now = s.now := rfl
@[simp] theorem State.withChannel_supply (s : State) (c : Channel) (v : ChannelState) :
    (s.withChannel c v).supply = s.supply := rfl
@[simp] theorem State.withChannel_resetSince (s : State) (c : Channel) (v : ChannelState) :
    (s.withChannel c v).resetSince = s.resetSince := rfl
@[simp] theorem State.withChannel_ports (s : State) (c : Channel) (v : ChannelState) :
    (s.withChannel c v).ports = s.ports := rfl
@[simp] theorem State.withChannel_arbiter (s : State) (c : Channel) (v : ChannelState) :
    (s.withChannel c v).arbiter = s.arbiter := rfl
@[simp] theorem State.withChannel_engine (s : State) (c : Channel) (v : ChannelState) :
    (s.withChannel c v).engine = s.engine := rfl
@[simp] theorem State.withChannel_sequencer (s : State) (c : Channel) (v : ChannelState) :
    (s.withChannel c v).sequencer = s.sequencer := rfl
@[simp] theorem State.withChannel_stepper (s : State) (c : Channel) (v : ChannelState) :
    (s.withChannel c v).stepper = s.stepper := rfl
@[simp] theorem State.withChannel_monitor (s : State) (c : Channel) (v : ChannelState) :
    (s.withChannel c v).monitor = { s.monitor with channels := s.monitor.channels.set c v } := rfl
@[simp] theorem State.withChannel_idle (s : State) (c : Channel) (v : ChannelState) :
    (s.withChannel c v).idle = s.idle := rfl
@[simp] theorem State.withChannel_store (s : State) (c : Channel) (v : ChannelState) :
    (s.withChannel c v).store = s.store := rfl
@[simp] theorem State.withChannel_frontEnd (s : State) (c : Channel) (v : ChannelState) :
    (s.withChannel c v).frontEnd = s.frontEnd := rfl
@[simp] theorem State.withChannel_outputs (s : State) (c : Channel) (v : ChannelState) :
    (s.withChannel c v).outputs = s.outputs := rfl
@[simp] theorem State.withChannel_pending (s : State) (c : Channel) (v : ChannelState) :
    (s.withChannel c v).pending = s.pending := rfl

/-! ## clearCondition -/

@[simp] theorem State.clearCondition_now (s : State) (c : Channel) : (s.clearCondition c).now = s.now := rfl
@[simp] theorem State.clearCondition_supply (s : State) (c : Channel) : (s.clearCondition c).supply = s.supply := rfl
@[simp] theorem State.clearCondition_resetSince (s : State) (c : Channel) :
    (s.clearCondition c).resetSince = s.resetSince := rfl
@[simp] theorem State.clearCondition_ports (s : State) (c : Channel) : (s.clearCondition c).ports = s.ports := rfl
@[simp] theorem State.clearCondition_arbiter (s : State) (c : Channel) : (s.clearCondition c).arbiter = s.arbiter := rfl
@[simp] theorem State.clearCondition_engine (s : State) (c : Channel) : (s.clearCondition c).engine = s.engine := rfl
@[simp] theorem State.clearCondition_sequencer (s : State) (c : Channel) :
    (s.clearCondition c).sequencer = s.sequencer := rfl
@[simp] theorem State.clearCondition_stepper (s : State) (c : Channel) : (s.clearCondition c).stepper = s.stepper := rfl
@[simp] theorem State.clearCondition_idle (s : State) (c : Channel) : (s.clearCondition c).idle = s.idle := rfl
@[simp] theorem State.clearCondition_store (s : State) (c : Channel) : (s.clearCondition c).store = s.store := rfl
@[simp] theorem State.clearCondition_frontEnd (s : State) (c : Channel) :
    (s.clearCondition c).frontEnd = s.frontEnd := rfl
@[simp] theorem State.clearCondition_outputs (s : State) (c : Channel) : (s.clearCondition c).outputs = s.outputs := rfl
@[simp] theorem State.clearCondition_pending (s : State) (c : Channel) : (s.clearCondition c).pending = s.pending := rfl

/-! ## disarm -/

@[simp] theorem State.disarm_now (s : State) (c : Channel) : (s.disarm c).now = s.now := rfl
@[simp] theorem State.disarm_supply (s : State) (c : Channel) : (s.disarm c).supply = s.supply := rfl
@[simp] theorem State.disarm_resetSince (s : State) (c : Channel) : (s.disarm c).resetSince = s.resetSince := rfl
@[simp] theorem State.disarm_ports (s : State) (c : Channel) : (s.disarm c).ports = s.ports := rfl
@[simp] theorem State.disarm_arbiter (s : State) (c : Channel) : (s.disarm c).arbiter = s.arbiter := rfl
@[simp] theorem State.disarm_engine (s : State) (c : Channel) : (s.disarm c).engine = s.engine := rfl
@[simp] theorem State.disarm_sequencer (s : State) (c : Channel) : (s.disarm c).sequencer = s.sequencer := rfl
@[simp] theorem State.disarm_stepper (s : State) (c : Channel) : (s.disarm c).stepper = s.stepper := rfl
@[simp] theorem State.disarm_idle (s : State) (c : Channel) : (s.disarm c).idle = s.idle := rfl
@[simp] theorem State.disarm_store (s : State) (c : Channel) : (s.disarm c).store = s.store := rfl
@[simp] theorem State.disarm_frontEnd (s : State) (c : Channel) : (s.disarm c).frontEnd = s.frontEnd := rfl
@[simp] theorem State.disarm_outputs (s : State) (c : Channel) : (s.disarm c).outputs = s.outputs := rfl
@[simp] theorem State.disarm_pending (s : State) (c : Channel) : (s.disarm c).pending = s.pending := rfl

/-! ## marked -/

@[simp] theorem State.marked_now (s : State) (ks : List Lookup) : (s.marked ks).now = s.now := rfl
@[simp] theorem State.marked_supply (s : State) (ks : List Lookup) : (s.marked ks).supply = s.supply := rfl
@[simp] theorem State.marked_resetSince (s : State) (ks : List Lookup) : (s.marked ks).resetSince = s.resetSince := rfl
@[simp] theorem State.marked_ports (s : State) (ks : List Lookup) : (s.marked ks).ports = s.ports := rfl
@[simp] theorem State.marked_arbiter (s : State) (ks : List Lookup) : (s.marked ks).arbiter = s.arbiter := rfl
@[simp] theorem State.marked_engine (s : State) (ks : List Lookup) : (s.marked ks).engine = s.engine := rfl
@[simp] theorem State.marked_sequencer (s : State) (ks : List Lookup) : (s.marked ks).sequencer = s.sequencer := rfl
@[simp] theorem State.marked_stepper (s : State) (ks : List Lookup) : (s.marked ks).stepper = s.stepper := rfl
@[simp] theorem State.marked_monitor (s : State) (ks : List Lookup) : (s.marked ks).monitor = s.monitor := rfl
@[simp] theorem State.marked_idle (s : State) (ks : List Lookup) : (s.marked ks).idle = s.idle := rfl
@[simp] theorem State.marked_store (s : State) (ks : List Lookup) : (s.marked ks).store = s.store.markFaults ks := rfl
@[simp] theorem State.marked_frontEnd (s : State) (ks : List Lookup) : (s.marked ks).frontEnd = s.frontEnd := rfl
@[simp] theorem State.marked_outputs (s : State) (ks : List Lookup) : (s.marked ks).outputs = s.outputs := rfl
@[simp] theorem State.marked_pending (s : State) (ks : List Lookup) : (s.marked ks).pending = s.pending := rfl

/-! ## lookedUp -/

@[simp] theorem State.lookedUp_now (s : State) (ks : List Lookup) : (s.lookedUp ks).now = s.now := rfl
@[simp] theorem State.lookedUp_supply (s : State) (ks : List Lookup) : (s.lookedUp ks).supply = s.supply := rfl
@[simp] theorem State.lookedUp_resetSince (s : State) (ks : List Lookup) :
    (s.lookedUp ks).resetSince = s.resetSince := rfl
@[simp] theorem State.lookedUp_ports (s : State) (ks : List Lookup) : (s.lookedUp ks).ports = s.ports := rfl
@[simp] theorem State.lookedUp_arbiter (s : State) (ks : List Lookup) : (s.lookedUp ks).arbiter = s.arbiter := rfl
@[simp] theorem State.lookedUp_engine (s : State) (ks : List Lookup) : (s.lookedUp ks).engine = s.engine := rfl
@[simp] theorem State.lookedUp_sequencer (s : State) (ks : List Lookup) : (s.lookedUp ks).sequencer = s.sequencer := rfl
@[simp] theorem State.lookedUp_stepper (s : State) (ks : List Lookup) : (s.lookedUp ks).stepper = s.stepper := rfl
@[simp] theorem State.lookedUp_idle (s : State) (ks : List Lookup) : (s.lookedUp ks).idle = s.idle := rfl
@[simp] theorem State.lookedUp_store (s : State) (ks : List Lookup) :
    (s.lookedUp ks).store = s.store.markFaults ks := rfl
@[simp] theorem State.lookedUp_frontEnd (s : State) (ks : List Lookup) : (s.lookedUp ks).frontEnd = s.frontEnd := rfl
@[simp] theorem State.lookedUp_outputs (s : State) (ks : List Lookup) : (s.lookedUp ks).outputs = s.outputs := rfl
@[simp] theorem State.lookedUp_pending (s : State) (ks : List Lookup) : (s.lookedUp ks).pending = s.pending := rfl

/-! ## presentLoops -/

@[simp] theorem State.presentLoops_now (s : State) : (s.presentLoops).now = s.now := rfl
@[simp] theorem State.presentLoops_supply (s : State) : (s.presentLoops).supply = s.supply := rfl
@[simp] theorem State.presentLoops_resetSince (s : State) : (s.presentLoops).resetSince = s.resetSince := rfl
@[simp] theorem State.presentLoops_ports (s : State) : (s.presentLoops).ports = s.ports := rfl
@[simp] theorem State.presentLoops_arbiter (s : State) : (s.presentLoops).arbiter = s.arbiter := rfl
@[simp] theorem State.presentLoops_engine (s : State) : (s.presentLoops).engine = s.engine := rfl
@[simp] theorem State.presentLoops_sequencer (s : State) : (s.presentLoops).sequencer = s.sequencer := rfl
@[simp] theorem State.presentLoops_stepper (s : State) : (s.presentLoops).stepper = s.stepper := rfl
@[simp] theorem State.presentLoops_monitor (s : State) : (s.presentLoops).monitor = s.monitor := rfl
@[simp] theorem State.presentLoops_idle (s : State) : (s.presentLoops).idle = s.idle := rfl
@[simp] theorem State.presentLoops_store (s : State) : (s.presentLoops).store = s.store := rfl
@[simp] theorem State.presentLoops_frontEnd (s : State) : (s.presentLoops).frontEnd = s.frontEnd := rfl
@[simp] theorem State.presentLoops_outputs (s : State) :
    (s.presentLoops).outputs = { s.outputs with governor := s.stepper.speedRef, excitation := s.stepper.loadRef } := rfl
@[simp] theorem State.presentLoops_pending (s : State) : (s.presentLoops).pending = s.pending := rfl

/-! ## orderOnsets -/

@[simp] theorem State.orderOnsets_now (before s : State) : (before.orderOnsets s).now = s.now := rfl
@[simp] theorem State.orderOnsets_supply (before s : State) : (before.orderOnsets s).supply = s.supply := rfl
@[simp] theorem State.orderOnsets_resetSince (before s : State) :
    (before.orderOnsets s).resetSince = s.resetSince := rfl
@[simp] theorem State.orderOnsets_ports (before s : State) : (before.orderOnsets s).ports = s.ports := rfl
@[simp] theorem State.orderOnsets_arbiter (before s : State) : (before.orderOnsets s).arbiter = s.arbiter := rfl
@[simp] theorem State.orderOnsets_engine (before s : State) : (before.orderOnsets s).engine = s.engine := rfl
@[simp] theorem State.orderOnsets_sequencer (before s : State) : (before.orderOnsets s).sequencer = s.sequencer := rfl
@[simp] theorem State.orderOnsets_stepper (before s : State) : (before.orderOnsets s).stepper = s.stepper := rfl
@[simp] theorem State.orderOnsets_monitor (before s : State) :
    (before.orderOnsets s).monitor =
      { s.monitor with conditions := inChannelOrder before.monitor.conditions s.monitor.conditions } := rfl
@[simp] theorem State.orderOnsets_idle (before s : State) : (before.orderOnsets s).idle = s.idle := rfl
@[simp] theorem State.orderOnsets_store (before s : State) : (before.orderOnsets s).store = s.store := rfl
@[simp] theorem State.orderOnsets_frontEnd (before s : State) : (before.orderOnsets s).frontEnd = s.frontEnd := rfl
@[simp] theorem State.orderOnsets_outputs (before s : State) : (before.orderOnsets s).outputs = s.outputs := rfl
@[simp] theorem State.orderOnsets_pending (before s : State) : (before.orderOnsets s).pending = s.pending := rfl

/-! ## setAlert -/

@[simp] theorem State.setAlert_now (s : State) : (s.setAlert).now = s.now := rfl
@[simp] theorem State.setAlert_supply (s : State) : (s.setAlert).supply = s.supply := rfl
@[simp] theorem State.setAlert_resetSince (s : State) : (s.setAlert).resetSince = s.resetSince := rfl
@[simp] theorem State.setAlert_ports (s : State) : (s.setAlert).ports = s.ports := rfl
@[simp] theorem State.setAlert_arbiter (s : State) : (s.setAlert).arbiter = s.arbiter := rfl
@[simp] theorem State.setAlert_engine (s : State) : (s.setAlert).engine = s.engine := rfl
@[simp] theorem State.setAlert_sequencer (s : State) : (s.setAlert).sequencer = s.sequencer := rfl
@[simp] theorem State.setAlert_stepper (s : State) : (s.setAlert).stepper = s.stepper := rfl
@[simp] theorem State.setAlert_monitor (s : State) : (s.setAlert).monitor = s.monitor := rfl
@[simp] theorem State.setAlert_idle (s : State) : (s.setAlert).idle = s.idle := rfl
@[simp] theorem State.setAlert_store (s : State) : (s.setAlert).store = s.store := rfl
@[simp] theorem State.setAlert_frontEnd (s : State) : (s.setAlert).frontEnd = s.frontEnd := rfl
@[simp] theorem State.setAlert_outputs (s : State) :
    (s.setAlert).outputs = { s.outputs with alert := s.alertLevel } := rfl
@[simp] theorem State.setAlert_pending (s : State) : (s.setAlert).pending = s.pending := rfl

/-! ## withInput -/

@[simp] theorem State.withInput_now (s : State) (i : Input) (v : InputState) : (s.withInput i v).now = s.now := rfl
@[simp] theorem State.withInput_supply (s : State) (i : Input) (v : InputState) :
    (s.withInput i v).supply = s.supply := rfl
@[simp] theorem State.withInput_resetSince (s : State) (i : Input) (v : InputState) :
    (s.withInput i v).resetSince = s.resetSince := rfl
@[simp] theorem State.withInput_ports (s : State) (i : Input) (v : InputState) :
    (s.withInput i v).ports = s.ports := rfl
@[simp] theorem State.withInput_arbiter (s : State) (i : Input) (v : InputState) :
    (s.withInput i v).arbiter = s.arbiter := rfl
@[simp] theorem State.withInput_engine (s : State) (i : Input) (v : InputState) :
    (s.withInput i v).engine = s.engine := rfl
@[simp] theorem State.withInput_sequencer (s : State) (i : Input) (v : InputState) :
    (s.withInput i v).sequencer = s.sequencer := rfl
@[simp] theorem State.withInput_stepper (s : State) (i : Input) (v : InputState) :
    (s.withInput i v).stepper = s.stepper := rfl
@[simp] theorem State.withInput_monitor (s : State) (i : Input) (v : InputState) :
    (s.withInput i v).monitor = s.monitor := rfl
@[simp] theorem State.withInput_idle (s : State) (i : Input) (v : InputState) : (s.withInput i v).idle = s.idle := rfl
@[simp] theorem State.withInput_store (s : State) (i : Input) (v : InputState) :
    (s.withInput i v).store = s.store := rfl
@[simp] theorem State.withInput_frontEnd (s : State) (i : Input) (v : InputState) :
    (s.withInput i v).frontEnd = { s.frontEnd with inputs := s.frontEnd.inputs.set i v } := rfl
@[simp] theorem State.withInput_outputs (s : State) (i : Input) (v : InputState) :
    (s.withInput i v).outputs = s.outputs := rfl
@[simp] theorem State.withInput_pending (s : State) (i : Input) (v : InputState) :
    (s.withInput i v).pending = s.pending := rfl

/-! ## takeScan -/

@[simp] theorem State.takeScan_now (s : State) (raw : PerAnalog Int) : (s.takeScan raw).now = s.now := rfl
@[simp] theorem State.takeScan_supply (s : State) (raw : PerAnalog Int) : (s.takeScan raw).supply = s.supply := rfl
@[simp] theorem State.takeScan_resetSince (s : State) (raw : PerAnalog Int) :
    (s.takeScan raw).resetSince = s.resetSince := rfl
@[simp] theorem State.takeScan_ports (s : State) (raw : PerAnalog Int) : (s.takeScan raw).ports = s.ports := rfl
@[simp] theorem State.takeScan_arbiter (s : State) (raw : PerAnalog Int) : (s.takeScan raw).arbiter = s.arbiter := rfl
@[simp] theorem State.takeScan_engine (s : State) (raw : PerAnalog Int) : (s.takeScan raw).engine = s.engine := rfl
@[simp] theorem State.takeScan_sequencer (s : State) (raw : PerAnalog Int) :
    (s.takeScan raw).sequencer = s.sequencer := rfl
@[simp] theorem State.takeScan_stepper (s : State) (raw : PerAnalog Int) : (s.takeScan raw).stepper = s.stepper := rfl
@[simp] theorem State.takeScan_monitor (s : State) (raw : PerAnalog Int) : (s.takeScan raw).monitor = s.monitor := rfl
@[simp] theorem State.takeScan_idle (s : State) (raw : PerAnalog Int) : (s.takeScan raw).idle = s.idle := rfl
@[simp] theorem State.takeScan_store (s : State) (raw : PerAnalog Int) : (s.takeScan raw).store = s.store := rfl
@[simp] theorem State.takeScan_outputs (s : State) (raw : PerAnalog Int) : (s.takeScan raw).outputs = s.outputs := rfl
@[simp] theorem State.takeScan_pending (s : State) (raw : PerAnalog Int) : (s.takeScan raw).pending = s.pending := rfl

/-! ## countPulses -/

@[simp] theorem State.countPulses_now (s : State) : (s.countPulses).now = s.now := rfl
@[simp] theorem State.countPulses_supply (s : State) : (s.countPulses).supply = s.supply := rfl
@[simp] theorem State.countPulses_resetSince (s : State) : (s.countPulses).resetSince = s.resetSince := rfl
@[simp] theorem State.countPulses_ports (s : State) : (s.countPulses).ports = s.ports := rfl
@[simp] theorem State.countPulses_arbiter (s : State) : (s.countPulses).arbiter = s.arbiter := rfl
@[simp] theorem State.countPulses_engine (s : State) : (s.countPulses).engine = s.engine := rfl
@[simp] theorem State.countPulses_sequencer (s : State) : (s.countPulses).sequencer = s.sequencer := rfl
@[simp] theorem State.countPulses_stepper (s : State) : (s.countPulses).stepper = s.stepper := rfl
@[simp] theorem State.countPulses_monitor (s : State) : (s.countPulses).monitor = s.monitor := rfl
@[simp] theorem State.countPulses_idle (s : State) : (s.countPulses).idle = s.idle := rfl
@[simp] theorem State.countPulses_store (s : State) : (s.countPulses).store = s.store := rfl
@[simp] theorem State.countPulses_outputs (s : State) : (s.countPulses).outputs = s.outputs := rfl
@[simp] theorem State.countPulses_pending (s : State) : (s.countPulses).pending = s.pending := rfl

/-! ## countPulse -/

@[simp] theorem State.countPulse_now (s : State) : (s.countPulse).now = s.now := rfl
@[simp] theorem State.countPulse_supply (s : State) : (s.countPulse).supply = s.supply := rfl
@[simp] theorem State.countPulse_resetSince (s : State) : (s.countPulse).resetSince = s.resetSince := rfl
@[simp] theorem State.countPulse_ports (s : State) : (s.countPulse).ports = s.ports := rfl
@[simp] theorem State.countPulse_arbiter (s : State) : (s.countPulse).arbiter = s.arbiter := rfl
@[simp] theorem State.countPulse_engine (s : State) : (s.countPulse).engine = s.engine := rfl
@[simp] theorem State.countPulse_sequencer (s : State) : (s.countPulse).sequencer = s.sequencer := rfl
@[simp] theorem State.countPulse_stepper (s : State) : (s.countPulse).stepper = s.stepper := rfl
@[simp] theorem State.countPulse_monitor (s : State) : (s.countPulse).monitor = s.monitor := rfl
@[simp] theorem State.countPulse_idle (s : State) : (s.countPulse).idle = s.idle := rfl
@[simp] theorem State.countPulse_store (s : State) : (s.countPulse).store = s.store := rfl
@[simp] theorem State.countPulse_frontEnd (s : State) :
    (s.countPulse).frontEnd = { s.frontEnd with pulses := s.now :: s.frontEnd.pulses } := rfl
@[simp] theorem State.countPulse_outputs (s : State) : (s.countPulse).outputs = s.outputs := rfl
@[simp] theorem State.countPulse_pending (s : State) : (s.countPulse).pending = s.pending := rfl

/-! ## withSettings -/

@[simp] theorem State.withSettings_now (s : State) (v : Settings) : (s.withSettings v).now = s.now := rfl
@[simp] theorem State.withSettings_supply (s : State) (v : Settings) : (s.withSettings v).supply = s.supply := rfl
@[simp] theorem State.withSettings_resetSince (s : State) (v : Settings) :
    (s.withSettings v).resetSince = s.resetSince := rfl
@[simp] theorem State.withSettings_ports (s : State) (v : Settings) : (s.withSettings v).ports = s.ports := rfl
@[simp] theorem State.withSettings_arbiter (s : State) (v : Settings) : (s.withSettings v).arbiter = s.arbiter := rfl
@[simp] theorem State.withSettings_engine (s : State) (v : Settings) : (s.withSettings v).engine = s.engine := rfl
@[simp] theorem State.withSettings_sequencer (s : State) (v : Settings) :
    (s.withSettings v).sequencer = s.sequencer := rfl
@[simp] theorem State.withSettings_stepper (s : State) (v : Settings) : (s.withSettings v).stepper = s.stepper := rfl
@[simp] theorem State.withSettings_monitor (s : State) (v : Settings) : (s.withSettings v).monitor = s.monitor := rfl
@[simp] theorem State.withSettings_idle (s : State) (v : Settings) : (s.withSettings v).idle = s.idle := rfl
@[simp] theorem State.withSettings_store (s : State) (v : Settings) :
    (s.withSettings v).store = { s.store with settings := v } := rfl
@[simp] theorem State.withSettings_frontEnd (s : State) (v : Settings) : (s.withSettings v).frontEnd = s.frontEnd := rfl
@[simp] theorem State.withSettings_outputs (s : State) (v : Settings) : (s.withSettings v).outputs = s.outputs := rfl
@[simp] theorem State.withSettings_pending (s : State) (v : Settings) : (s.withSettings v).pending = s.pending := rfl

/-! ## withPort -/

@[simp] theorem State.withPort_now (s : State) (l : Link) (p : Port) : (s.withPort l p).now = s.now := rfl
@[simp] theorem State.withPort_supply (s : State) (l : Link) (p : Port) : (s.withPort l p).supply = s.supply := rfl
@[simp] theorem State.withPort_resetSince (s : State) (l : Link) (p : Port) :
    (s.withPort l p).resetSince = s.resetSince := rfl
@[simp] theorem State.withPort_ports (s : State) (l : Link) (p : Port) : (s.withPort l p).ports = s.ports.set l p := rfl
@[simp] theorem State.withPort_arbiter (s : State) (l : Link) (p : Port) : (s.withPort l p).arbiter = s.arbiter := rfl
@[simp] theorem State.withPort_engine (s : State) (l : Link) (p : Port) : (s.withPort l p).engine = s.engine := rfl
@[simp] theorem State.withPort_sequencer (s : State) (l : Link) (p : Port) :
    (s.withPort l p).sequencer = s.sequencer := rfl
@[simp] theorem State.withPort_stepper (s : State) (l : Link) (p : Port) : (s.withPort l p).stepper = s.stepper := rfl
@[simp] theorem State.withPort_monitor (s : State) (l : Link) (p : Port) : (s.withPort l p).monitor = s.monitor := rfl
@[simp] theorem State.withPort_idle (s : State) (l : Link) (p : Port) : (s.withPort l p).idle = s.idle := rfl
@[simp] theorem State.withPort_store (s : State) (l : Link) (p : Port) : (s.withPort l p).store = s.store := rfl
@[simp] theorem State.withPort_frontEnd (s : State) (l : Link) (p : Port) :
    (s.withPort l p).frontEnd = s.frontEnd := rfl
@[simp] theorem State.withPort_outputs (s : State) (l : Link) (p : Port) : (s.withPort l p).outputs = s.outputs := rfl
@[simp] theorem State.withPort_pending (s : State) (l : Link) (p : Port) : (s.withPort l p).pending = s.pending := rfl

/-! ## takeReport -/

@[simp] theorem State.takeReport_now (s : State) (l : Link) : (s.takeReport l).now = s.now := rfl
@[simp] theorem State.takeReport_supply (s : State) (l : Link) : (s.takeReport l).supply = s.supply := rfl
@[simp] theorem State.takeReport_resetSince (s : State) (l : Link) : (s.takeReport l).resetSince = s.resetSince := rfl
@[simp] theorem State.takeReport_ports (s : State) (l : Link) :
    (s.takeReport l).ports = s.ports.set l { s.ports.get l with lapseWaiting := false } := rfl
@[simp] theorem State.takeReport_arbiter (s : State) (l : Link) : (s.takeReport l).arbiter = s.arbiter := rfl
@[simp] theorem State.takeReport_engine (s : State) (l : Link) : (s.takeReport l).engine = s.engine := rfl
@[simp] theorem State.takeReport_sequencer (s : State) (l : Link) : (s.takeReport l).sequencer = s.sequencer := rfl
@[simp] theorem State.takeReport_stepper (s : State) (l : Link) : (s.takeReport l).stepper = s.stepper := rfl
@[simp] theorem State.takeReport_monitor (s : State) (l : Link) : (s.takeReport l).monitor = s.monitor := rfl
@[simp] theorem State.takeReport_idle (s : State) (l : Link) : (s.takeReport l).idle = s.idle := rfl
@[simp] theorem State.takeReport_store (s : State) (l : Link) : (s.takeReport l).store = s.store := rfl
@[simp] theorem State.takeReport_frontEnd (s : State) (l : Link) : (s.takeReport l).frontEnd = s.frontEnd := rfl
@[simp] theorem State.takeReport_outputs (s : State) (l : Link) : (s.takeReport l).outputs = s.outputs := rfl
@[simp] theorem State.takeReport_pending (s : State) (l : Link) : (s.takeReport l).pending = s.pending := rfl

/-! ## clearScheduleFault -/

@[simp] theorem State.clearScheduleFault_now (s : State) : (s.clearScheduleFault).now = s.now := rfl
@[simp] theorem State.clearScheduleFault_supply (s : State) : (s.clearScheduleFault).supply = s.supply := rfl
@[simp] theorem State.clearScheduleFault_resetSince (s : State) :
    (s.clearScheduleFault).resetSince = s.resetSince := rfl
@[simp] theorem State.clearScheduleFault_ports (s : State) : (s.clearScheduleFault).ports = s.ports := rfl
@[simp] theorem State.clearScheduleFault_arbiter (s : State) : (s.clearScheduleFault).arbiter = s.arbiter := rfl
@[simp] theorem State.clearScheduleFault_engine (s : State) : (s.clearScheduleFault).engine = s.engine := rfl
@[simp] theorem State.clearScheduleFault_sequencer (s : State) : (s.clearScheduleFault).sequencer = s.sequencer := rfl
@[simp] theorem State.clearScheduleFault_stepper (s : State) : (s.clearScheduleFault).stepper = s.stepper := rfl
@[simp] theorem State.clearScheduleFault_idle (s : State) : (s.clearScheduleFault).idle = s.idle := rfl
@[simp] theorem State.clearScheduleFault_store (s : State) : (s.clearScheduleFault).store = s.store.clearMarks := rfl
@[simp] theorem State.clearScheduleFault_frontEnd (s : State) : (s.clearScheduleFault).frontEnd = s.frontEnd := rfl
@[simp] theorem State.clearScheduleFault_outputs (s : State) : (s.clearScheduleFault).outputs = s.outputs := rfl
@[simp] theorem State.clearScheduleFault_pending (s : State) : (s.clearScheduleFault).pending = s.pending := rfl

end Sys2Proof.Machine
end

