-- ==== Sys2Proof/Laws/Store.lean ====
section
/-! SUPPORT. The calibration words keep their canonical form and read back what was written; lookups stay in their
range; the factory contents are sound. -/

namespace Sys2Proof.Machine

/-! ## The words -/

theorem readWord_consWord_self (i : Nat) (v : Word16) (rest : List (Nat × Word16))
    (h : v = factoryWord i → readWord rest i = factoryWord i) : readWord (consWord i v rest) i = v := by
  unfold consWord
  split
  · rename_i hv; rw [h hv, hv]
  · simp [readWord]

theorem readWord_consWord_ne {i j : Nat} (v : Word16) (rest : List (Nat × Word16)) (h : j ≠ i) :
    readWord (consWord i v rest) j = readWord rest j := by
  unfold consWord
  split
  · rfl
  · simp [readWord, Ne.symm h]

/-- Below the first listed index every word reads as the factory wrote it. -/
theorem readWord_below {low i : Nat} {cells : List (Nat × Word16)} (h : wordsWellFormedFrom low cells = true)
    (hi : i < low) : readWord cells i = factoryWord i := by
  induction cells generalizing low with
  | nil => rfl
  | cons p rest ih =>
    obtain ⟨a, w⟩ := p
    simp only [wordsWellFormedFrom, Bool.and_eq_true, decide_eq_true_eq] at h
    have hne : a ≠ i := by omega
    simp only [readWord, hne, if_false]
    exact ih h.2 (by omega)

/-- A word reads back what was written to it. -/
theorem readWord_writeWord_self {low : Nat} {cells : List (Nat × Word16)} (i : Nat) (v : Word16)
    (h : wordsWellFormedFrom low cells = true) : readWord (writeWord cells i v) i = v := by
  induction cells generalizing low with
  | nil => exact readWord_consWord_self i v [] fun _ => rfl
  | cons p rest ih =>
    obtain ⟨a, w⟩ := p
    have h' := h
    simp only [wordsWellFormedFrom, Bool.and_eq_true, decide_eq_true_eq] at h
    unfold writeWord
    split
    · rename_i hlt
      refine readWord_consWord_self i v _ fun _ => ?_
      have hne : a ≠ i := by omega
      simp only [readWord, hne, if_false]
      exact readWord_below h.2 (by omega)
    · split
      · rename_i heq
        exact readWord_consWord_self i v rest fun _ => readWord_below h.2 (by omega)
      · rename_i hne
        simp only [readWord, Ne.symm hne, if_false]
        exact ih h.2

/-- A write to a word leaves every other word. -/
theorem readWord_writeWord_ne {cells : List (Nat × Word16)} {i j : Nat} (v : Word16) (hne : j ≠ i) :
    readWord (writeWord cells i v) j = readWord cells j := by
  induction cells with
  | nil => exact readWord_consWord_ne v [] hne
  | cons p rest ih =>
    obtain ⟨a, w⟩ := p
    unfold writeWord
    split
    · exact readWord_consWord_ne v _ hne
    · split
      · rename_i heq
        subst heq
        rw [readWord_consWord_ne v rest hne]
        simp [readWord, Ne.symm hne]
      · simp only [readWord, ih]

theorem wordsWellFormedFrom_mono {low low' : Nat} {cells : List (Nat × Word16)} (hle : low' ≤ low)
    (h : wordsWellFormedFrom low cells = true) : wordsWellFormedFrom low' cells = true := by
  cases cells with
  | nil => rfl
  | cons p rest =>
    obtain ⟨a, w⟩ := p
    simp only [wordsWellFormedFrom, Bool.and_eq_true, decide_eq_true_eq] at h ⊢
    exact ⟨⟨by omega, h.1.2⟩, h.2⟩

theorem wordsWellFormedFrom_consWord {low i : Nat} {v : Word16} {rest : List (Nat × Word16)} (hl : low ≤ i)
    (hi : i < 512) (h : wordsWellFormedFrom (i + 1) rest = true) :
    wordsWellFormedFrom low (consWord i v rest) = true := by
  unfold consWord
  split
  · exact wordsWellFormedFrom_mono (by omega) h
  · rename_i hv
    simp only [wordsWellFormedFrom, Bool.and_eq_true, decide_eq_true_eq]
    exact ⟨⟨hl, hi, hv⟩, h⟩

/-- A write keeps the canonical form. -/
theorem wordsWellFormedFrom_writeWord {low i : Nat} {v : Word16} {cells : List (Nat × Word16)} (hl : low ≤ i)
    (hi : i < 512) (h : wordsWellFormedFrom low cells = true) :
    wordsWellFormedFrom low (writeWord cells i v) = true := by
  induction cells generalizing low with
  | nil => exact wordsWellFormedFrom_consWord hl hi rfl
  | cons p rest ih =>
    obtain ⟨a, w⟩ := p
    have h' := h
    simp only [wordsWellFormedFrom, Bool.and_eq_true, decide_eq_true_eq] at h
    unfold writeWord
    split
    · rename_i hlt
      refine wordsWellFormedFrom_consWord hl hi ?_
      simp only [wordsWellFormedFrom, Bool.and_eq_true, decide_eq_true_eq]
      exact ⟨⟨by omega, h.1.2⟩, h.2⟩
    · split
      · rename_i heq
        refine wordsWellFormedFrom_consWord hl hi ?_
        rw [heq]; exact h.2
      · rename_i hnlt hne
        simp only [wordsWellFormedFrom, Bool.and_eq_true, decide_eq_true_eq]
        exact ⟨h.1, ih (by omega) h.2⟩

/-- A write of a word within the store keeps the canonical form of the calibration words. -/
theorem wordsWellFormed_writeWord {i : Nat} {v : Word16} {cells : List (Nat × Word16)} (hi : i < 512)
    (h : wordsWellFormed cells = true) : wordsWellFormed (writeWord cells i v) = true :=
  wordsWellFormedFrom_writeWord (Nat.zero_le i) hi h

theorem wordsWellFormed_reset : wordsWellFormed State.reset.store.words = true := rfl

/-! ## Lookups -/

/-- Every item's clamp range is a range. -/
theorem Lookup.range_le (k : Lookup) : k.range.1 ≤ k.range.2 := by
  obtain ⟨item, row, col⟩ := k
  cases item <;> simp only [Lookup.range] <;> try decide
  unfold thresholdRange
  split <;> decide

/-- A lookup returns a value of its item's range, whatever the store holds (R149, step 4). -/
theorem Store.look_mem (st : Store) (k : Lookup) : k.range.1 ≤ st.look k ∧ st.look k ≤ k.range.2 :=
  ⟨clampInt_ge _ _ _ k.range_le, clampInt_le _ _ _ k.range_le⟩

/-! ## Fault marks -/

/-- A lookup touches neither the words nor the settings, and of the segments only the marks. -/
theorem Store.markFault_words (st : Store) (k : Lookup) : (st.markFault k).words = st.words := by
  unfold Store.markFault; split <;> rfl

theorem Store.markFault_settings (st : Store) (k : Lookup) : (st.markFault k).settings = st.settings := by
  unfold Store.markFault; split <;> rfl

theorem Store.markFault_segment (st : Store) (k : Lookup) (g : SegmentId) :
    ((st.markFault k).segments.get g).base = (st.segments.get g).base ∧
    ((st.markFault k).segments.get g).limit = (st.segments.get g).limit ∧
    ((st.markFault k).segments.get g).stride = (st.segments.get g).stride := by
  unfold Store.markFault
  split
  · by_cases h : g = k.item.segment
    · subst h; simp
    · simp [PerSegment.get_set_ne _ _ h]
  · exact ⟨rfl, rfl, rfl⟩

@[simp] theorem Store.markFaults_words (st : Store) (ks : List Lookup) : (st.markFaults ks).words = st.words := by
  unfold Store.markFaults
  induction ks generalizing st with
  | nil => rfl
  | cons k ks ih => rw [List.foldl_cons, ih, Store.markFault_words]

@[simp] theorem Store.markFaults_settings (st : Store) (ks : List Lookup) :
    (st.markFaults ks).settings = st.settings := by
  unfold Store.markFaults
  induction ks generalizing st with
  | nil => rfl
  | cons k ks ih => rw [List.foldl_cons, ih, Store.markFault_settings]

theorem Store.markFaults_segment (st : Store) (ks : List Lookup) (g : SegmentId) :
    ((st.markFaults ks).segments.get g).base = (st.segments.get g).base ∧
    ((st.markFaults ks).segments.get g).limit = (st.segments.get g).limit ∧
    ((st.markFaults ks).segments.get g).stride = (st.segments.get g).stride := by
  unfold Store.markFaults
  induction ks generalizing st with
  | nil => exact ⟨rfl, rfl, rfl⟩
  | cons k ks ih =>
    rw [List.foldl_cons]
    have h := Store.markFault_segment st k g
    obtain ⟨h1, h2, h3⟩ := ih (st.markFault k)
    exact ⟨h1.trans h.1, h2.trans h.2.1, h3.trans h.2.2⟩

/-- Lookups find the same values in stores that differ in their marks alone. -/
theorem Store.look_markFaults (st : Store) (ks : List Lookup) (k : Lookup) : (st.markFaults ks).look k = st.look k := by
  obtain ⟨h1, h2, h3⟩ := Store.markFaults_segment st ks k.item.segment
  have ho : (st.markFaults ks).offset k = st.offset k := by simp only [Store.offset, h3]
  have hf : (st.markFaults ks).faults k = st.faults k := by simp only [Store.faults, h2, ho]
  have hw (i : Nat) : (st.markFaults ks).word i = st.word i := by simp only [Store.word, Store.markFaults_words]
  unfold Store.look Store.found
  rw [hf, h1, ho, hw]

end Sys2Proof.Machine
end

