-- ==== Sys2Proof/Laws/Frames.lean ====
section
/-! SUPPORT. What no close of an event touches: the clock, the supply, RESET-LINE, the ports, the Front End, the queue of
commands and the contents of the stores. -/

namespace Sys2Proof.Machine

/-- The parts of the state that only an event's own change can move. -/
structure Frame (s t : State) : Prop where
  now : t.now = s.now
  supply : t.supply = s.supply
  resetSince : t.resetSince = s.resetSince
  ports : t.ports = s.ports
  frontEnd : t.frontEnd = s.frontEnd
  pending : t.pending = s.pending
  contents : sameContents s t

theorem sameContents_refl (s : State) : sameContents s s := ⟨rfl, rfl, fun _ => ⟨rfl, rfl, rfl⟩⟩

theorem sameContents_trans {s t u : State} (h : sameContents s t) (k : sameContents t u) : sameContents s u :=
  ⟨k.1.trans h.1, k.2.1.trans h.2.1, fun g =>
    ⟨(k.2.2 g).1.trans (h.2.2 g).1, (k.2.2 g).2.1.trans (h.2.2 g).2.1, (k.2.2 g).2.2.trans (h.2.2 g).2.2⟩⟩

theorem sameContents_of_store {s t : State} (h : t.store = s.store) : sameContents s t := by
  refine ⟨by rw [h], ?_, fun g => by rw [h]; exact ⟨rfl, rfl, rfl⟩⟩
  show t.store.settings = s.store.settings
  rw [h]

theorem Frame.refl (s : State) : Frame s s := ⟨rfl, rfl, rfl, rfl, rfl, rfl, sameContents_refl s⟩

theorem Frame.trans {s t u : State} (h : Frame s t) (k : Frame t u) : Frame s u :=
  ⟨k.now.trans h.now, k.supply.trans h.supply, k.resetSince.trans h.resetSince, k.ports.trans h.ports,
    k.frontEnd.trans h.frontEnd, k.pending.trans h.pending, sameContents_trans h.contents k.contents⟩

/-- A further change of no part of the frame and not of the stores; each equation is rfl at a record update. -/
theorem Frame.upd {u s t : State} (h : Frame u s) (h1 : t.now = s.now) (h2 : t.supply = s.supply)
    (h3 : t.resetSince = s.resetSince) (h4 : t.ports = s.ports) (h5 : t.frontEnd = s.frontEnd)
    (h6 : t.pending = s.pending) (h7 : t.store = s.store) : Frame u t :=
  h.trans ⟨h1, h2, h3, h4, h5, h6, sameContents_of_store h7⟩

/-- In framed states the settings are the same, and so is every scan value and filtered level. -/
theorem Frame.settings {s t : State} (h : Frame s t) : t.settings = s.settings := h.contents.2.1

theorem Frame.reading {s t : State} (h : Frame s t) (c : Analog) : t.reading c = s.reading c := by
  unfold State.reading; rw [h.frontEnd]

theorem Frame.filtered {s t : State} (h : Frame s t) (i : Input) : t.filtered i = s.filtered i := by
  unfold State.filtered; rw [h.frontEnd]

/-- In framed states every lookup finds the same value. -/
theorem Frame.look {s t : State} (h : Frame s t) (k : Lookup) : t.store.look k = s.store.look k := by
  obtain ⟨hw, -, hg⟩ := h.contents
  obtain ⟨h1, h2, h3⟩ := hg k.item.segment
  have ho : t.store.offset k = s.store.offset k := by simp only [Store.offset, h3]
  have hf : t.store.faults k = s.store.faults k := by simp only [Store.faults, h2, ho]
  have hr (i : Nat) : t.store.word i = s.store.word i := by simp only [Store.word, hw]
  unfold Store.look Store.found
  rw [hf, h1, ho, hr]

/-! ## Lookups -/

variable {u s : State}

theorem State.marked_frame (ks : List Lookup) (h : Frame u s) : Frame u (s.marked ks) :=
  h.trans ⟨rfl, rfl, rfl, rfl, rfl, rfl, Store.markFaults_words _ _, Store.markFaults_settings _ _,
    fun g => Store.markFaults_segment _ _ g⟩

theorem State.lookedUp_frame (ks : List Lookup) (h : Frame u s) : Frame u (s.lookedUp ks) :=
  h.trans ⟨rfl, rfl, rfl, rfl, rfl, rfl, Store.markFaults_words _ _, Store.markFaults_settings _ _,
    fun g => Store.markFaults_segment _ _ g⟩

/-! ## The Arbiter -/

theorem State.setTopAside_frame (h : Frame u s) : Frame u s.setTopAside := by
  unfold State.setTopAside
  split
  · exact h
  · exact h.upd rfl rfl rfl rfl rfl rfl rfl

theorem State.pushSource_frame (x : Source) (h : Frame u s) : Frame u (s.pushSource x) :=
  (State.setTopAside_frame h).upd rfl rfl rfl rfl rfl rfl rfl

theorem State.pend_frame (x : Source) (h : Frame u s) : Frame u (s.pend x) := h.upd rfl rfl rfl rfl rfl rfl rfl

theorem State.promote_frame (p : Source) (h : Frame u s) : Frame u (s.promote p) := by
  unfold State.promote
  exact State.pushSource_frame _ (h.upd rfl rfl rfl rfl rfl rfl rfl)

theorem State.resumeHolder_frame (h : Frame u s) : Frame u s.resumeHolder := by
  unfold State.resumeHolder
  split
  · exact State.promote_frame _ h
  · split
    · exact State.promote_frame _ h
    · exact h.upd rfl rfl rfl rfl rfl rfl rfl
  · exact h.upd rfl rfl rfl rfl rfl rfl rfl
  · exact h

theorem State.removeSource_frame (x : Source) (h : Frame u s) : Frame u (s.removeSource x) :=
  h.upd rfl rfl rfl rfl rfl rfl rfl

theorem State.releaseSource_frame (x : Source) (h : Frame u s) : Frame u (s.releaseSource x) := by
  unfold State.releaseSource
  split
  · exact h
  · exact State.removeSource_frame x h
  · exact State.removeSource_frame x h
  · exact State.resumeHolder_frame (State.removeSource_frame x h)

theorem State.protectionClaim_frame (h : Frame u s) : Frame u s.protectionClaim := by
  unfold State.protectionClaim
  split
  · exact h
  · exact State.pushSource_frame _ (h.upd rfl rfl rfl rfl rfl rfl rfl)

theorem State.claimEffect_frame (x : Source) (n : Nat) (h : Frame u s) : Frame u (s.claimEffect x n) := by
  unfold State.claimEffect
  split
  · exact State.pushSource_frame _ (h.upd rfl rfl rfl rfl rfl rfl rfl)
  · split
    · exact State.pushSource_frame _ (h.upd rfl rfl rfl rfl rfl rfl rfl)
    · exact State.pend_frame _ (h.upd rfl rfl rfl rfl rfl rfl rfl)

/-! ## The engine and the start -/

theorem State.enter_frame (st : EngineState) (h : Frame u s) : Frame u (s.enter st) := by
  unfold State.enter
  dsimp only
  split <;> exact h.upd rfl rfl rfl rfl rfl rfl rfl

theorem State.enterRunning_frame (h : Frame u s) : Frame u s.enterRunning := State.enter_frame _ h

theorem State.judgeIsolation_frame (h : Frame u s) : Frame u s.judgeIsolation := by
  unfold State.judgeIsolation
  split_ifs
  · exact State.enter_frame _ h
  · exact State.enter_frame _ h
  · exact h

theorem State.enterRundown_frame (h : Frame u s) : Frame u s.enterRundown :=
  (State.enter_frame .rundown h).upd rfl rfl rfl rfl rfl rfl rfl

theorem State.enterCooldown_frame (h : Frame u s) : Frame u s.enterCooldown :=
  (State.enter_frame .cooldown h).upd rfl rfl rfl rfl rfl rfl rfl

theorem State.withStopKind_frame (k : Option StopKind) (h : Frame u s) : Frame u (s.withStopKind k) :=
  h.upd rfl rfl rfl rfl rfl rfl rfl

theorem State.beginStop_frame (k : StopKind) (h : Frame u s) : Frame u (s.beginStop k) := by
  unfold State.beginStop
  split
  · exact State.enterCooldown_frame (State.withStopKind_frame _ h)
  · exact State.enterRundown_frame (State.withStopKind_frame _ h)

theorem State.endRundown_frame (h : Frame u s) : Frame u s.endRundown := by
  unfold State.endRundown
  split
  · exact (State.enter_frame .laidUp (h.upd (t := (s.dropTimers.withStopKind none).withLayupMark true)
      rfl rfl rfl rfl rfl rfl rfl)).upd rfl rfl rfl rfl rfl rfl rfl
  · exact State.enter_frame _ (h.upd rfl rfl rfl rfl rfl rfl rfl)

theorem State.failedStart_frame (h : Frame u s) : Frame u s.failedStart := by
  unfold State.failedStart
  split
  · exact State.enterRundown_frame (State.withStopKind_frame _ h)
  · exact State.enter_frame _ h

theorem State.enterPhase_frame (p : Phase) (h : Frame u s) : Frame u (s.enterPhase p) :=
  (State.enter_frame (.starting p) h).upd rfl rfl rfl rfl rfl rfl rfl

theorem State.closeStart_frame (o : StartOutcome) (h : Frame u s) : Frame u (s.closeStart o) := by
  unfold State.closeStart
  dsimp only
  split <;> exact h.upd rfl rfl rfl rfl rfl rfl rfl

theorem State.endStart_frame (o : StartOutcome) (h : Frame u s) : Frame u (s.endStart o) := by
  unfold State.endStart
  cases o <;> dsimp only
  case runningReached => exact State.enterRunning_frame (State.closeStart_frame _ h)
  case tripped => exact State.closeStart_frame _ h
  case reset => exact State.closeStart_frame _ h
  case inProgress => exact State.closeStart_frame _ h
  all_goals exact State.failedStart_frame (State.closeStart_frame _ h)

theorem State.enterCrank_frame (h : Frame u s) : Frame u s.enterCrank := by
  unfold State.enterCrank
  exact State.enterPhase_frame _ (h.upd rfl rfl rfl rfl rfl rfl rfl)

theorem State.enterCatch_frame (h : Frame u s) : Frame u s.enterCatch := by
  unfold State.enterCatch
  exact State.enterPhase_frame _ (h.upd rfl rfl rfl rfl rfl rfl rfl)

theorem State.enterRest_frame (h : Frame u s) : Frame u s.enterRest := by
  unfold State.enterRest
  exact State.enterPhase_frame _ (h.upd rfl rfl rfl rfl rfl rfl rfl)

theorem State.enterWarm_frame (h : Frame u s) : Frame u s.enterWarm := by
  unfold State.enterWarm
  exact State.enterPhase_frame _ ((State.lookedUp_frame _ h).upd rfl rfl rfl rfl rfl rfl rfl)

theorem State.prelubeCheck_frame (h : Frame u s) : Frame u s.prelubeCheck := by
  unfold State.prelubeCheck
  split
  · exact State.enterCrank_frame (h.upd rfl rfl rfl rfl rfl rfl rfl)
  · exact State.endStart_frame _ h

theorem State.timePrelube_frame (h : Frame u s) : Frame u s.timePrelube := by
  have hl := State.lookedUp_frame [prelubeLookup (coolantBand (s.reading .coolant))] h
  unfold State.timePrelube
  dsimp only
  split_ifs
  · exact State.prelubeCheck_frame (hl.upd rfl rfl rfl rfl rfl rfl rfl)
  · exact hl.upd rfl rfl rfl rfl rfl rfl rfl
  · exact hl

theorem State.openStart_frame (who : Initiator) (mode : StartMode) (h : Frame u s) :
    Frame u (s.openStart who mode) := by
  unfold State.openStart
  cases mode
  · exact State.enterPhase_frame _ (h.upd rfl rfl rfl rfl rfl rfl rfl)
  · exact State.enterCrank_frame (h.upd rfl rfl rfl rfl rfl rfl rfl)

theorem State.beginFull_frame (who : Initiator) (h : Frame u s) : Frame u (s.beginFull who) :=
  State.timePrelube_frame (State.openStart_frame who .full h)

theorem State.completed_frame (as : List Action) (h : Frame u s) : Frame u (s.completed as) := by
  unfold State.completed
  split
  · exact State.timePrelube_frame h
  · exact h

theorem State.failAttempt_frame (why : AttemptReason) (h : Frame u s) : Frame u (s.failAttempt why) := by
  have ha : Frame u (s.appendAttempt why) := by
    unfold State.appendAttempt
    split
    · exact h.upd rfl rfl rfl rfl rfl rfl rfl
    · exact h
  unfold State.failAttempt
  dsimp only
  split
  · exact State.enterRest_frame ha
  · exact State.endStart_frame _ ha

/-! ## The Monitor -/

theorem State.onset_frame (c : Channel) (h : Frame u s) : Frame u (s.onset c) := by
  unfold State.onset
  split
  · exact h
  · exact h.upd rfl rfl rfl rfl rfl rfl rfl

theorem State.engineTrip_frame (h : Frame u s) : Frame u s.engineTrip := by
  unfold State.engineTrip
  split
  · exact h
  · exact State.endStart_frame _ (State.enter_frame _ (h.upd rfl rfl rfl rfl rfl rfl rfl))
  · exact State.enter_frame _ (h.upd rfl rfl rfl rfl rfl rfl rfl)

theorem State.deliverTrip_frame (h : Frame u s) : Frame u s.deliverTrip :=
  State.protectionClaim_frame (State.engineTrip_frame h)

theorem State.withTrip_frame {onsets : State → State} (h : Frame u (onsets s)) : Frame u (s.withTrip onsets) := by
  unfold State.withTrip
  dsimp only
  split
  · exact State.deliverTrip_frame h
  · exact h

theorem State.arm_frame (c : Channel) (h : Frame u s) : Frame u (s.arm c) := by
  unfold State.arm
  dsimp only
  split
  · exact State.onset_frame _ (h.upd rfl rfl rfl rfl rfl rfl rfl)
  · exact h.upd rfl rfl rfl rfl rfl rfl rfl

theorem State.rearmChannel_frame (st : EngineState) (c : Channel) (h : Frame u s) :
    Frame u (State.rearmChannel st s c) := by
  unfold State.rearmChannel
  split
  · exact State.arm_frame c h
  · split
    · exact h.upd rfl rfl rfl rfl rfl rfl rfl
    · exact h

/-- A fold of framed steps is framed. -/
theorem Frame.foldl {α : Type} {f : State → α → State} (hf : ∀ (s : State) (a : α), Frame u s → Frame u (f s a))
    (l : List α) (h : Frame u s) : Frame u (l.foldl f s) := by
  induction l generalizing s with
  | nil => exact h
  | cons a l ih => exact ih (hf s a h)

theorem State.rearmOnce_frame (h : Frame u s) : Frame u s.rearmOnce := by
  unfold State.rearmOnce
  split
  · exact h
  · split
    · exact h
    · exact State.withTrip_frame (Frame.foldl (fun _ c k => State.rearmChannel_frame _ c k) _ h)

theorem State.rearm_frame (h : Frame u s) : Frame u s.rearm := State.rearmOnce_frame (State.rearmOnce_frame h)

/-! ## The Stepper, the idle reduction, the close -/

theorem State.dropTo_frame (n : Nat) (h : Frame u s) : Frame u (s.dropTo n) := by
  unfold State.dropTo
  split
  · exact h.upd rfl rfl rfl rfl rfl rfl rfl
  · exact State.lookedUp_frame _ (h.upd rfl rfl rfl rfl rfl rfl rfl)

theorem State.formTarget_frame (h : Frame u s) : Frame u s.formTarget := by
  unfold State.formTarget
  dsimp only
  split
  · exact State.dropTo_frame _ (h.upd rfl rfl rfl rfl rfl rfl rfl)
  · exact h.upd rfl rfl rfl rfl rfl rfl rfl

theorem State.formSpeed_frame (h : Frame u s) : Frame u s.formSpeed := by
  unfold State.formSpeed
  dsimp only
  split
  · exact State.lookedUp_frame _ (h.upd rfl rfl rfl rfl rfl rfl rfl)
  · exact h.upd rfl rfl rfl rfl rfl rfl rfl

theorem State.stepperAnnounced_frame (before : State) (h : Frame u s) : Frame u (before.stepperAnnounced s) := by
  unfold State.stepperAnnounced
  dsimp only
  split
  · exact h
  · split
    · exact (State.formSpeed_frame (State.formTarget_frame h)).upd rfl rfl rfl rfl rfl rfl rfl
    · exact (State.formTarget_frame h).upd rfl rfl rfl rfl rfl rfl rfl

theorem State.judgeWake_frame (h : Frame u s) : Frame u s.judgeWake := by
  unfold State.judgeWake State.takeWake
  split_ifs
  · exact State.beginFull_frame _ h
  · exact h
  · exact h

theorem State.orderOnsets_frame (before : State) (h : Frame u s) : Frame u (before.orderOnsets s) :=
  h.upd rfl rfl rfl rfl rfl rfl rfl

/-- The close of an event touches nothing of the frame. -/
theorem State.settle_frame (before : State) (judged : Bool) (h : Frame u s) : Frame u (before.settle judged s) := by
  have hclose : ∀ v : State, Frame u v →
      Frame u (before.judgeIdle (before.stepperAnnounced (before.orderOnsets v)).setAlert) :=
    fun v k => (State.stepperAnnounced_frame before (State.orderOnsets_frame before k)).upd rfl rfl rfl rfl rfl rfl rfl
  unfold State.settle
  dsimp only
  apply hclose
  split
  · exact State.rearm_frame (State.judgeWake_frame (State.rearm_frame h))
  · exact State.rearm_frame h

/-- An event touches nothing of the frame that its own change leaves. -/
theorem State.event_frame (judged : Bool) {change : State → State} (h : Frame u (change s)) :
    Frame u (s.event judged change) := State.settle_frame s judged h

end Sys2Proof.Machine
end

