-- ==== Sys2Proof/Laws/Ops.lean ====
section
/-! SUPPORT. What each shared operation can do, said once: entering an engine state, gaining authority, onset and clearing,
arming, taking an order and answering it. -/

namespace Sys2Proof.Machine

/-! ## Entering a state -/

@[simp] theorem State.enter_engine (s : State) (st : EngineState) :
    (s.enter st).engine = { s.engine with state := some st } := by
  unfold State.enter; dsimp only; split <;> rfl

@[simp] theorem State.enter_outputs (s : State) (st : EngineState) :
    (s.enter st).outputs = { s.outputs with fuelRun := st.fuel } := by
  unfold State.enter; dsimp only; split <;> rfl

@[simp] theorem State.enter_arbiter (s : State) (st : EngineState) : (s.enter st).arbiter = s.arbiter := by
  unfold State.enter; dsimp only; split <;> rfl

@[simp] theorem State.enter_monitor (s : State) (st : EngineState) : (s.enter st).monitor = s.monitor := by
  unfold State.enter; dsimp only; split <;> rfl

@[simp] theorem State.enter_sequencer (s : State) (st : EngineState) : (s.enter st).sequencer = s.sequencer := by
  unfold State.enter; dsimp only; split <;> rfl

@[simp] theorem State.enter_idle (s : State) (st : EngineState) : (s.enter st).idle = s.idle := by
  unfold State.enter; dsimp only; split <;> rfl

@[simp] theorem State.enter_store (s : State) (st : EngineState) : (s.enter st).store = s.store := by
  unfold State.enter; dsimp only; split <;> rfl

/-- Leaving RUNNING unloads the engine; any other entry leaves the Stepper. -/
theorem State.enter_stepper (s : State) (st : EngineState) :
    (s.enter st).stepper =
      if s.engine.state = some .running ∧ st ≠ .running then s.unload.stepper else s.stepper := by
  unfold State.enter; dsimp only; split <;> rfl

/-! ## Authority -/

/-- A gain leaves the request and the permission, and makes the entry HOLDING: MATCHED when the request is at most the
granted notch, else MATCHING with the granted notch as held notch (R8). -/
theorem Entry.gain_spec (e : Entry) (granted : Nat) :
    (e.gain granted).place = .holding ∧ (e.gain granted).request = e.request ∧
      (e.gain granted).permission = e.permission ∧
      ((e.request ≤ granted ∧ (e.gain granted).mtch = some .matched ∧ (e.gain granted).held = none) ∨
        (granted < e.request ∧ (e.gain granted).mtch = some .matching ∧ (e.gain granted).held = some granted)) := by
  unfold Entry.gain
  split
  · exact ⟨rfl, rfl, rfl, .inl ⟨‹_›, rfl, rfl⟩⟩
  · exact ⟨rfl, rfl, rfl, .inr ⟨by omega, rfl, rfl⟩⟩

/-- A push puts the source on top; the engine, the Monitor and the Stepper stand. -/
theorem State.pushSource_stack (s : State) (x : Source) :
    (s.pushSource x).arbiter.stack = x :: s.arbiter.stack ∧ (s.pushSource x).arbiter.waiting = s.arbiter.waiting := by
  unfold State.pushSource State.setTopAside
  split <;> exact ⟨rfl, rfl⟩

/-- The Pending List after an insertion: the sources that the new one does not outrank, it, and the rest (R6). -/
theorem State.insertByRank_eq (s : State) (x : Source) (l : List Source) :
    s.insertByRank x l = l.takeWhile (fun y => !s.outranks x y) ++ x :: l.dropWhile (fun y => !s.outranks x y) := by
  induction l with
  | nil => rfl
  | cons y rest ih =>
    unfold State.insertByRank
    by_cases h : s.outranks x y = true
    · simp [h]
    · simp only [Bool.not_eq_true] at h
      simp [h, ih]

/-! ## Onset, clearing and arming -/

/-- An onset of a listed channel has no effect. -/
theorem State.onset_listed (s : State) (c : Channel) (h : c ∈ s.monitor.conditions) : s.onset c = s := by
  have h' : s.active c = true := by simpa [State.active] using h
  simp [State.onset, h']

/-- An onset of an unlisted channel appends it to the Condition List. -/
theorem State.onset_conditions (s : State) (c : Channel) (h : c ∉ s.monitor.conditions) :
    (s.onset c).monitor.conditions = s.monitor.conditions ++ [c] := by
  have h' : s.active c = false := by simpa [State.active] using h
  simp [State.onset, h']

/-- An onset of a channel that is not of class TRIP leaves the Trip List. -/
theorem State.onset_trips (s : State) (c : Channel) (h : c.cls ≠ .trip) :
    (s.onset c).monitor.trips = s.monitor.trips := by
  unfold State.onset
  split
  · rfl
  · simp [State.tripsAfter, h]

/-- Every channel has its place in the channel order. -/
theorem Channel.mem_order (c : Channel) : c ∈ Channel.order := by cases c <;> decide

/-- Putting an event's onsets in order lists the same channels. -/
@[simp] theorem mem_inChannelOrder (old now : List Channel) (c : Channel) : c ∈ inChannelOrder old now ↔ c ∈ now := by
  simp only [inChannelOrder, List.mem_append, List.mem_filter, Channel.mem_order, true_and, Bool.and_eq_true,
    List.contains_iff_mem, Bool.not_eq_true', ← Bool.not_eq_true]
  tauto

/-- A list that an event only took entries from is left as it is. -/
theorem inChannelOrder_of_subset {old now : List Channel} (h : ∀ c ∈ now, c ∈ old) : inChannelOrder old now = now := by
  have h1 : now.filter (fun c => old.contains c) = now := List.filter_eq_self.mpr fun c hc => by simpa using h c hc
  have h2 : (Channel.order.filter fun c => now.contains c && !old.contains c) = [] :=
    List.filter_eq_nil_iff.mpr fun c _ => by
      simp only [Bool.and_eq_true, List.contains_iff_mem, Bool.not_eq_true', ← Bool.not_eq_true, not_and, not_not]
      exact h c
  unfold inChannelOrder
  rw [h1, h2, List.append_nil]

/-- One onset of an event is appended at the end. -/
theorem inChannelOrder_append (old : List Channel) (c : Channel) (h : c ∉ old) :
    inChannelOrder old (old ++ [c]) = old ++ [c] := by
  have h1 : (old ++ [c]).filter (fun d => old.contains d) = old := by
    rw [List.filter_append, List.filter_eq_self.mpr (fun d hd => by simpa using hd)]
    simp [h]
  have h2 : (Channel.order.filter fun d => (old ++ [c]).contains d && !old.contains d) =
      Channel.order.filter fun d => d == c := by
    apply List.filter_congr
    intro d _
    by_cases hd : d ∈ old
    · have : d ≠ c := fun hc => h (hc ▸ hd)
      simp [hd, this]
    · simp [hd, Bool.beq_eq_decide_eq]
  have h3 : (Channel.order.filter fun d => d == c) = [c] := by cases c <;> decide
  unfold inChannelOrder
  rw [h1, h2, h3]

/-- No channel is listed twice where none was. -/
theorem inChannelOrder_nodup (old : List Channel) {now : List Channel} (h : now.Nodup) : (inChannelOrder old now).Nodup := by
  refine List.Nodup.append (h.filter _) (List.Nodup.filter _ (by decide)) ?_
  intro c h1 h2
  simp only [List.mem_filter, Bool.and_eq_true, Bool.not_eq_true'] at h1 h2
  rw [h1.2] at h2
  exact absurd h2.2.2 (by decide)

/-- Ordering an event's onsets once more changes nothing. -/
theorem inChannelOrder_idem (old now : List Channel) :
    inChannelOrder old (inChannelOrder old now) = inChannelOrder old now := by
  have h2 : (Channel.order.filter fun c => (inChannelOrder old now).contains c && !old.contains c) =
      Channel.order.filter fun c => now.contains c && !old.contains c := by
    apply List.filter_congr
    intro c _
    have : (inChannelOrder old now).contains c = now.contains c := by
      rw [Bool.eq_iff_iff]
      simp
    rw [this]
  have h1 : (inChannelOrder old now).filter (fun c => old.contains c) = now.filter fun c => old.contains c := by
    unfold inChannelOrder
    rw [List.filter_append, List.filter_filter, List.filter_filter]
    have : (Channel.order.filter fun c => (old.contains c) && (now.contains c && !old.contains c)) = [] :=
      List.filter_eq_nil_iff.mpr fun c _ => by cases old.contains c <;> simp
    rw [this, List.append_nil]
    exact List.filter_congr fun c _ => by simp
  show (inChannelOrder old now).filter (fun c => old.contains c) ++ _ = _
  rw [h1, h2]
  rfl

/-- The Condition List at the close of any event: the entries that stood, then its onsets in channel order (R123). -/
theorem State.settle_conditions (before : State) (judged : Bool) (s : State) :
    (before.settle judged s).monitor.conditions =
      inChannelOrder before.monitor.conditions (before.settle judged s).monitor.conditions := by
  have hclose : ∀ v : State, (before.judgeIdle (before.stepperAnnounced (before.orderOnsets v)).setAlert).monitor.conditions =
      inChannelOrder before.monitor.conditions v.monitor.conditions := by
    intro v
    show (before.stepperAnnounced (before.orderOnsets v)).monitor.conditions = _
    unfold State.stepperAnnounced
    dsimp only
    have hl : ∀ (w : State) (ks : List Lookup), (w.lookedUp ks).monitor.conditions = w.monitor.conditions := fun _ _ => rfl
    have hf : ∀ w : State, w.formSpeed.monitor.conditions = w.monitor.conditions := by
      intro w
      unfold State.formSpeed
      dsimp only
      split <;> rfl
    have ht : ∀ w : State, w.formTarget.monitor.conditions = w.monitor.conditions := by
      intro w
      unfold State.formTarget
      dsimp only
      split
      · unfold State.dropTo
        split <;> rfl
      · rfl
    split
    · rfl
    · show (ite _ _ _ : State).monitor.conditions = _
      split
      · rw [hf, ht]; rfl
      · rw [ht]; rfl
  unfold State.settle
  dsimp only
  rw [hclose, inChannelOrder_idem]

/-- A channel already armed as its state asks is left as it is (R122). -/
theorem State.rearmChannel_of_agree (st : EngineState) (s : State) (c : Channel)
    (h : (s.channel c).armed = c.armedIn st) : State.rearmChannel st s c = s := by
  unfold State.rearmChannel
  rw [h]
  cases c.armedIn st <;> simp

/-- With every channel armed as the state asks, re-arming changes nothing. -/
theorem State.rearm_of_armsAgree (s : State) (h : s.armsAgree) : s.rearm = s := by
  have hfold : ∀ (st : EngineState) (l : List Channel), s.engine.state = some st →
      l.foldl (State.rearmChannel st) s = s := by
    intro st l hst
    induction l with
    | nil => rfl
    | cons c l ih =>
      have hc := h c
      rw [hst] at hc
      rw [List.foldl_cons, State.rearmChannel_of_agree st s c hc, ih]
  have honce : s.rearmOnce = s := by
    unfold State.rearmOnce
    split
    · rfl
    · rename_i st hst
      split
      · rfl
      · unfold State.withTrip
        dsimp only
        rw [hfold st _ hst]
        split
        · rename_i hc; exact absurd hc.1 hc.2
        · rfl
  unfold State.rearm
  rw [honce, honce]

/-- Onsets that leave the Trip List, or that find it non-empty, deliver no trip (R127, R128). -/
theorem State.withTrip_quiet (s : State) (onsets : State → State)
    (h : s.monitor.trips ≠ [] ∨ (onsets s).monitor.trips = []) : s.withTrip onsets = onsets s := by
  unfold State.withTrip
  dsimp only
  split
  · rename_i hc
    rcases h with h | h
    · exact absurd hc.1 h
    · exact absurd h hc.2
  · rfl

/-! ## Orders -/

@[simp] theorem State.answer_now (s : State) (l : Link) (b : List Byte) : (s.answer l b).now = s.now := rfl
@[simp] theorem State.answer_arbiter (s : State) (l : Link) (b : List Byte) : (s.answer l b).arbiter = s.arbiter := rfl
@[simp] theorem State.answer_engine (s : State) (l : Link) (b : List Byte) : (s.answer l b).engine = s.engine := rfl
@[simp] theorem State.answer_sequencer (s : State) (l : Link) (b : List Byte) :
    (s.answer l b).sequencer = s.sequencer := rfl
@[simp] theorem State.answer_stepper (s : State) (l : Link) (b : List Byte) : (s.answer l b).stepper = s.stepper := rfl
@[simp] theorem State.answer_monitor (s : State) (l : Link) (b : List Byte) : (s.answer l b).monitor = s.monitor := rfl
@[simp] theorem State.answer_idle (s : State) (l : Link) (b : List Byte) : (s.answer l b).idle = s.idle := rfl
@[simp] theorem State.answer_store (s : State) (l : Link) (b : List Byte) : (s.answer l b).store = s.store := rfl
@[simp] theorem State.answer_frontEnd (s : State) (l : Link) (b : List Byte) :
    (s.answer l b).frontEnd = s.frontEnd := rfl
@[simp] theorem State.answer_outputs (s : State) (l : Link) (b : List Byte) : (s.answer l b).outputs = s.outputs := rfl
@[simp] theorem State.answer_pending (s : State) (l : Link) (b : List Byte) : (s.answer l b).pending = s.pending := rfl

/-- A snapshot reads nothing of the ports, so a reply leaves it. -/
@[simp] theorem State.answer_snapshot (s : State) (l : Link) (b : List Byte) : (s.answer l b).snapshot = s.snapshot := rfl

/-- The order of a link and its parse, when the Order Unit can take it. -/
theorem State.offers_iff (s : State) (l : Link) (as : List Sys2Proof.Action) :
    s.offers l as = true ↔ s.orderUnitOpen = true ∧ s.nextParsed l = some (.actions as) := by
  simp [State.offers]

/-- An order refused at one of its actions. -/
theorem State.takeOrder_refused {s : State} {l : Link} {as : List Sys2Proof.Action} {c : RefusalCode} {index : Nat}
    (h : State.runActions l 1 0 [] as s = .error (c, index)) :
    s.takeOrder l as = s.answer l (s.refusalBody c index) := by
  unfold State.takeOrder; rw [h]

/-- An order accepted whole. -/
theorem State.takeOrder_accepted {s w : State} {l : Link} {as : List Sys2Proof.Action}
    (h : State.runActions l 1 0 [] as s = .ok w) :
    s.takeOrder l as = (s.commit as w).answer l ((s.commit as w).acceptBody l as) := by
  unfold State.takeOrder; rw [h]

/-- An order of one action takes that action's effect on the present state, or its refusal. -/
theorem State.runActions_one (l : Link) (a : Sys2Proof.Action) (s : State) :
    State.runActions l 1 0 [] [a] s =
      match s.doAction l 0 a with
      | .ok w => .ok w
      | .error c => .error (c, 1) := by
  unfold State.runActions
  simp only [List.any_nil, Bool.false_eq_true, if_false]
  cases s.doAction l 0 a <;> rfl

/-- With no FULL start among its actions an order is committed as its last view stands. -/
theorem State.completed_of_no_start {as : List Sys2Proof.Action} (h : as.any Action.startsFull = false) (w : State) :
    w.completed as = w := by
  unfold State.completed; rw [h]; rfl

/-- The completion of a FULL start: the lookup alone out of PRELUBE, else the timer, or the check of a 0 s prelube. -/
theorem State.timePrelube_cases (s : State) :
    let s1 := s.lookedUp [prelubeLookup (coolantBand (s.reading .coolant))]
    let s2 : State := { s1 with sequencer := { s1.sequencer with timer := some (s.now + s.prelubeDuration * 1000) } }
    (s.engine.state ≠ some (.starting .prelube) ∧ s.timePrelube = s1) ∨
    (s.engine.state = some (.starting .prelube) ∧ 1 ≤ s.prelubeDuration ∧ s.timePrelube = s2) ∨
    (s.engine.state = some (.starting .prelube) ∧ s.prelubeDuration = 0 ∧ s.timePrelube = s2.prelubeCheck) := by
  unfold State.timePrelube
  dsimp only
  split_ifs with h hd
  · exact .inr (.inr ⟨h, hd, rfl⟩)
  · exact .inr (.inl ⟨h, Nat.one_le_iff_ne_zero.mpr hd, rfl⟩)
  · exact .inl ⟨h, rfl⟩

/-- The queue keeps its length and its orders when the next one is answered. -/
theorem answerFirst_length (made : Nat) (body : List Byte) (q : List QueuedOrder) :
    (answerFirst made body q).length = q.length := by
  induction q with
  | nil => rfl
  | cons o rest ih =>
    unfold answerFirst
    split
    · rfl
    · simp [ih]

end Sys2Proof.Machine
end

