-- ==== Sys2Proof/WellFormed.lean ====
section
/-! DEFINITION. Which commands are well formed: an order carries at most three actions, the class of the SET_WORD row
is not that of the SET_SETTING row, and a reception brings at least one character. -/

namespace Sys2Proof

/-- An order carries one to three actions (R177), so at most two stand behind the first. -/
def furtherActionsOk (more : List Action) : Bool := more.length ≤ 2

/-- Class 0 of SET belongs to the SET_SETTING row, every other class to the SET_WORD row (R153, assumption 23). -/
def wordClassOk (cls : Byte) : Bool := cls != 0#8

/-- A reception brings at least one character. -/
def charsOk (chars : List RxChar) : Bool := !chars.isEmpty

/-- The well-formedness of a command. -/
def Instr.wellFormed : Instr → Bool
  | .frameReceived _ _ chars => charsOk chars
  | .claim _ _ more => furtherActionsOk more
  | .release _ more => furtherActionsOk more
  | .notch _ _ more => furtherActionsOk more
  | .start _ _ more => furtherActionsOk more
  | .stop _ more => furtherActionsOk more
  | .cancel _ more => furtherActionsOk more
  | .isolate _ _ more => furtherActionsOk more
  | .layup _ _ more => furtherActionsOk more
  | .tripReset _ more => furtherActionsOk more
  | .read _ _ _ more => furtherActionsOk more
  | .setSetting _ _ _ more => furtherActionsOk more
  | .setWord _ cls _ _ more => wordClassOk cls && furtherActionsOk more
  | .segment _ _ _ _ _ more => furtherActionsOk more
  | .powerOn _ _ _ => true
  | .resetLineAssert _ => true
  | .resetLineExit _ _ => true
  | .interByteGap _ => true
  | .frameTransmit _ => true
  | .statusTimerExpiry _ => true
  | .silenceExpiry _ => true
  | .lapse _ => true
  | .sensorScan _ => true
  | .speedMeasurement => true
  | .flywheelPulse _ => true
  | .rawInputEdge _ _ _ => true
  | .filteredLevelChange _ => true
  | .stepperUpdate => true
  | .scheduleFaultOnset => true
  | .prelubeTimerExpiry => true
  | .crankWindowExpiry => true
  | .catchWindowExpiry => true
  | .restTimerExpiry => true
  | .lubeWindowExpiry => true
  | .warmTimerExpiry => true
  | .starterLockoutExpiry => true
  | .prelubeCreditExpiry => true
  | .cooldownExpiry => true
  | .rundownExpiry => true
  | .idleTimerExpiry => true
  | .laidUpEntryJudgement => true
  | .lossOfSupply _ => true
  | .frameSentInFull _ => true
  | .malformedOrder _ => true

end Sys2Proof
end

