-- ==== Sys2Proof/Tests/Slice0.lean ====
section
/-! SUPPORT. Tests: the well-formedness checks, the frame and check arithmetic, the worked figures of the spec, and for
each statement with hypotheses a state and operands that meet all of them. -/

namespace Sys2Proof.Tests

open Sys2Proof.Machine

set_option maxRecDepth 4000
set_option Elab.async false

/-! ## Well-formedness: one ill-formed command for each check -/

theorem test_fourth_action_refused :
    Instr.wellFormed (.stop .cab [.release, .stop, .cancel]) = false ∧
    Instr.wellFormed (.stop .cab [.release, .cancel]) = true := by decide

theorem test_word_row_class_refused :
    Instr.wellFormed (.setWord .shop 0#8 5#16 1#16 []) = false ∧
    Instr.wellFormed (.setWord .shop 1#8 5#16 1#16 []) = true := by decide

theorem test_empty_reception_refused :
    Instr.wellFormed (.frameReceived 0 .cab []) = false ∧
    Instr.wellFormed (.frameReceived 0 .cab [⟨0xA5#8, true⟩]) = true := by decide

/-! ## Bytes and frames -/

/-- The check value the field's well known parameters give for the nine digits. -/
theorem test_check_of_digits :
    checkOf [0x31#8, 0x32#8, 0x33#8, 0x34#8, 0x35#8, 0x36#8, 0x37#8, 0x38#8, 0x39#8] = 0x29B1#16 := by decide +kernel

/-- A BODY written out byte by byte: three actions, CLAIM 0, NOTCH 3, START FULL (section 9.7). -/
theorem test_body_decodes :
    parseOrder [3#8, 1#8, 0#8, 3#8, 3#8, 4#8, 0#8] = .actions [.claim 0#8, .notch 3#8, .start 0#8] := by decide +kernel

/-- A SET of word 131 to 100 and a SEGMENT of NOTCH, written out (section 9.7). -/
theorem test_body_operands :
    parseOrder [2#8, 11#8, 1#8, 0#8, 131#8, 0#8, 100#8, 12#8, 0#8, 0#8, 0#8, 0#8, 36#8, 4#8] =
      .actions [.set 1#8 131#16 100#16, .segment 0#8 0#16 36#16 4#8] := by decide +kernel

/-- R177: an unknown code names its action, a BODY that ends inside one too. -/
theorem test_malformed_indexes :
    parseOrder [2#8, 2#8, 13#8] = .malformed 2 ∧ parseOrder [2#8, 1#8] = .malformed 1 ∧
      parseOrder [2#8, 2#8, 3#8] = .malformed 2 ∧ parseOrder [4#8, 2#8] = .malformed 1 := by decide +kernel

theorem test_no_table_bits : Sys2Proof.decodeTableWord 8 5 = none := rfl

/-- R183: 9 bytes at 57 600 baud take 1.5625 ms, and the longest frame's 66 bytes 11.46 ms. -/
theorem test_line_time : lineTime 9 = 2 ∧ lineTime 66 = 12 := by decide

/-! ## Figures of the spec -/

/-- Section 4.7 and the worked calculation: 690, 880, 850 and an air limit above give 515. -/
theorem test_load_target_worked : loadTargetOf 690 880 850 942 = 515 := by decide

/-- R99's ends. -/
theorem test_bands :
    intakeBand (-50) = 0 ∧ intakeBand 0 = 1 ∧ intakeBand 120 = 7 ∧ baroBand 110 = 0 ∧ baroBand 95 = 0 ∧
      baroBand 94 = 1 ∧ baroBand 50 = 5 := by decide

/-- R57's bands at their edges. -/
theorem test_coolant_bands :
    coolantBand (-31) = 0 ∧ coolantBand (-30) = 1 ∧ coolantBand (-1) = 3 ∧ coolantBand 0 = 4 ∧ coolantBand 49 = 6 ∧
      coolantBand 50 = 7 := by decide

/-- R163: with the default teeth one pulse is 5 rpm and 180 pulses are 900 rpm. -/
theorem test_speed_of_pulses : speedOf 1 120 = 5 ∧ speedOf 180 120 = 900 ∧ speedOf 400 120 = 1500 := by decide

/-- R104, R105: at most RAMP_UP up, RAMP_DOWN down, no rise in the sag hold. -/
theorem test_ramp :
    rampLoad 100 101 2 10 false = 101 ∧ rampLoad 100 200 2 10 false = 102 ∧ rampLoad 100 200 2 10 true = 100 ∧
      rampLoad 100 50 2 10 true = 90 := by decide

/-- R84 and R147: the factory NOTCH segment at notch 6. -/
theorem test_factory_notch :
    Store.factory.scheduledSpeed 6 = 730 ∧ Store.factory.loadCeiling 6 = 690 ∧ Store.factory.stepDwell 6 = 3000 ∧
      Store.factory.speedTolerance 6 = 30 := by decide +kernel

/-- R149 and R150: past a limit cut to 24 the lookup of notch 6 faults and gives the built-in value. -/
theorem test_cut_segment :
    let st : Store := { Store.factory with segments := { PerSegment.factory with notch := ⟨0, 24, 4, false⟩ } }
    st.faults (speedLookup 6) = true ∧ st.faults (speedLookup 5) = false ∧ st.scheduledSpeed 6 = 730 := by
  decide +kernel

/-! ## States for the tests -/

/-- Readings in which nothing is wrong. -/
def calm : PerAnalog Int := ⟨300, 400, 60, 20, 160, 99, 74⟩

/-- The speed reference of a state at notch 0. -/
def idleGovernor : EngineState → Nat
  | .starting .crank => 330
  | .starting .catching => 330
  | .starting .warm => 330
  | .running => 330
  | .isolated => 330
  | .cooldown => 330
  | _ => 0

/-- A Monitor with nothing listed, armed for a state. -/
def quietMonitor (st : EngineState) : Monitor :=
  { Monitor.reset with
    channels := ⟨⟨Channel.overspeed.armedIn st, 0, 0⟩, ⟨Channel.lubeLow.armedIn st, 0, 0⟩,
      ⟨Channel.crankcase.armedIn st, 0, 0⟩, ⟨Channel.fuelCutoff.armedIn st, 0, 0⟩,
      ⟨Channel.coolantLevel.armedIn st, 0, 0⟩, ⟨Channel.coolantHot1.armedIn st, 0, 0⟩,
      ⟨Channel.coolantHot2.armedIn st, 0, 0⟩, ⟨Channel.intakeHot.armedIn st, 0, 0⟩,
      ⟨Channel.groundFault.armedIn st, 0, 0⟩, ⟨Channel.speedSignal.armedIn st, 0, 0⟩,
      ⟨Channel.fuelPressureLow.armedIn st, 0, 0⟩, ⟨Channel.scheduleFault.armedIn st, 0, 0⟩,
      ⟨Channel.batteryLow.armedIn st, 0, 0⟩⟩ }

/-- A start in progress. -/
def startOf (ph : Phase) : StartRecord := ⟨.source .cab, .full, ph, .inProgress, 1, []⟩

/-- A calm part in a chosen engine state, unheld, at 100 s. -/
def chosen (st : EngineState) : State :=
  { State.reset with
    now := 100000
    ports := PerLink.all (Port.fresh 100000 false)
    engine := ⟨some st, false, if st = .cooldown ∨ st = .rundown then some .normal else none, false, st = .laidUp,
      if st = .cooldown then some 100500 else none, if st = .rundown then some 100500 else none⟩
    sequencer :=
      match st with
      | .starting ph => ⟨some 100200, some 5, some 200, some 120, some 15, some false, some (startOf ph), none, none⟩
      | _ => Sequencer.reset
    monitor := quietMonitor st
    stepper := { Stepper.reset 90000 with speedRef := idleGovernor st, nextUpdate := 100050 }
    frontEnd := { State.reset.frontEnd with scan := some calm, nextScan := 100050, nextMeasurement := 100050 }
    outputs := ⟨st = .starting .crank,
      st = .starting .prelube ∨ st = .starting .crank ∨ st = .starting .rest ∨ st = .starting .catching,
      st.fuel, false, idleGovernor st, 0⟩ }

/-- A source holds, MATCHED, with a request. -/
def heldBy (s : State) (x : Source) (n : Nat) : State :=
  { s with arbiter := ⟨(PerSource.all Entry.reset).set x ⟨.holding, n, some .matched, none, .forbid⟩, [x], []⟩ }

/-- The next order of a link has these actions. -/
def asks (s : State) (l : Link) (as : List Sys2Proof.Action) : State :=
  s.withPort l { s.ports.get l with queue := [⟨7#8, encodeOrder as, none⟩] }

/-- The reported speed. -/
def turning (s : State) (rpm : Nat) : State := { s with frontEnd := { s.frontEnd with reported := rpm } }

/-- The settings and words written. -/
def tuned (s : State) (k : Setting) (v : Nat) : State :=
  { s with store := { s.store with settings := s.store.settings.set k v } }

def worded (s : State) (cells : List (Nat × Word16)) : State := { s with store := { s.store with words := cells } }

/-- PRELUBE_TIME cut to its first band. -/
def cutPrelube (s : State) : State :=
  { s with store := { s.store with segments := { s.store.segments with prelubeTime := ⟨96, 1, 1, false⟩ } } }

/-- The scan values. -/
def sensing (s : State) (v : PerAnalog Int) : State := { s with frontEnd := { s.frontEnd with scan := some v } }

/-- A tripped part: CAB suspended beneath PROTECTION. -/
def tripState : State :=
  { chosen .tripped with
    monitor := { quietMonitor .tripped with trips := [⟨.overspeed, some .running⟩] }
    outputs := ⟨false, false, false, true, 0, 0⟩
    arbiter := ⟨((PerSource.all Entry.reset).set .cab ⟨.suspended, 5, none, none, .forbid⟩).set .protection
      ⟨.holding, 0, some .matched, none, .forbid⟩, [.protection, .cab], []⟩ }

/-- RUNNING at notch 2 of 3 under CAB, in tolerance and past the dwell. -/
def atNotchTwo : State :=
  turning { heldBy (chosen .running) .cab 3 with
    stepper := ⟨3, 2, 90000, 410, 150, 150, none, 100050⟩
    outputs := ⟨false, false, true, false, 410, 150⟩ } 410

/-- A timing of an input runs since 99.9 s toward a selected level. -/
def timing (s : State) (i : Input) (selected : Bool) : State :=
  s.withInput i ⟨false, selected, !selected, some 99900⟩

/-- What an outcome of `exec` leaves, for reading a field of it. -/
def after (o : Host.Outcome State Fault Refusal) : State :=
  match o with
  | .next t => t
  | .fault _ => State.reset
  | .refused _ => State.reset

/-! ## Their soundness -/

theorem monitorSound_of {s : State} (st : EngineState) (hm : s.monitor = quietMonitor st)
    (he : s.engine.state = some st) (ha : s.engine.awaitingChoice = false) (ho : s.outputs.alert = false) :
    MonitorSound s where
  armed := fun _ c => by
    unfold State.channel
    rw [hm, he]
    cases c <;> rfl
  waiting := fun h => by rw [ha] at h; cases h
  listed := fun c h => by rw [hm] at h; cases h
  once := by rw [hm]; exact List.nodup_nil
  latch := by rw [hm]; simp [quietMonitor, Monitor.reset]
  alert := by unfold State.alertLevel; rw [hm, ho]; rfl
  onsetCounts := fun c => by
    unfold State.channel
    rw [hm]
    cases c <;> exact Nat.zero_le _
  clearCounts := fun c => by
    unfold State.channel
    rw [hm]
    cases c <;> exact Nat.zero_le _

/-- A state in which the engine matches `chosen st` is sound; the equations are rfl at a state built from it. -/
theorem engineSound_of {s : State} (st : EngineState) (he : s.engine = (chosen st).engine)
    (ho : s.outputs.fuelRun = st.fuel) (h1 : s.outputs.starter = (chosen st).outputs.starter)
    (h2 : s.outputs.prelube = (chosen st).outputs.prelube) (hq : s.sequencer = (chosen st).sequencer)
    (ht : s.monitor.trips = []) (hn : s.resetSince = none) (hr : st.isStarting = false) (hx : (st == .tripped) = false) : EngineSound s := by
  refine ⟨?_, ?_, ?_, ?_, ?_, ?_, ?_, ?_, ?_, ?_, ?_⟩
  · rw [he]; intro h; cases h
  · rw [he]; intro _ h; cases h
  · intro h; exact absurd hn h
  · intro st' _ h
    rw [he] at h
    cases h
    exact ho
  · rw [he, h1]; revert hr hx; cases st <;> simp [chosen, EngineState.isStarting]
  · rw [he, h2]; revert hr hx; cases st <;> simp [chosen, EngineState.isStarting]
  · rw [he]; revert hr hx; cases st <;> simp [chosen, EngineState.isStarting]
  · rw [he]; revert hr hx; cases st <;> simp [chosen, EngineState.isStarting]
  · rw [he]; revert hr hx; cases st <;> simp [chosen, EngineState.isStarting]
  · intro _
    rw [hq]
    revert hr hx
    cases st <;> simp [chosen, EngineState.isStarting, Sequencer.idle, Sequencer.reset]
  · rw [he, ht]; revert hr hx; cases st <;> simp [chosen, EngineState.isStarting]

theorem engineSound_trip {s : State} (he : s.engine = tripState.engine) (ho : s.outputs = tripState.outputs)
    (hq : s.sequencer = tripState.sequencer) (hm : s.monitor = tripState.monitor) (hn : s.resetSince = none) :
    EngineSound s := by
  refine ⟨?_, ?_, ?_, ?_, ?_, ?_, ?_, ?_, ?_, ?_, ?_⟩
  · rw [he]; intro h; cases h
  · rw [he]; intro _ h; cases h
  · intro h; exact absurd hn h
  · intro st' _ h
    rw [he] at h
    cases h
    rw [ho]
    rfl
  all_goals simp [he, ho, hq, hm, tripState, chosen, Sequencer.idle, Sequencer.reset]

theorem storeSound_of {s : State} (hw : wordsWellFormed s.store.words = true) (hg : s.store.segments = PerSegment.factory)
    (hs : s.store.settings = Settings.factory) : StoreSound s where
  words := hw
  segments := fun g => by
    rw [hg]
    unfold SegmentEntry.legal
    cases g <;> decide
  settings := fun k => by
    unfold State.settings
    rw [hs]
    cases k <;> decide
  ranks := fun l m h => by
    unfold State.settings
    rw [hs]
    cases l <;> cases m <;> first | exact absurd rfl h | decide

/-! ## For each statement with hypotheses, a state and operands that meet them -/

theorem witness_ResetLineAssertionKeepsWhatItMust_running :
    ∃ (after : Nat) (s : State),
      s.live = true ∧ s.outputs.governor = s.stepper.speedRef ∧ s.monitor.trips = [] :=
  ⟨0, (chosen .running), by decide +kernel⟩

theorem witness_ResetLineAssertionKeepsWhatItMust_tripped :
    ∃ (after : Nat) (s : State),
      s.live = true ∧ s.outputs.governor = s.stepper.speedRef ∧ s.monitor.trips ≠ [] :=
  ⟨0, tripState, by decide +kernel⟩

theorem witness_ResetLineExitStartsAfresh :
    ∃ (after : Nat) (since : Nat) (raw : PerAnalog Int) (s : State),
      s.supply = true ∧ s.resetSince = some since ∧ since ≤ s.now :=
  ⟨0, 100000, calm, ({ chosen .stopped with resetSince := some 100000 }), by decide +kernel⟩

theorem witness_OrderFrameIsQueued_shortest :
    ∃ (after : Nat) (l : Link) (tag : Byte) (body : List Byte) (s : State),
      s.live = true ∧ 2 ≤ body.length ∧ body.length ≤ 60 ∧ (s.ports.get l).assembler = .hunt ∧
      (s.ports.get l).queue.length < 4 :=
  ⟨0, .cab, 7#8, ([1#8, 5#8]), (chosen .stopped), by decide +kernel⟩

theorem witness_OrderFrameIsQueued_longest :
    ∃ (after : Nat) (l : Link) (tag : Byte) (body : List Byte) (s : State),
      s.live = true ∧ 2 ≤ body.length ∧ body.length ≤ 60 ∧ (s.ports.get l).assembler = .hunt ∧
      (s.ports.get l).queue.length < 4 :=
  ⟨0, .shop, 0#8, (List.replicate 60 0xA5#8), (chosen .stopped), by decide +kernel⟩

theorem witness_FullQueueAndOtherKinds_other_kind :
    ∃ (after : Nat) (l : Link) (kind : Byte) (tag : Byte) (body : List Byte) (head : List Byte) (tail : List Byte) (chars : List RxChar) (s : State),
      s.live = true ∧ 2 ≤ body.length ∧ body.length ≤ 60 ∧ (s.ports.get l).assembler = .hunt ∧
      (kind ≠ kindOrder ∨ 4 ≤ (s.ports.get l).queue.length) ∧ body.length = 2 :=
  ⟨0, .cab, 3#8, 7#8, ([1#8, 5#8]), [], [], [], (chosen .stopped), by decide +kernel⟩

theorem witness_FullQueueAndOtherKinds_answered :
    ∃ (after : Nat) (l : Link) (kind : Byte) (tag : Byte) (body : List Byte) (head : List Byte) (tail : List Byte) (chars : List RxChar) (s : State),
      s.live = true ∧ 2 ≤ body.length ∧ body.length ≤ 60 ∧ (s.ports.get l).assembler = .hunt ∧
      (kind ≠ kindOrder ∨ 4 ≤ (s.ports.get l).queue.length) ∧ kind = kindOrder ∧ (s.ports.get l).fulls.length = 1 :=
  ⟨0, .cab, kindOrder, 7#8, (List.replicate 60 0#8), [], [], [],
    ((chosen .stopped).withPort .cab { Port.fresh 100000 false with queue := List.replicate 4 ⟨1#8, [1#8, 5#8], none⟩, fulls := [⟨1, []⟩] }),
    by decide +kernel⟩

theorem witness_FullQueueAndOtherKinds_discarded :
    ∃ (after : Nat) (l : Link) (kind : Byte) (tag : Byte) (body : List Byte) (head : List Byte) (tail : List Byte) (chars : List RxChar) (s : State),
      s.live = true ∧ 2 ≤ body.length ∧ body.length ≤ 60 ∧ (s.ports.get l).assembler = .hunt ∧
      (kind ≠ kindOrder ∨ 4 ≤ (s.ports.get l).queue.length) ∧ kind = kindOrder ∧ (s.ports.get l).fulls.length = 2 :=
  ⟨0, .cab, kindOrder, 7#8, ([1#8, 5#8]), [], [], [],
    ((chosen .stopped).withPort .cab { Port.fresh 100000 false with queue := List.replicate 4 ⟨1#8, [1#8, 5#8], none⟩, fulls := [⟨1, []⟩, ⟨2, []⟩] }),
    by decide +kernel⟩

theorem witness_FullQueueAndOtherKinds_length_low :
    ∃ (after : Nat) (l : Link) (kind : Byte) (tag : Byte) (body : List Byte) (head : List Byte) (tail : List Byte) (chars : List RxChar) (s : State),
      s.live = true ∧ (s.ports.get l).assembler = .hunt ∧ (kind.toNat < 2 ∨ 60 < kind.toNat) ∧ kind ≠ Config.syncByte :=
  ⟨0, .cab, 1#8, 0#8, [], [], [], [], (chosen .stopped), by decide +kernel⟩

theorem witness_FullQueueAndOtherKinds_length_high :
    ∃ (after : Nat) (l : Link) (kind : Byte) (tag : Byte) (body : List Byte) (head : List Byte) (tail : List Byte) (chars : List RxChar) (s : State),
      s.live = true ∧ (s.ports.get l).assembler = .hunt ∧ (kind.toNat < 2 ∨ 60 < kind.toNat) ∧ kind ≠ Config.syncByte :=
  ⟨0, .cab, 61#8, 0#8, [], [], [], [], (chosen .stopped), by decide +kernel⟩

theorem witness_FullQueueAndOtherKinds_check :
    ∃ (after : Nat) (l : Link) (kind : Byte) (tag : Byte) (body : List Byte) (head : List Byte) (tail : List Byte) (chars : List RxChar) (s : State),
      s.live = true ∧ 2 ≤ body.length ∧ body.length ≤ 60 ∧ (s.ports.get l).assembler = .hunt ∧
      Config.syncByte ∉ kind :: tag :: (body ++ tail) ∧ tail.length = 2 ∧
      tail ≠ be16Word (checkOf (frameFields kind tag body)) :=
  ⟨0, .cab, kindOrder, 7#8, ([1#8, 5#8]), [], ([0#8, 0#8]), [], (chosen .stopped), by decide +kernel⟩

theorem witness_FullQueueAndOtherKinds_check_longest :
    ∃ (after : Nat) (l : Link) (kind : Byte) (tag : Byte) (body : List Byte) (head : List Byte) (tail : List Byte) (chars : List RxChar) (s : State),
      s.live = true ∧ 2 ≤ body.length ∧ body.length ≤ 60 ∧ (s.ports.get l).assembler = .hunt ∧
      Config.syncByte ∉ kind :: tag :: (body ++ tail) ∧ tail.length = 2 ∧
      tail ≠ be16Word (checkOf (frameFields kind tag body)) :=
  ⟨0, .cab, kindOrder, 7#8, (List.replicate 60 0#8), [], ([0#8, 0#8]), [], (chosen .stopped), by decide +kernel⟩

theorem witness_FullQueueAndOtherKinds_no_stop_bit :
    ∃ (after : Nat) (l : Link) (kind : Byte) (tag : Byte) (body : List Byte) (head : List Byte) (tail : List Byte) (chars : List RxChar) (s : State),
      s.live = true ∧ (s.ports.get l).assembler = .frame :=
  ⟨0, .cab, 7#8, 0#8, [], [], [], [],
    ((chosen .stopped).withPort .cab { Port.fresh 100000 false with assembler := .frame, buffer := [⟨4#8, 99999⟩, ⟨1#8, 100000⟩] }),
    by decide +kernel⟩

theorem witness_FullQueueAndOtherKinds_gap :
    ∃ (after : Nat) (l : Link) (kind : Byte) (tag : Byte) (body : List Byte) (head : List Byte) (tail : List Byte) (chars : List RxChar) (s : State),
      s.live = true ∧ (s.ports.get l).assembler = .frame ∧ (s.ports.get l).lastByteAt + 10 < s.now + after ∧
      after = 11 :=
  ⟨11, .cab, 0#8, 0#8, [], [], [], ([⟨0xA5#8, true⟩]),
    ((chosen .stopped).withPort .cab { Port.fresh 100000 false with assembler := .frame, buffer := [⟨4#8, 99999⟩, ⟨1#8, 100000⟩], lastByteAt := 100000 }),
    by decide +kernel⟩

theorem witness_FullQueueAndOtherKinds_fresh_hunt :
    ∃ (after : Nat) (l : Link) (kind : Byte) (tag : Byte) (body : List Byte) (head : List Byte) (tail : List Byte) (chars : List RxChar) (s : State),
      s.live = true ∧ 2 ≤ body.length ∧ body.length ≤ 60 ∧ (s.ports.get l).assembler = .hunt ∧
      (s.ports.get l).queue.length < 4 ∧ Config.syncByte ∉ kind :: (head ++ tail) ∧ 2 ≤ kind.toNat ∧
      kind.toNat ≤ 60 ∧ kind.toNat + 5 = (kind :: (head ++ encodeFrame kindOrder tag body ++ tail)).length ∧
      checkAgrees (kind :: (head ++ encodeFrame kindOrder tag body ++ tail)) = false ∧
      (s.ports.get l).queue.length = 3 :=
  ⟨0, .cab, 8#8, 7#8, ([1#8, 5#8]), ([0#8, 3#8]), ([9#8, 9#8]), [],
    ((chosen .stopped).withPort .cab { Port.fresh 100000 false with queue := List.replicate 3 ⟨1#8, [1#8, 5#8], none⟩ }),
    by decide +kernel⟩

theorem witness_LineSendsTheEarliestAnswer_status :
    ∃ (l : Link) (s : State),
      s.live = true ∧ (s.ports.get l).sending = none ∧ (s.ports.get l).statusDue = true :=
  ⟨.cab, ((chosen .stopped).withPort .cab { Port.fresh 100000 false with statusDue := true }), by decide +kernel⟩

theorem witness_LineSendsTheEarliestAnswer_nothing :
    ∃ (l : Link) (s : State),
      s.live = true ∧ (s.ports.get l).sending = none ∧ (s.ports.get l).statusDue = false ∧
      (s.ports.get l).fulls = [] ∧ headReply (s.ports.get l).queue = none :=
  ⟨.cab, (chosen .stopped), by decide +kernel⟩

theorem witness_LineSendsTheEarliestAnswer_full :
    ∃ (l : Link) (s : State),
      s.live = true ∧ (s.ports.get l).sending = none ∧ (s.ports.get l).fulls.head? = some ⟨4, []⟩ ∧
      headReply (s.ports.get l).queue = some ⟨5, []⟩ :=
  ⟨.cab,
    ((chosen .stopped).withPort .cab { Port.fresh 100000 false with queue := [⟨1#8, [], some ⟨5, []⟩⟩], fulls := [⟨4, []⟩] }),
    by decide +kernel⟩

theorem witness_LineSendsTheEarliestAnswer_reply :
    ∃ (l : Link) (s : State),
      s.live = true ∧ (s.ports.get l).sending = none ∧ (s.ports.get l).fulls.head? = some ⟨4, []⟩ ∧
      headReply (s.ports.get l).queue = some ⟨4, []⟩ :=
  ⟨.cab,
    ((chosen .stopped).withPort .cab { Port.fresh 100000 false with queue := [⟨1#8, [], some ⟨4, []⟩⟩], fulls := [⟨4, []⟩] }),
    by decide +kernel⟩

theorem witness_PortTimersAndTheLine :
    ∃ (l : Link) (f : SendingFrame) (s : State),
      s.live = true ∧ (s.ports.get l).assembler = .frame ∧ (s.ports.get l).sending = some f :=
  ⟨.cab, ⟨.reply, [1#8], 99990⟩,
    ((chosen .stopped).withPort .cab { Port.fresh 100000 false with assembler := .frame, sending := some ⟨.reply, [1#8], 99990⟩ }),
    by decide +kernel⟩

theorem witness_SilenceIsReportedOnce_new :
    ∃ (l : Link) (s : State),
      s.live = true ∧ (s.ports.get l).silent = false :=
  ⟨.cab, (chosen .stopped), by decide +kernel⟩

theorem witness_SilenceIsReportedOnce_reported :
    ∃ (l : Link) (s : State),
      s.live = true ∧ (s.ports.get l).silent = true :=
  ⟨.cab, ((chosen .stopped).withPort .cab { Port.fresh 100000 false with silent := true }), by decide +kernel⟩

theorem witness_LapseActsAsRelease_at_the_limit :
    ∃ (l : Link) (s : State),
      s.live = true ∧ (s.ports.get l).lapseWaiting = true ∧ (s.engine.awaitingChoice = false → s.armsAgree) ∧
      s.now - (s.ports.get l).lastHeard ≤ s.settings.get (silenceSetting l) :=
  ⟨.cab,
    ((heldBy (chosen .stopped) .cab 3).withPort .cab { Port.fresh 100000 false with lapseWaiting := true, silent := true, lastHeard := 98000 }),
    (by decide +kernel), (by decide +kernel), (fun _ c => by cases c <;> decide +kernel), (by decide +kernel)⟩

theorem witness_LapseActsAsRelease_beyond :
    ∃ (l : Link) (s : State),
      s.live = true ∧ (s.ports.get l).lapseWaiting = true ∧ (s.engine.awaitingChoice = false → s.armsAgree) ∧
      s.settings.get (silenceSetting l) < s.now - (s.ports.get l).lastHeard ∧ (s.entry (sourceOf l)).place ≠ .out ∧
      s.engine.state ≠ some .laidUp :=
  ⟨.cab,
    ((heldBy (chosen .stopped) .cab 3).withPort .cab { Port.fresh 100000 false with lapseWaiting := true, silent := true, lastHeard := 97999 }),
    (by decide +kernel), (by decide +kernel), (fun _ c => by cases c <;> decide +kernel), (by decide +kernel),
    (by decide +kernel), (by decide +kernel)⟩

theorem witness_LapseActsAsRelease_out :
    ∃ (l : Link) (s : State),
      s.live = true ∧ (s.ports.get l).lapseWaiting = true ∧ (s.engine.awaitingChoice = false → s.armsAgree) ∧
      (s.entry (sourceOf l)).place = .out :=
  ⟨.cab,
    ((chosen .stopped).withPort .cab { Port.fresh 100000 false with lapseWaiting := true, silent := true, lastHeard := 97999 }),
    (by decide +kernel), (by decide +kernel), (fun _ c => by cases c <;> decide +kernel), (by decide +kernel)⟩

theorem witness_LapseActsAsRelease_wakes :
    ∃ (l : Link) (s : State),
      s.live = true ∧ (s.ports.get l).lapseWaiting = true ∧ (s.engine.awaitingChoice = false → s.armsAgree) ∧
      s.settings.get (silenceSetting l) < s.now - (s.ports.get l).lastHeard ∧ (s.entry (sourceOf l)).place ≠ .out ∧
      s.engine.state = some .laidUp ∧ s.presented ≠ (after (exec (.lapse l) s)).presented ∧
      wakeDue (after (exec (.lapse l) s)) :=
  ⟨.consist,
    (({ chosen .laidUp with arbiter := ⟨(((PerSource.all Entry.reset).set .consist ⟨.holding, 0, some .matched, none, .permit⟩).set .cab ⟨.suspended, 0, none, none, .forbid⟩), [.consist, .cab], []⟩ }).withPort .consist { Port.fresh 100000 false with lapseWaiting := true, silent := true, lastHeard := 0 }),
    (by decide +kernel), (by decide +kernel), (fun _ c => by cases c <;> decide +kernel), (by decide +kernel),
    (by decide +kernel), (by decide +kernel), (by decide +kernel), (by unfold wakeDue; decide +kernel)⟩

theorem witness_LapseActsAsRelease_stays_laid_up :
    ∃ (l : Link) (s : State),
      s.live = true ∧ (s.ports.get l).lapseWaiting = true ∧ (s.engine.awaitingChoice = false → s.armsAgree) ∧
      s.settings.get (silenceSetting l) < s.now - (s.ports.get l).lastHeard ∧ (s.entry (sourceOf l)).place ≠ .out ∧
      s.engine.state = some .laidUp ∧ s.presented ≠ (after (exec (.lapse l) s)).presented ∧
      ¬ wakeDue (after (exec (.lapse l) s)) :=
  ⟨.consist,
    (({ chosen .laidUp with arbiter := ⟨(((PerSource.all Entry.reset).set .consist ⟨.holding, 0, some .matched, none, .permit⟩).set .cab ⟨.suspended, 0, none, none, .permit⟩), [.consist, .cab], []⟩ }).withPort .consist { Port.fresh 100000 false with lapseWaiting := true, silent := true, lastHeard := 0 }),
    (by decide +kernel), (by decide +kernel), (fun _ c => by cases c <;> decide +kernel), (by decide +kernel),
    (by decide +kernel), (by decide +kernel), (by decide +kernel), (by unfold wakeDue; decide +kernel)⟩

theorem witness_LapseActsAsRelease_suspended :
    ∃ (l : Link) (s : State),
      s.live = true ∧ (s.ports.get l).lapseWaiting = true ∧ (s.engine.awaitingChoice = false → s.armsAgree) ∧
      s.settings.get (silenceSetting l) < s.now - (s.ports.get l).lastHeard ∧ (s.entry (sourceOf l)).place ≠ .out ∧
      s.engine.state = some .laidUp ∧ s.presented = (after (exec (.lapse l) s)).presented :=
  ⟨.consist,
    (({ chosen .laidUp with arbiter := ⟨(((PerSource.all Entry.reset).set .cab ⟨.holding, 0, some .matched, none, .permit⟩).set .consist ⟨.suspended, 0, none, none, .permit⟩), [.cab, .consist], []⟩ }).withPort .consist { Port.fresh 100000 false with lapseWaiting := true, silent := true, lastHeard := 0 }),
    (by decide +kernel), (by decide +kernel), (fun _ c => by cases c <;> decide +kernel), (by decide +kernel),
    (by decide +kernel), (by decide +kernel), (by decide +kernel)⟩

theorem witness_LapseActsAsRelease_idle_restarts :
    ∃ (l : Link) (s : State),
      s.live = true ∧ (s.ports.get l).lapseWaiting = true ∧ (s.engine.awaitingChoice = false → s.armsAgree) ∧
      s.settings.get (silenceSetting l) < s.now - (s.ports.get l).lastHeard ∧ (s.entry (sourceOf l)).place ≠ .out ∧
      (after (exec (.lapse l) s)).idleConditions = true ∧ (after (exec (.lapse l) s)).holder ≠ s.holder :=
  ⟨.consist,
    (({ { chosen .running with arbiter := ⟨(((PerSource.all Entry.reset).set .consist ⟨.holding, 0, some .matched, none, .permit⟩).set .cab ⟨.suspended, 0, none, none, .permit⟩), [.consist, .cab], []⟩ } with idle := ⟨some 40000, false⟩ }).withPort .consist { Port.fresh 100000 false with lapseWaiting := true, silent := true, lastHeard := 0 }),
    (by decide +kernel), (by decide +kernel), (fun _ c => by cases c <;> decide +kernel), (by decide +kernel),
    (by decide +kernel), (by decide +kernel), (by decide +kernel)⟩

theorem witness_ClaimTakesOrAwaitsAuthority_unheld :
    ∃ (l : Link) (n : Byte) (s : State),
      s.offers l [.claim n] = true ∧ n.toNat ≤ 8 ∧ s.entry (sourceOf l) = Entry.reset ∧
      (l = .shop → s.atRest = true) ∧ s.armsAgree ∧ (∀ x ∈ s.holder, s.rank (sourceOf l) < s.rank x) ∧
      s.engine.state ≠ some .laidUp :=
  ⟨.shop, 8#8, (asks (chosen .stopped) .shop [.claim 8#8]), (by decide +kernel), (by decide +kernel),
    (by decide +kernel), (by decide +kernel), (fun c => by cases c <;> decide +kernel), (by decide +kernel),
    (by decide +kernel)⟩

theorem witness_ClaimTakesOrAwaitsAuthority_outranks :
    ∃ (l : Link) (n : Byte) (s : State),
      s.offers l [.claim n] = true ∧ n.toNat ≤ 8 ∧ s.entry (sourceOf l) = Entry.reset ∧
      (l = .shop → s.atRest = true) ∧ s.armsAgree ∧ (∀ x ∈ s.holder, s.rank (sourceOf l) < s.rank x) ∧
      s.holder = some .remote :=
  ⟨.shop, 0#8, (asks (heldBy (chosen .running) .remote 3) .shop [.claim 0#8]), (by decide +kernel),
    (by decide +kernel), (by decide +kernel), (by decide +kernel), (fun c => by cases c <;> decide +kernel),
    (by decide +kernel), (by decide +kernel)⟩

theorem witness_ClaimTakesOrAwaitsAuthority_pending :
    ∃ (l : Link) (n : Byte) (s : State),
      s.offers l [.claim n] = true ∧ n.toNat ≤ 8 ∧ s.entry (sourceOf l) = Entry.reset ∧
      (l = .shop → s.atRest = true) ∧ s.armsAgree ∧ ¬ (∀ x ∈ s.holder, s.rank (sourceOf l) < s.rank x) :=
  ⟨.cab, 8#8, (asks (heldBy (chosen .running) .consist 3) .cab [.claim 8#8]), (by decide +kernel),
    (by decide +kernel), (by decide +kernel), (by decide +kernel), (fun c => by cases c <;> decide +kernel),
    (by decide +kernel)⟩

theorem witness_ClaimTakesOrAwaitsAuthority_wakes :
    ∃ (l : Link) (n : Byte) (s : State),
      s.offers l [.claim n] = true ∧ n.toNat ≤ 8 ∧ s.entry (sourceOf l) = Entry.reset ∧
      (l = .shop → s.atRest = true) ∧ s.armsAgree ∧ s.engine.state = some .laidUp ∧
      s.presented ≠ (after (exec (.claim l n []) s)).presented ∧ wakeDue (after (exec (.claim l n []) s)) :=
  ⟨.cab, 0#8, (asks (chosen .laidUp) .cab [.claim 0#8]), (by decide +kernel), (by decide +kernel),
    (by decide +kernel), (by decide +kernel), (fun c => by cases c <;> decide +kernel), (by decide +kernel),
    (by decide +kernel), (by unfold wakeDue; decide +kernel)⟩

theorem witness_ClaimTakesOrAwaitsAuthority_locked_out :
    ∃ (l : Link) (n : Byte) (s : State),
      s.offers l [.claim n] = true ∧ n.toNat ≤ 8 ∧ s.entry (sourceOf l) = Entry.reset ∧
      (l = .shop → s.atRest = true) ∧ s.armsAgree ∧ s.engine.state = some .laidUp ∧
      s.presented ≠ (after (exec (.claim l n []) s)).presented ∧ ¬ wakeDue (after (exec (.claim l n []) s)) :=
  ⟨.cab, 0#8,
    (asks ({ chosen .laidUp with sequencer := { Sequencer.reset with lockoutEnd := some 100001 } }) .cab [.claim 0#8]),
    (by decide +kernel), (by decide +kernel), (by decide +kernel), (by decide +kernel),
    (fun c => by cases c <;> decide +kernel), (by decide +kernel), (by decide +kernel),
    (by unfold wakeDue; decide +kernel)⟩

theorem witness_ClaimTakesOrAwaitsAuthority_pending_laid_up :
    ∃ (l : Link) (n : Byte) (s : State),
      s.offers l [.claim n] = true ∧ n.toNat ≤ 8 ∧ s.entry (sourceOf l) = Entry.reset ∧
      (l = .shop → s.atRest = true) ∧ s.armsAgree ∧ s.engine.state = some .laidUp ∧
      s.presented = (after (exec (.claim l n []) s)).presented :=
  ⟨.cab, 0#8,
    (asks ({ chosen .laidUp with arbiter := ⟨((PerSource.all Entry.reset).set .consist ⟨.holding, 0, some .matched, none, .permit⟩), [.consist], []⟩ }) .cab [.claim 0#8]),
    (by decide +kernel), (by decide +kernel), (by decide +kernel), (by decide +kernel),
    (fun c => by cases c <;> decide +kernel), (by decide +kernel), (by decide +kernel)⟩

theorem witness_ClaimTakesOrAwaitsAuthority_idle_runs_on :
    ∃ (l : Link) (n : Byte) (s : State),
      s.offers l [.claim n] = true ∧ n.toNat ≤ 8 ∧ s.entry (sourceOf l) = Entry.reset ∧
      (l = .shop → s.atRest = true) ∧ s.armsAgree ∧ (after (exec (.claim l n []) s)).idleConditions = true ∧
      (after (exec (.claim l n []) s)).holder = s.holder ∧ s.idle.idleSince = some 40000 :=
  ⟨.cab, 0#8,
    (asks ({ { chosen .running with arbiter := ⟨((PerSource.all Entry.reset).set .consist ⟨.holding, 0, some .matched, none, .permit⟩), [.consist], []⟩ } with idle := ⟨some 40000, false⟩ }) .cab [.claim 0#8]),
    (by decide +kernel), (by decide +kernel), (by decide +kernel), (by decide +kernel),
    (fun c => by cases c <;> decide +kernel), (by decide +kernel), (by decide +kernel), (by decide +kernel)⟩

theorem witness_ClaimTakesOrAwaitsAuthority_idle_stops :
    ∃ (l : Link) (n : Byte) (s : State),
      s.offers l [.claim n] = true ∧ n.toNat ≤ 8 ∧ s.entry (sourceOf l) = Entry.reset ∧
      (l = .shop → s.atRest = true) ∧ s.armsAgree ∧ (after (exec (.claim l n []) s)).idleConditions = false :=
  ⟨.shop, 0#8,
    (asks ({ { chosen .running with arbiter := ⟨((PerSource.all Entry.reset).set .consist ⟨.holding, 0, some .matched, none, .permit⟩), [.consist], []⟩ } with idle := ⟨some 40000, false⟩ }) .shop [.claim 0#8]),
    (by decide +kernel), (by decide +kernel), (by decide +kernel), (by decide +kernel),
    (fun c => by cases c <;> decide +kernel), (by decide +kernel)⟩

theorem witness_ClaimTakesOrAwaitsAuthority_bad_value :
    ∃ (l : Link) (n : Byte) (s : State),
      s.offers l [.claim n] = true ∧ 8 < n.toNat :=
  ⟨.cab, 9#8, (asks (chosen .stopped) .cab [.claim 9#8]), by decide +kernel⟩

theorem witness_ClaimTakesOrAwaitsAuthority_already :
    ∃ (l : Link) (n : Byte) (s : State),
      s.offers l [.claim n] = true ∧ n.toNat ≤ 8 ∧ (s.entry (sourceOf l)).place ≠ .out :=
  ⟨.cab, 8#8, (asks (heldBy (chosen .running) .cab 3) .cab [.claim 8#8]), by decide +kernel⟩

theorem witness_ClaimTakesOrAwaitsAuthority_not_at_rest :
    ∃ (l : Link) (n : Byte) (s : State),
      s.offers l [.claim n] = true ∧ n.toNat ≤ 8 ∧ (s.entry (sourceOf l)).place = .out ∧ l = .shop ∧ s.atRest = false :=
  ⟨.shop, 0#8, (asks (chosen (.starting .prelube)) .shop [.claim 0#8]), by decide +kernel⟩

theorem witness_ReleaseLeavesTheCollections_pending :
    ∃ (l : Link) (s : State),
      s.offers l [.release] = true ∧ (s.entry (sourceOf l)).place ≠ .out ∧ AuthoritySound s ∧ s.armsAgree ∧
      s.holder ≠ some (sourceOf l) :=
  ⟨.cab,
    (asks ({ chosen .running with arbiter := ⟨(((PerSource.all Entry.reset).set .consist ⟨.holding, 3, some .matched, none, .forbid⟩).set .cab ⟨.pending, 1, none, none, .permit⟩), [.consist], [.cab]⟩ }) .cab [.release]),
    (by decide +kernel), (by decide +kernel),
    ⟨fun x => by cases x <;> decide +kernel, fun x => by cases x <;> decide +kernel,
      fun x => by cases x <;> decide +kernel, fun x => by cases x <;> decide +kernel, by decide +kernel,
      by decide +kernel, by decide +kernel, fun x => by cases x <;> decide +kernel, by decide +kernel,
      fun x => by cases x <;> decide +kernel, fun x => by cases x <;> decide +kernel,
      fun x h => by cases x <;> (intro hh; cases hh <;> decide), fun x => by cases x <;> decide +kernel, by decide +kernel⟩,
    (fun c => by cases c <;> decide +kernel), (by decide +kernel)⟩

theorem witness_ReleaseLeavesTheCollections_not_claimed :
    ∃ (l : Link) (s : State),
      s.offers l [.release] = true ∧ (s.entry (sourceOf l)).place = .out :=
  ⟨.remote, (asks (chosen .running) .remote [.release]), by decide +kernel⟩

theorem witness_ReleaseLeavesTheCollections_alone :
    ∃ (l : Link) (s : State),
      s.offers l [.release] = true ∧ (s.entry (sourceOf l)).place ≠ .out ∧ AuthoritySound s ∧ s.armsAgree ∧
      s.holder = some (sourceOf l) ∧ s.arbiter.waiting = [] ∧ s.arbiter.stack.tail = [] :=
  ⟨.cab,
    (asks ({ chosen .running with arbiter := ⟨((PerSource.all Entry.reset).set .cab ⟨.holding, 3, some .matched, none, .forbid⟩), [.cab], []⟩ }) .cab [.release]),
    (by decide +kernel), (by decide +kernel),
    ⟨fun x => by cases x <;> decide +kernel, fun x => by cases x <;> decide +kernel,
      fun x => by cases x <;> decide +kernel, fun x => by cases x <;> decide +kernel, by decide +kernel,
      by decide +kernel, by decide +kernel, fun x => by cases x <;> decide +kernel, by decide +kernel,
      fun x => by cases x <;> decide +kernel, fun x => by cases x <;> decide +kernel,
      fun x h => by cases x <;> (intro hh; cases hh <;> decide), fun x => by cases x <;> decide +kernel, by decide +kernel⟩,
    (fun c => by cases c <;> decide +kernel), (by decide +kernel), (by decide +kernel), (by decide +kernel)⟩

theorem witness_ReleaseLeavesTheCollections_resumes :
    ∃ (l : Link) (s : State),
      s.offers l [.release] = true ∧ (s.entry (sourceOf l)).place ≠ .out ∧ AuthoritySound s ∧ s.armsAgree ∧
      s.holder = some (sourceOf l) ∧ s.arbiter.waiting = [] ∧ s.arbiter.stack.tail = [.cab] :=
  ⟨.consist,
    (asks ({ chosen .running with arbiter := ⟨(((PerSource.all Entry.reset).set .consist ⟨.holding, 3, some .matched, none, .forbid⟩).set .cab ⟨.suspended, 2, none, none, .forbid⟩), [.consist, .cab], []⟩ }) .consist [.release]),
    (by decide +kernel), (by decide +kernel),
    ⟨fun x => by cases x <;> decide +kernel, fun x => by cases x <;> decide +kernel,
      fun x => by cases x <;> decide +kernel, fun x => by cases x <;> decide +kernel, by decide +kernel,
      by decide +kernel, by decide +kernel, fun x => by cases x <;> decide +kernel, by decide +kernel,
      fun x => by cases x <;> decide +kernel, fun x => by cases x <;> decide +kernel,
      fun x h => by cases x <;> (intro hh; cases hh <;> decide), fun x => by cases x <;> decide +kernel, by decide +kernel⟩,
    (fun c => by cases c <;> decide +kernel), (by decide +kernel), (by decide +kernel), (by decide +kernel)⟩

theorem witness_ReleaseLeavesTheCollections_promotes :
    ∃ (l : Link) (s : State),
      s.offers l [.release] = true ∧ (s.entry (sourceOf l)).place ≠ .out ∧ AuthoritySound s ∧ s.armsAgree ∧
      s.holder = some (sourceOf l) ∧ s.arbiter.waiting = [.cab] ∧ s.arbiter.stack.tail = [] :=
  ⟨.shop,
    (asks ({ chosen .running with arbiter := ⟨(((PerSource.all Entry.reset).set .shop ⟨.holding, 3, some .matched, none, .forbid⟩).set .cab ⟨.pending, 1, none, none, .permit⟩), [.shop], [.cab]⟩ }) .shop [.release]),
    (by decide +kernel), (by decide +kernel),
    ⟨fun x => by cases x <;> decide +kernel, fun x => by cases x <;> decide +kernel,
      fun x => by cases x <;> decide +kernel, fun x => by cases x <;> decide +kernel, by decide +kernel,
      by decide +kernel, by decide +kernel, fun x => by cases x <;> decide +kernel, by decide +kernel,
      fun x => by cases x <;> decide +kernel, fun x => by cases x <;> decide +kernel,
      fun x h => by cases x <;> (intro hh; cases hh <;> decide), fun x => by cases x <;> decide +kernel, by decide +kernel⟩,
    (fun c => by cases c <;> decide +kernel), (by decide +kernel), (by decide +kernel), (by decide +kernel)⟩

theorem witness_ReleaseLeavesTheCollections_outranks :
    ∃ (l : Link) (s : State),
      s.offers l [.release] = true ∧ (s.entry (sourceOf l)).place ≠ .out ∧ AuthoritySound s ∧ s.armsAgree ∧
      s.holder = some (sourceOf l) ∧ s.rank .remote < s.rank .consist :=
  ⟨.shop,
    (asks ({ chosen .running with arbiter := ⟨((((PerSource.all Entry.reset).set .shop ⟨.holding, 3, some .matched, none, .forbid⟩).set .consist ⟨.suspended, 2, none, none, .forbid⟩).set .remote ⟨.pending, 1, none, none, .permit⟩), [.shop, .consist], [.remote]⟩ }) .shop [.release]),
    (by decide +kernel), (by decide +kernel),
    ⟨fun x => by cases x <;> decide +kernel, fun x => by cases x <;> decide +kernel,
      fun x => by cases x <;> decide +kernel, fun x => by cases x <;> decide +kernel, by decide +kernel,
      by decide +kernel, by decide +kernel, fun x => by cases x <;> decide +kernel, by decide +kernel,
      fun x => by cases x <;> decide +kernel, fun x => by cases x <;> decide +kernel,
      fun x h => by cases x <;> (intro hh; cases hh <;> decide), fun x => by cases x <;> decide +kernel, by decide +kernel⟩,
    (fun c => by cases c <;> decide +kernel), (by decide +kernel), (by decide +kernel)⟩

theorem witness_ReleaseLeavesTheCollections_outranked :
    ∃ (l : Link) (s : State),
      s.offers l [.release] = true ∧ (s.entry (sourceOf l)).place ≠ .out ∧ AuthoritySound s ∧ s.armsAgree ∧
      s.holder = some (sourceOf l) ∧ ¬ s.rank .cab < s.rank .remote :=
  ⟨.shop,
    (asks ({ chosen .running with arbiter := ⟨((((PerSource.all Entry.reset).set .shop ⟨.holding, 3, some .matched, none, .forbid⟩).set .remote ⟨.suspended, 2, none, none, .forbid⟩).set .cab ⟨.pending, 1, none, none, .permit⟩), [.shop, .remote], [.cab]⟩ }) .shop [.release]),
    (by decide +kernel), (by decide +kernel),
    ⟨fun x => by cases x <;> decide +kernel, fun x => by cases x <;> decide +kernel,
      fun x => by cases x <;> decide +kernel, fun x => by cases x <;> decide +kernel, by decide +kernel,
      by decide +kernel, by decide +kernel, fun x => by cases x <;> decide +kernel, by decide +kernel,
      fun x => by cases x <;> decide +kernel, fun x => by cases x <;> decide +kernel,
      fun x h => by cases x <;> (intro hh; cases hh <;> decide), fun x => by cases x <;> decide +kernel, by decide +kernel⟩,
    (fun c => by cases c <;> decide +kernel), (by decide +kernel), (by decide +kernel)⟩

theorem witness_NotchAndLayupAreStored_matches :
    ∃ (l : Link) (n : Byte) (s : State),
      s.offers l [.notch n] = true ∧ (s.entry (sourceOf l)).place ≠ .out ∧ s.armsAgree ∧ n.toNat ≤ 8 ∧
      ((s.entry (sourceOf l)).mtch = some .matching ∧ n.toNat ≤ (s.entry (sourceOf l)).held.getD 0) :=
  ⟨.cab, 2#8,
    (asks ({ chosen .running with arbiter := ⟨((PerSource.all Entry.reset).set .cab ⟨.holding, 5, some .matching, some 2, .forbid⟩), [.cab], []⟩ }) .cab [.notch 2#8]),
    (by decide +kernel), (by decide +kernel), (fun c => by cases c <;> decide +kernel), (by decide +kernel),
    (by decide +kernel)⟩

theorem witness_NotchAndLayupAreStored_stored :
    ∃ (l : Link) (n : Byte) (s : State),
      s.offers l [.notch n] = true ∧ (s.entry (sourceOf l)).place ≠ .out ∧ s.armsAgree ∧ n.toNat ≤ 8 :=
  ⟨.cab, 8#8, (asks (heldBy (chosen .running) .cab 3) .cab [.notch 8#8]), (by decide +kernel), (by decide +kernel),
    (fun c => by cases c <;> decide +kernel), (by decide +kernel)⟩

theorem witness_NotchAndLayupAreStored_permission :
    ∃ (l : Link) (n : Byte) (s : State),
      s.offers l [.layup n] = true ∧ (s.entry (sourceOf l)).place ≠ .out ∧ s.armsAgree ∧ permissionOf n = some .permit :=
  ⟨.cab, 1#8, (asks (heldBy (chosen .running) .cab 3) .cab [.layup 1#8]), (by decide +kernel), (by decide +kernel),
    (fun c => by cases c <;> decide +kernel), (by decide +kernel)⟩

theorem witness_NotchAndLayupAreStored_notch_bad_value :
    ∃ (l : Link) (n : Byte) (s : State),
      s.offers l [.notch n] = true ∧ 8 < n.toNat :=
  ⟨.cab, 9#8, (asks (heldBy (chosen .running) .cab 3) .cab [.notch 9#8]), by decide +kernel⟩

theorem witness_NotchAndLayupAreStored_notch_not_claimed :
    ∃ (l : Link) (n : Byte) (s : State),
      s.offers l [.notch n] = true ∧ n.toNat ≤ 8 ∧ (s.entry (sourceOf l)).place = .out :=
  ⟨.cab, 1#8, (asks (chosen .running) .cab [.notch 1#8]), by decide +kernel⟩

theorem witness_NotchAndLayupAreStored_layup_bad_value :
    ∃ (l : Link) (n : Byte) (s : State),
      s.offers l [.layup n] = true ∧ 1 < n.toNat :=
  ⟨.cab, 2#8, (asks (heldBy (chosen .running) .cab 3) .cab [.layup 2#8]), by decide +kernel⟩

theorem witness_NotchAndLayupAreStored_layup_not_claimed :
    ∃ (l : Link) (n : Byte) (s : State),
      s.offers l [.layup n] = true ∧ n.toNat ≤ 1 ∧ (s.entry (sourceOf l)).place = .out :=
  ⟨.cab, 1#8, (asks (chosen .running) .cab [.layup 1#8]), by decide +kernel⟩

theorem witness_ReleaseLeavesTheCollections_wakes :
    ∃ (l : Link) (s : State),
      s.offers l [.release] = true ∧ (s.entry (sourceOf l)).place ≠ .out ∧ AuthoritySound s ∧ s.armsAgree ∧
      s.engine.state = some .laidUp ∧ s.presented ≠ (after (exec (.release l []) s)).presented ∧
      wakeDue (after (exec (.release l []) s)) :=
  ⟨.consist,
    (asks ({ chosen .laidUp with arbiter := ⟨(((PerSource.all Entry.reset).set .consist ⟨.holding, 0, some .matched, none, .permit⟩).set .cab ⟨.suspended, 0, none, none, .forbid⟩), [.consist, .cab], []⟩ }) .consist [.release]),
    (by decide +kernel), (by decide +kernel),
    ⟨fun x => by cases x <;> decide +kernel, fun x => by cases x <;> decide +kernel,
      fun x => by cases x <;> decide +kernel, fun x => by cases x <;> decide +kernel, by decide +kernel,
      by decide +kernel, by decide +kernel, fun x => by cases x <;> decide +kernel, by decide +kernel,
      fun x => by cases x <;> decide +kernel, fun x => by cases x <;> decide +kernel,
      fun x h => by cases x <;> (intro hh; cases hh <;> decide), fun x => by cases x <;> decide +kernel, by decide +kernel⟩,
    (fun c => by cases c <;> decide +kernel), (by decide +kernel), (by decide +kernel),
    (by unfold wakeDue; decide +kernel)⟩

theorem witness_ReleaseLeavesTheCollections_stays_laid_up :
    ∃ (l : Link) (s : State),
      s.offers l [.release] = true ∧ (s.entry (sourceOf l)).place ≠ .out ∧ AuthoritySound s ∧ s.armsAgree ∧
      s.engine.state = some .laidUp ∧ s.presented ≠ (after (exec (.release l []) s)).presented ∧
      ¬ wakeDue (after (exec (.release l []) s)) :=
  ⟨.consist,
    (asks ({ chosen .laidUp with arbiter := ⟨(((PerSource.all Entry.reset).set .consist ⟨.holding, 0, some .matched, none, .permit⟩).set .cab ⟨.suspended, 0, none, none, .permit⟩), [.consist, .cab], []⟩ }) .consist [.release]),
    (by decide +kernel), (by decide +kernel),
    ⟨fun x => by cases x <;> decide +kernel, fun x => by cases x <;> decide +kernel,
      fun x => by cases x <;> decide +kernel, fun x => by cases x <;> decide +kernel, by decide +kernel,
      by decide +kernel, by decide +kernel, fun x => by cases x <;> decide +kernel, by decide +kernel,
      fun x => by cases x <;> decide +kernel, fun x => by cases x <;> decide +kernel,
      fun x h => by cases x <;> (intro hh; cases hh <;> decide), fun x => by cases x <;> decide +kernel, by decide +kernel⟩,
    (fun c => by cases c <;> decide +kernel), (by decide +kernel), (by decide +kernel),
    (by unfold wakeDue; decide +kernel)⟩

theorem witness_ReleaseLeavesTheCollections_pending_laid_up :
    ∃ (l : Link) (s : State),
      s.offers l [.release] = true ∧ (s.entry (sourceOf l)).place ≠ .out ∧ AuthoritySound s ∧ s.armsAgree ∧
      s.engine.state = some .laidUp ∧ s.presented = (after (exec (.release l []) s)).presented :=
  ⟨.cab,
    (asks ({ chosen .laidUp with arbiter := ⟨(((PerSource.all Entry.reset).set .consist ⟨.holding, 0, some .matched, none, .permit⟩).set .cab ⟨.pending, 0, none, none, .permit⟩), [.consist], [.cab]⟩ }) .cab [.release]),
    (by decide +kernel), (by decide +kernel),
    ⟨fun x => by cases x <;> decide +kernel, fun x => by cases x <;> decide +kernel,
      fun x => by cases x <;> decide +kernel, fun x => by cases x <;> decide +kernel, by decide +kernel,
      by decide +kernel, by decide +kernel, fun x => by cases x <;> decide +kernel, by decide +kernel,
      fun x => by cases x <;> decide +kernel, fun x => by cases x <;> decide +kernel,
      fun x h => by cases x <;> (intro hh; cases hh <;> decide), fun x => by cases x <;> decide +kernel, by decide +kernel⟩,
    (fun c => by cases c <;> decide +kernel), (by decide +kernel), (by decide +kernel)⟩

theorem witness_ReleaseLeavesTheCollections_idle_restarts :
    ∃ (l : Link) (s : State),
      s.offers l [.release] = true ∧ (s.entry (sourceOf l)).place ≠ .out ∧ AuthoritySound s ∧ s.armsAgree ∧
      (after (exec (.release l []) s)).idleConditions = true ∧ (after (exec (.release l []) s)).holder ≠ s.holder :=
  ⟨.consist,
    (asks ({ { chosen .running with arbiter := ⟨(((PerSource.all Entry.reset).set .consist ⟨.holding, 0, some .matched, none, .permit⟩).set .cab ⟨.suspended, 0, none, none, .permit⟩), [.consist, .cab], []⟩ } with idle := ⟨some 40000, false⟩ }) .consist [.release]),
    (by decide +kernel), (by decide +kernel),
    ⟨fun x => by cases x <;> decide +kernel, fun x => by cases x <;> decide +kernel,
      fun x => by cases x <;> decide +kernel, fun x => by cases x <;> decide +kernel, by decide +kernel,
      by decide +kernel, by decide +kernel, fun x => by cases x <;> decide +kernel, by decide +kernel,
      fun x => by cases x <;> decide +kernel, fun x => by cases x <;> decide +kernel,
      fun x h => by cases x <;> (intro hh; cases hh <;> decide), fun x => by cases x <;> decide +kernel, by decide +kernel⟩,
    (fun c => by cases c <;> decide +kernel), (by decide +kernel), (by decide +kernel)⟩

theorem witness_ReleaseLeavesTheCollections_idle_runs_on :
    ∃ (l : Link) (s : State),
      s.offers l [.release] = true ∧ (s.entry (sourceOf l)).place ≠ .out ∧ AuthoritySound s ∧ s.armsAgree ∧
      (after (exec (.release l []) s)).idleConditions = true ∧ (after (exec (.release l []) s)).holder = s.holder ∧
      s.idle.idleSince = some 40000 :=
  ⟨.cab,
    (asks ({ { chosen .running with arbiter := ⟨(((PerSource.all Entry.reset).set .consist ⟨.holding, 0, some .matched, none, .permit⟩).set .cab ⟨.pending, 0, none, none, .permit⟩), [.consist], [.cab]⟩ } with idle := ⟨some 40000, false⟩ }) .cab [.release]),
    (by decide +kernel), (by decide +kernel),
    ⟨fun x => by cases x <;> decide +kernel, fun x => by cases x <;> decide +kernel,
      fun x => by cases x <;> decide +kernel, fun x => by cases x <;> decide +kernel, by decide +kernel,
      by decide +kernel, by decide +kernel, fun x => by cases x <;> decide +kernel, by decide +kernel,
      fun x => by cases x <;> decide +kernel, fun x => by cases x <;> decide +kernel,
      fun x h => by cases x <;> (intro hh; cases hh <;> decide), fun x => by cases x <;> decide +kernel, by decide +kernel⟩,
    (fun c => by cases c <;> decide +kernel), (by decide +kernel), (by decide +kernel), (by decide +kernel)⟩

theorem witness_ReleaseLeavesTheCollections_idle_stops :
    ∃ (l : Link) (s : State),
      s.offers l [.release] = true ∧ (s.entry (sourceOf l)).place ≠ .out ∧ AuthoritySound s ∧ s.armsAgree ∧
      (after (exec (.release l []) s)).idleConditions = false :=
  ⟨.consist,
    (asks ({ { chosen .running with arbiter := ⟨((PerSource.all Entry.reset).set .consist ⟨.holding, 0, some .matched, none, .permit⟩), [.consist], []⟩ } with idle := ⟨some 40000, false⟩ }) .consist [.release]),
    (by decide +kernel), (by decide +kernel),
    ⟨fun x => by cases x <;> decide +kernel, fun x => by cases x <;> decide +kernel,
      fun x => by cases x <;> decide +kernel, fun x => by cases x <;> decide +kernel, by decide +kernel,
      by decide +kernel, by decide +kernel, fun x => by cases x <;> decide +kernel, by decide +kernel,
      fun x => by cases x <;> decide +kernel, fun x => by cases x <;> decide +kernel,
      fun x h => by cases x <;> (intro hh; cases hh <;> decide), fun x => by cases x <;> decide +kernel, by decide +kernel⟩,
    (fun c => by cases c <;> decide +kernel), (by decide +kernel)⟩

theorem witness_NotchAndLayupAreStored_wakes :
    ∃ (l : Link) (n : Byte) (s : State),
      s.offers l [.notch n] = true ∧ (s.entry (sourceOf l)).place ≠ .out ∧ s.armsAgree ∧ n.toNat ≤ 8 ∧
      s.engine.state = some .laidUp ∧ s.presented ≠ (after (exec (.notch l n []) s)).presented ∧
      wakeDue (after (exec (.notch l n []) s)) :=
  ⟨.cab, 3#8,
    (asks ({ chosen .laidUp with arbiter := ⟨((PerSource.all Entry.reset).set .cab ⟨.holding, 0, some .matched, none, .permit⟩), [.cab], []⟩ }) .cab [.notch 3#8]),
    (by decide +kernel), (by decide +kernel), (fun c => by cases c <;> decide +kernel), (by decide +kernel),
    (by decide +kernel), (by decide +kernel), (by unfold wakeDue; decide +kernel)⟩

theorem witness_NotchAndLayupAreStored_stays_laid_up :
    ∃ (l : Link) (n : Byte) (s : State),
      s.offers l [.notch n] = true ∧ (s.entry (sourceOf l)).place ≠ .out ∧ s.armsAgree ∧ n.toNat ≤ 8 ∧
      s.engine.state = some .laidUp ∧ s.presented = (after (exec (.notch l n []) s)).presented :=
  ⟨.cab, 0#8,
    (asks ({ chosen .laidUp with arbiter := ⟨((PerSource.all Entry.reset).set .cab ⟨.holding, 0, some .matched, none, .permit⟩), [.cab], []⟩ }) .cab [.notch 0#8]),
    (by decide +kernel), (by decide +kernel), (fun c => by cases c <;> decide +kernel), (by decide +kernel),
    (by decide +kernel), (by decide +kernel)⟩

theorem witness_NotchAndLayupAreStored_forbid_wakes :
    ∃ (l : Link) (n : Byte) (s : State),
      s.offers l [.layup n] = true ∧ (s.entry (sourceOf l)).place ≠ .out ∧ s.armsAgree ∧
      permissionOf n = some .forbid ∧ s.engine.state = some .laidUp ∧
      s.presented ≠ (after (exec (.layup l n []) s)).presented ∧ wakeDue (after (exec (.layup l n []) s)) :=
  ⟨.cab, 0#8,
    (asks ({ chosen .laidUp with arbiter := ⟨((PerSource.all Entry.reset).set .cab ⟨.holding, 0, some .matched, none, .permit⟩), [.cab], []⟩ }) .cab [.layup 0#8]),
    (by decide +kernel), (by decide +kernel), (fun c => by cases c <;> decide +kernel), (by decide +kernel),
    (by decide +kernel), (by decide +kernel), (by unfold wakeDue; decide +kernel)⟩

theorem witness_NotchAndLayupAreStored_permit_stays :
    ∃ (l : Link) (n : Byte) (s : State),
      s.offers l [.layup n] = true ∧ (s.entry (sourceOf l)).place ≠ .out ∧ s.armsAgree ∧
      permissionOf n = some .permit ∧ s.engine.state = some .laidUp ∧
      s.presented ≠ (after (exec (.layup l n []) s)).presented ∧ ¬ wakeDue (after (exec (.layup l n []) s)) :=
  ⟨.cab, 1#8,
    (asks ({ chosen .laidUp with arbiter := ⟨((PerSource.all Entry.reset).set .cab ⟨.holding, 0, some .matched, none, .forbid⟩), [.cab], []⟩ }) .cab [.layup 1#8]),
    (by decide +kernel), (by decide +kernel), (fun c => by cases c <;> decide +kernel), (by decide +kernel),
    (by decide +kernel), (by decide +kernel), (by unfold wakeDue; decide +kernel)⟩

theorem witness_NotchAndLayupAreStored_idle_runs_on :
    ∃ (l : Link) (n : Byte) (s : State),
      s.offers l [.notch n] = true ∧ (s.entry (sourceOf l)).place ≠ .out ∧ s.armsAgree ∧ n.toNat ≤ 8 ∧
      (after (exec (.notch l n []) s)).idleConditions = true ∧ (after (exec (.notch l n []) s)).holder = s.holder ∧
      s.idle.idleSince = some 40000 :=
  ⟨.cab, 0#8,
    (asks ({ { chosen .running with arbiter := ⟨((PerSource.all Entry.reset).set .cab ⟨.holding, 0, some .matched, none, .permit⟩), [.cab], []⟩ } with idle := ⟨some 40000, false⟩ }) .cab [.notch 0#8]),
    (by decide +kernel), (by decide +kernel), (fun c => by cases c <;> decide +kernel), (by decide +kernel),
    (by decide +kernel), (by decide +kernel), (by decide +kernel)⟩

theorem witness_NotchAndLayupAreStored_idle_stops :
    ∃ (l : Link) (n : Byte) (s : State),
      s.offers l [.layup n] = true ∧ (s.entry (sourceOf l)).place ≠ .out ∧ s.armsAgree ∧
      permissionOf n = some .forbid ∧ (after (exec (.layup l n []) s)).idleConditions = false :=
  ⟨.cab, 0#8,
    (asks ({ { chosen .running with arbiter := ⟨((PerSource.all Entry.reset).set .cab ⟨.holding, 0, some .matched, none, .permit⟩), [.cab], []⟩ } with idle := ⟨some 40000, false⟩ }) .cab [.layup 0#8]),
    (by decide +kernel), (by decide +kernel), (fun c => by cases c <;> decide +kernel), (by decide +kernel),
    (by decide +kernel)⟩

theorem witness_TripResetReturnsAuthority :
    ∃ (l : Link) (s : State),
      s.offers l [.tripReset] = true ∧ s.engine.state = some .tripped ∧ s.holder = some .protection ∧
      s.monitor.trips ≠ [] ∧ s.mayReset l = true ∧ s.frontEnd.reported < 20 ∧
      (∀ c ∈ s.monitor.conditions, c.cls ≠ .trip) ∧ AuthoritySound s ∧ s.armsAgree ∧ s.successor = some .cab :=
  ⟨.cab, (asks (turning tripState 19) .cab [.tripReset]), (by decide +kernel), (by decide +kernel),
    (by decide +kernel), (by decide +kernel), (by decide +kernel), (by decide +kernel), (by decide +kernel),
    ⟨fun x => by cases x <;> decide +kernel, fun x => by cases x <;> decide +kernel,
      fun x => by cases x <;> decide +kernel, fun x => by cases x <;> decide +kernel, by decide +kernel,
      by decide +kernel, by decide +kernel, fun x => by cases x <;> decide +kernel, by decide +kernel,
      fun x => by cases x <;> decide +kernel, fun x => by cases x <;> decide +kernel,
      fun x h => by cases x <;> (intro hh; cases hh <;> decide), fun x => by cases x <;> decide +kernel, by decide +kernel⟩,
    (fun c => by cases c <;> decide +kernel), (by decide +kernel)⟩

theorem witness_TripResetReturnsAuthority_not_tripped :
    ∃ (l : Link) (s : State),
      s.offers l [.tripReset] = true ∧ s.monitor.trips = [] :=
  ⟨.cab, (asks (chosen .stopped) .cab [.tripReset]), by decide +kernel⟩

theorem witness_TripResetReturnsAuthority_not_successor :
    ∃ (l : Link) (s : State),
      s.offers l [.tripReset] = true ∧ s.monitor.trips ≠ [] ∧ s.successor ≠ some (sourceOf l) ∧
      (¬ (l = .shop ∧ (.shop ∈ s.arbiter.stack ∨ .shop ∈ s.arbiter.waiting))) :=
  ⟨.shop, (asks (turning tripState 19) .shop [.tripReset]), by decide +kernel⟩

theorem witness_TripResetReturnsAuthority_rotating :
    ∃ (l : Link) (s : State),
      s.offers l [.tripReset] = true ∧ s.monitor.trips ≠ [] ∧ s.mayReset l = true ∧ 20 ≤ s.frontEnd.reported :=
  ⟨.cab, (asks (turning tripState 20) .cab [.tripReset]), by decide +kernel⟩

theorem witness_TripResetReturnsAuthority_trip_active :
    ∃ (l : Link) (s : State),
      s.offers l [.tripReset] = true ∧ s.monitor.trips ≠ [] ∧ s.mayReset l = true ∧ s.frontEnd.reported < 20 ∧
      (∃ c ∈ s.monitor.conditions, c.cls = .trip) :=
  ⟨.cab,
    (asks ({ turning tripState 19 with monitor := { tripState.monitor with conditions := [.overspeed] } }) .cab [.tripReset]),
    by decide +kernel⟩

theorem witness_StartEntersItsFirstPhase_full :
    ∃ (l : Link) (m : Byte) (mode : StartMode) (s : State),
      s.offers l [.start m] = true ∧ startModeOf m = some mode ∧ s.holds l = true ∧ s.startRefusal mode = none ∧
      (s.engine.state = some .stopped ∨ s.engine.state = some .laidUp) ∧ s.armsAgree ∧ StepperSound s ∧
      1 ≤ s.prelubeDuration :=
  ⟨.cab, 0#8, .full, (asks (heldBy (turning (chosen .stopped) 19) .cab 0) .cab [.start 0#8]), (by decide +kernel),
    (by decide +kernel), (by decide +kernel), (by decide +kernel), (by decide +kernel),
    (fun c => by cases c <;> decide +kernel),
    ⟨by decide +kernel, by decide +kernel, by decide +kernel, by decide +kernel, by decide +kernel, by decide +kernel,
      by decide +kernel, by decide +kernel, by decide +kernel⟩,
    (by decide +kernel)⟩

theorem witness_StartEntersItsFirstPhase_skip :
    ∃ (l : Link) (m : Byte) (mode : StartMode) (s : State),
      s.offers l [.start m] = true ∧ startModeOf m = some mode ∧ s.holds l = true ∧ s.startRefusal mode = none ∧
      (s.engine.state = some .stopped ∨ s.engine.state = some .laidUp) ∧ s.armsAgree ∧ StepperSound s ∧
      mode = .skipPrelube :=
  ⟨.cab, 1#8, .skipPrelube,
    (asks (heldBy ({ chosen .laidUp with sequencer := { Sequencer.reset with creditEnd := some 100001 } }) .cab 0) .cab [.start 1#8]),
    (by decide +kernel), (by decide +kernel), (by decide +kernel), (by decide +kernel), (by decide +kernel),
    (fun c => by cases c <;> decide +kernel),
    ⟨by decide +kernel, by decide +kernel, by decide +kernel, by decide +kernel, by decide +kernel, by decide +kernel,
      by decide +kernel, by decide +kernel, by decide +kernel⟩,
    (by decide +kernel)⟩

theorem witness_StartEntersItsFirstPhase_no_prelube :
    ∃ (l : Link) (m : Byte) (mode : StartMode) (s : State),
      s.offers l [.start m] = true ∧ startModeOf m = some mode ∧ s.holds l = true ∧ s.startRefusal mode = none ∧
      (s.engine.state = some .stopped ∨ s.engine.state = some .laidUp) ∧ s.armsAgree ∧ StepperSound s ∧
      s.prelubeDuration = 0 ∧ 30 ≤ s.reading .lube :=
  ⟨.cab, 0#8, .full,
    (asks (heldBy (sensing (worded (chosen .stopped) [(103, 0#16)]) { calm with lube := 30 }) .cab 0) .cab [.start 0#8]),
    (by decide +kernel), (by decide +kernel), (by decide +kernel), (by decide +kernel), (by decide +kernel),
    (fun c => by cases c <;> decide +kernel),
    ⟨by decide +kernel, by decide +kernel, by decide +kernel, by decide +kernel, by decide +kernel, by decide +kernel,
      by decide +kernel, by decide +kernel, by decide +kernel⟩,
    (by decide +kernel), (by decide +kernel)⟩

theorem witness_StartEntersItsFirstPhase_no_pressure :
    ∃ (l : Link) (m : Byte) (mode : StartMode) (s : State),
      s.offers l [.start m] = true ∧ startModeOf m = some mode ∧ s.holds l = true ∧ s.startRefusal mode = none ∧
      (s.engine.state = some .stopped ∨ s.engine.state = some .laidUp) ∧ s.armsAgree ∧ StepperSound s ∧
      s.prelubeDuration = 0 ∧ s.reading .lube < 30 :=
  ⟨.cab, 0#8, .full,
    (asks (heldBy (sensing (worded (chosen .stopped) [(103, 0#16)]) { calm with lube := 29 }) .cab 0) .cab [.start 0#8]),
    (by decide +kernel), (by decide +kernel), (by decide +kernel), (by decide +kernel), (by decide +kernel),
    (fun c => by cases c <;> decide +kernel),
    ⟨by decide +kernel, by decide +kernel, by decide +kernel, by decide +kernel, by decide +kernel, by decide +kernel,
      by decide +kernel, by decide +kernel, by decide +kernel⟩,
    (by decide +kernel), (by decide +kernel)⟩

theorem witness_StartIsRefusedInOrder_lockout :
    ∃ (l : Link) (m : Byte) (mode : StartMode) (s : State),
      s.offers l [.start m] = true ∧ startModeOf m = some mode ∧ s.holds l = true ∧
      s.sequencer.lockoutEnd.isSome = true :=
  ⟨.cab, 0#8, .full,
    (asks (heldBy ({ chosen .running with sequencer := { Sequencer.reset with lockoutEnd := some 100001 } }) .cab 0) .cab [.start 0#8]),
    by decide +kernel⟩

theorem witness_StartIsRefusedInOrder_starting :
    ∃ (l : Link) (m : Byte) (mode : StartMode) (s : State),
      s.offers l [.start m] = true ∧ startModeOf m = some mode ∧ s.holds l = true ∧ s.sequencer.lockoutEnd = none ∧
      (∃ p : Phase, s.engine.state = some (.starting p)) :=
  ⟨.cab, 0#8, .full, (asks (heldBy (chosen (.starting .crank)) .cab 0) .cab [.start 0#8]), (by decide +kernel),
    (by decide +kernel), (by decide +kernel), (by decide +kernel), ⟨.crank, rfl⟩⟩

theorem witness_StartIsRefusedInOrder_running :
    ∃ (l : Link) (m : Byte) (mode : StartMode) (s : State),
      s.offers l [.start m] = true ∧ startModeOf m = some mode ∧ s.holds l = true ∧ s.sequencer.lockoutEnd = none ∧
      (s.engine.state = some .running ∨ s.engine.state = some .isolated) :=
  ⟨.cab, 0#8, .full, (asks (heldBy (chosen .running) .cab 0) .cab [.start 0#8]), by decide +kernel⟩

theorem witness_StartIsRefusedInOrder_stopping :
    ∃ (l : Link) (m : Byte) (mode : StartMode) (s : State),
      s.offers l [.start m] = true ∧ startModeOf m = some mode ∧ s.holds l = true ∧ s.sequencer.lockoutEnd = none ∧
      (s.engine.state = some .cooldown ∨ s.engine.state = some .rundown) :=
  ⟨.cab, 0#8, .full, (asks (heldBy (chosen .cooldown) .cab 0) .cab [.start 0#8]), by decide +kernel⟩

theorem witness_StartIsRefusedInOrder_tripped :
    ∃ (l : Link) (m : Byte) (mode : StartMode) (s : State),
      s.offers l [.start m] = true ∧ startModeOf m = some mode ∧ s.holds l = true ∧ s.sequencer.lockoutEnd = none ∧
      s.engine.state = some .tripped :=
  ⟨.cab, 0#8, .full, (asks (heldBy (chosen .tripped) .cab 0) .cab [.start 0#8]), by decide +kernel⟩

theorem witness_StartIsRefusedInOrder_rotating :
    ∃ (l : Link) (m : Byte) (mode : StartMode) (s : State),
      s.offers l [.start m] = true ∧ startModeOf m = some mode ∧ s.holds l = true ∧ s.sequencer.lockoutEnd = none ∧
      (s.engine.state = some .stopped ∨ s.engine.state = some .laidUp) ∧ 20 ≤ s.frontEnd.reported :=
  ⟨.cab, 0#8, .full, (asks (heldBy (turning (chosen .stopped) 20) .cab 0) .cab [.start 0#8]), by decide +kernel⟩

theorem witness_StartIsRefusedInOrder_no_credit :
    ∃ (l : Link) (m : Byte) (mode : StartMode) (s : State),
      s.offers l [.start m] = true ∧ startModeOf m = some mode ∧ s.holds l = true ∧ s.sequencer.lockoutEnd = none ∧
      (s.engine.state = some .stopped ∨ s.engine.state = some .laidUp) ∧ s.frontEnd.reported < 20 ∧
      mode = .skipPrelube ∧ s.sequencer.creditEnd = none :=
  ⟨.cab, 1#8, .skipPrelube, (asks (heldBy (turning (chosen .stopped) 19) .cab 0) .cab [.start 1#8]),
    by decide +kernel⟩

theorem witness_StartIsRefusedInOrder_accepted :
    ∃ (l : Link) (m : Byte) (mode : StartMode) (s : State),
      s.offers l [.start m] = true ∧ startModeOf m = some mode ∧ s.holds l = true ∧ s.sequencer.lockoutEnd = none ∧
      (s.engine.state = some .stopped ∨ s.engine.state = some .laidUp) ∧ s.frontEnd.reported < 20 ∧
      (mode = .skipPrelube → s.sequencer.creditEnd.isSome = true) :=
  ⟨.cab, 0#8, .full, (asks (heldBy (turning (chosen .laidUp) 19) .cab 0) .cab [.start 0#8]), by decide +kernel⟩

theorem witness_StopBeginsTheStop_cooldown :
    ∃ (l : Link) (s : State),
      s.offers l [.stop] = true ∧ s.holds l = true ∧
      (s.runs = true ∨ s.engine.state = some .cooldown ∨ s.engine.state = some .rundown ∨ s.engine.state = some .laidUp) ∧
      MonitorSound s ∧ s.runs = true ∧ 1 ≤ s.settings.cooldownTime ∧ s.settings.cooldownTime = 1 :=
  ⟨.cab, (asks (heldBy (tuned (chosen .running) .cooldownTime 1) .cab 0) .cab [.stop]), (by decide +kernel),
    (by decide +kernel), (by decide +kernel), (monitorSound_of (.running) rfl rfl rfl rfl), (by decide +kernel),
    (by decide +kernel), (by decide +kernel)⟩

theorem witness_StopBeginsTheStop_rundown :
    ∃ (l : Link) (s : State),
      s.offers l [.stop] = true ∧ s.holds l = true ∧
      (s.runs = true ∨ s.engine.state = some .cooldown ∨ s.engine.state = some .rundown ∨ s.engine.state = some .laidUp) ∧
      MonitorSound s ∧ s.runs = true ∧ s.settings.cooldownTime = 0 :=
  ⟨.cab, (asks (heldBy (tuned (chosen .isolated) .cooldownTime 0) .cab 0) .cab [.stop]), (by decide +kernel),
    (by decide +kernel), (by decide +kernel), (monitorSound_of (.isolated) rfl rfl rfl rfl), (by decide +kernel),
    (by decide +kernel)⟩

theorem witness_StopBeginsTheStop_stopping :
    ∃ (l : Link) (s : State),
      s.offers l [.stop] = true ∧ s.holds l = true ∧
      (s.runs = true ∨ s.engine.state = some .cooldown ∨ s.engine.state = some .rundown ∨ s.engine.state = some .laidUp) ∧
      MonitorSound s ∧ (s.engine.state = some .cooldown ∨ s.engine.state = some .rundown) :=
  ⟨.cab, (asks (heldBy (chosen .rundown) .cab 0) .cab [.stop]), (by decide +kernel), (by decide +kernel),
    (by decide +kernel), (monitorSound_of (.rundown) rfl rfl rfl rfl), (by decide +kernel)⟩

theorem witness_StopBeginsTheStop_laid_up :
    ∃ (l : Link) (s : State),
      s.offers l [.stop] = true ∧ s.holds l = true ∧
      (s.runs = true ∨ s.engine.state = some .cooldown ∨ s.engine.state = some .rundown ∨ s.engine.state = some .laidUp) ∧
      MonitorSound s ∧ s.engine.state = some .laidUp :=
  ⟨.cab, (asks (heldBy (chosen .laidUp) .cab 0) .cab [.stop]), (by decide +kernel), (by decide +kernel),
    (by decide +kernel), (monitorSound_of (.laidUp) rfl rfl rfl rfl), (by decide +kernel)⟩

theorem witness_StopBeginsTheStop_in_transition :
    ∃ (l : Link) (s : State),
      s.offers l [.stop] = true ∧ s.holds l = true ∧ (∃ p : Phase, s.engine.state = some (.starting p)) :=
  ⟨.cab, (asks (heldBy (chosen (.starting .warm)) .cab 0) .cab [.stop]), (by decide +kernel), (by decide +kernel),
    ⟨.warm, rfl⟩⟩

theorem witness_StopBeginsTheStop_not_running :
    ∃ (l : Link) (s : State),
      s.offers l [.stop] = true ∧ s.holds l = true ∧ (s.engine.state = some .stopped ∨ s.engine.state = some .tripped) :=
  ⟨.cab, (asks (heldBy (chosen .stopped) .cab 0) .cab [.stop]), by decide +kernel⟩

theorem witness_CancelEndsStartOrCooldown_rotating :
    ∃ (l : Link) (s : State),
      s.offers l [.cancel] = true ∧ s.holds l = true ∧
      (s.engine.state = some .cooldown ∨ (s.startRuns = true ∧ s.filtered .crankcaseSwitch = false)) ∧
      MonitorSound s ∧ s.startRuns = true ∧ (20 ≤ s.frontEnd.reported ∨ s.outputs.fuelRun = true) :=
  ⟨.cab, (asks (heldBy (turning (chosen (.starting .prelube)) 20) .cab 0) .cab [.cancel]), (by decide +kernel),
    (by decide +kernel), (by decide +kernel), (monitorSound_of (.starting .prelube) rfl rfl rfl rfl),
    (by decide +kernel), (by decide +kernel)⟩

theorem witness_CancelEndsStartOrCooldown_at_rest :
    ∃ (l : Link) (s : State),
      s.offers l [.cancel] = true ∧ s.holds l = true ∧
      (s.engine.state = some .cooldown ∨ (s.startRuns = true ∧ s.filtered .crankcaseSwitch = false)) ∧
      MonitorSound s ∧ s.startRuns = true ∧ (¬ (20 ≤ s.frontEnd.reported ∨ s.outputs.fuelRun = true)) :=
  ⟨.cab, (asks (heldBy (turning (chosen (.starting .prelube)) 19) .cab 0) .cab [.cancel]), (by decide +kernel),
    (by decide +kernel), (by decide +kernel), (monitorSound_of (.starting .prelube) rfl rfl rfl rfl),
    (by decide +kernel), (by decide +kernel)⟩

theorem witness_CancelEndsStartOrCooldown_cooldown :
    ∃ (l : Link) (s : State),
      s.offers l [.cancel] = true ∧ s.holds l = true ∧
      (s.engine.state = some .cooldown ∨ (s.startRuns = true ∧ s.filtered .crankcaseSwitch = false)) ∧
      MonitorSound s ∧ s.engine.state = some .cooldown :=
  ⟨.cab, (asks (heldBy (chosen .cooldown) .cab 0) .cab [.cancel]), (by decide +kernel), (by decide +kernel),
    (by decide +kernel), (monitorSound_of (.cooldown) rfl rfl rfl rfl), (by decide +kernel)⟩

theorem witness_CancelEndsStartOrCooldown_arms_crankcase_rotating :
    ∃ (l : Link) (s : State),
      s.offers l [.cancel] = true ∧ s.holds l = true ∧
      (s.engine.state = some (.starting .prelube) ∨ s.engine.state = some (.starting .crank) ∨ s.engine.state = some (.starting .rest)) ∧
      s.filtered .crankcaseSwitch = true ∧ (20 ≤ s.frontEnd.reported ∨ s.outputs.fuelRun = true) ∧ MonitorSound s ∧
      s.monitor.trips = [] ∧ s.entry .protection = Entry.reset ∧ s.outputs.fuelRun = false :=
  ⟨.cab,
    (asks ((turning (heldBy (chosen (.starting .prelube)) .cab 0) 20).withInput .crankcaseSwitch ⟨true, true, true, none⟩) .cab [.cancel]),
    (by decide +kernel), (by decide +kernel), (by decide +kernel), (by decide +kernel), (by decide +kernel),
    (monitorSound_of (.starting .prelube) rfl rfl rfl rfl), (by decide +kernel), (by decide +kernel),
    (by decide +kernel)⟩

theorem witness_CancelEndsStartOrCooldown_arms_crankcase_fuelled :
    ∃ (l : Link) (s : State),
      s.offers l [.cancel] = true ∧ s.holds l = true ∧
      (s.engine.state = some (.starting .prelube) ∨ s.engine.state = some (.starting .crank) ∨ s.engine.state = some (.starting .rest)) ∧
      s.filtered .crankcaseSwitch = true ∧ (20 ≤ s.frontEnd.reported ∨ s.outputs.fuelRun = true) ∧ MonitorSound s ∧
      s.monitor.trips = [] ∧ s.entry .protection = Entry.reset ∧ s.outputs.fuelRun = true :=
  ⟨.cab,
    (asks ((heldBy (chosen (.starting .crank)) .cab 0).withInput .crankcaseSwitch ⟨true, true, true, none⟩) .cab [.cancel]),
    (by decide +kernel), (by decide +kernel), (by decide +kernel), (by decide +kernel), (by decide +kernel),
    (monitorSound_of (.starting .crank) rfl rfl rfl rfl), (by decide +kernel), (by decide +kernel),
    (by decide +kernel)⟩

theorem witness_CancelEndsStartOrCooldown_too_late :
    ∃ (l : Link) (s : State),
      s.offers l [.cancel] = true ∧ s.holds l = true ∧ s.engine.state = some .rundown :=
  ⟨.cab, (asks (heldBy (chosen .rundown) .cab 0) .cab [.cancel]), by decide +kernel⟩

theorem witness_CancelEndsStartOrCooldown_nothing :
    ∃ (l : Link) (s : State),
      s.offers l [.cancel] = true ∧ s.holds l = true ∧
      (s.engine.state = some .stopped ∨ s.runs = true ∨ s.engine.state = some .laidUp ∨ s.engine.state = some .tripped) :=
  ⟨.cab, (asks (heldBy (chosen .laidUp) .cab 0) .cab [.cancel]), by decide +kernel⟩

theorem witness_IsolateSetsTheFlag_on :
    ∃ (l : Link) (o : Byte) (on : Bool) (s : State),
      s.offers l [.isolate o] = true ∧ s.holds l = true ∧ switchOf o = some on ∧ EngineSound s ∧ MonitorSound s ∧
      s.engine.state = some .running :=
  ⟨.cab, 1#8, true, (asks (heldBy (chosen .running) .cab 0) .cab [.isolate 1#8]), (by decide +kernel),
    (by decide +kernel), (by decide +kernel), (engineSound_of .running rfl rfl rfl rfl rfl rfl rfl rfl rfl),
    (monitorSound_of (.running) rfl rfl rfl rfl), (by decide +kernel)⟩

theorem witness_IsolateSetsTheFlag_off :
    ∃ (l : Link) (o : Byte) (on : Bool) (s : State),
      s.offers l [.isolate o] = true ∧ s.holds l = true ∧ switchOf o = some on ∧ EngineSound s ∧ MonitorSound s ∧
      s.engine.state = some .isolated :=
  ⟨.cab, 0#8, false, (asks (heldBy (chosen .isolated) .cab 0) .cab [.isolate 0#8]), (by decide +kernel),
    (by decide +kernel), (by decide +kernel), (engineSound_of .isolated rfl rfl rfl rfl rfl rfl rfl rfl rfl),
    (monitorSound_of (.isolated) rfl rfl rfl rfl), (by decide +kernel)⟩

theorem witness_IsolateSetsTheFlag_elsewhere :
    ∃ (l : Link) (o : Byte) (on : Bool) (s : State),
      s.offers l [.isolate o] = true ∧ s.holds l = true ∧ switchOf o = some on ∧ EngineSound s ∧ MonitorSound s ∧
      s.runs = false :=
  ⟨.cab, 1#8, true, (asks (heldBy (chosen .stopped) .cab 0) .cab [.isolate 1#8]), (by decide +kernel),
    (by decide +kernel), (by decide +kernel), (engineSound_of .stopped rfl rfl rfl rfl rfl rfl rfl rfl rfl),
    (monitorSound_of (.stopped) rfl rfl rfl rfl), (by decide +kernel)⟩

theorem witness_ReadChangesNothing_status :
    ∃ (l : Link) (s : State),
      s.offers l [.read 1#8 1#16] = true ∧ ¬ namesNothing (1#8).toNat (1#16).toNat ∧ MonitorSound s ∧
      StepperSound s ∧ IdleSound s :=
  ⟨.cab, (asks (chosen .running) .cab [.read 1#8 1#16]), (by decide +kernel),
    (by unfold namesNothing; decide +kernel), (monitorSound_of (.running) rfl rfl rfl rfl),
    ⟨by decide +kernel, by decide +kernel, by decide +kernel, by decide +kernel, by decide +kernel, by decide +kernel,
      by decide +kernel, by decide +kernel, by decide +kernel⟩,
    (by unfold IdleSound; decide +kernel)⟩

theorem witness_ReadChangesNothing_channels :
    ∃ (l : Link) (s : State),
      s.offers l [.read 3#8 2#16] = true ∧ ¬ namesNothing (3#8).toNat (2#16).toNat ∧ MonitorSound s ∧
      StepperSound s ∧ IdleSound s :=
  ⟨.consist, (asks (chosen .tripped) .consist [.read 3#8 2#16]), (by decide +kernel),
    (by unfold namesNothing; decide +kernel), (monitorSound_of (.tripped) rfl rfl rfl rfl),
    ⟨by decide +kernel, by decide +kernel, by decide +kernel, by decide +kernel, by decide +kernel, by decide +kernel,
      by decide +kernel, by decide +kernel, by decide +kernel⟩,
    (by unfold IdleSound; decide +kernel)⟩

theorem witness_ReadChangesNothing_last_word :
    ∃ (l : Link) (s : State),
      s.offers l [.read 6#8 511#16] = true ∧ ¬ namesNothing (6#8).toNat (511#16).toNat ∧ MonitorSound s ∧
      StepperSound s ∧ IdleSound s :=
  ⟨.remote, (asks (chosen .stopped) .remote [.read 6#8 511#16]), (by decide +kernel),
    (by unfold namesNothing; decide +kernel), (monitorSound_of (.stopped) rfl rfl rfl rfl),
    ⟨by decide +kernel, by decide +kernel, by decide +kernel, by decide +kernel, by decide +kernel, by decide +kernel,
      by decide +kernel, by decide +kernel, by decide +kernel⟩,
    (by unfold IdleSound; decide +kernel)⟩

theorem witness_ReadChangesNothing_last_setting :
    ∃ (l : Link) (s : State),
      s.offers l [.read 5#8 30#16] = true ∧ ¬ namesNothing (5#8).toNat (30#16).toNat ∧ MonitorSound s ∧
      StepperSound s ∧ IdleSound s :=
  ⟨.shop, (asks (chosen .stopped) .shop [.read 5#8 30#16]), (by decide +kernel),
    (by unfold namesNothing; decide +kernel), (monitorSound_of (.stopped) rfl rfl rfl rfl),
    ⟨by decide +kernel, by decide +kernel, by decide +kernel, by decide +kernel, by decide +kernel, by decide +kernel,
      by decide +kernel, by decide +kernel, by decide +kernel⟩,
    (by unfold IdleSound; decide +kernel)⟩

theorem witness_ReadChangesNothing_last_segment :
    ∃ (l : Link) (s : State),
      s.offers l [.read 7#8 5#16] = true ∧ ¬ namesNothing (7#8).toNat (5#16).toNat ∧ MonitorSound s ∧
      StepperSound s ∧ IdleSound s :=
  ⟨.cab, (asks (chosen .stopped) .cab [.read 7#8 5#16]), (by decide +kernel),
    (by unfold namesNothing; decide +kernel), (monitorSound_of (.stopped) rfl rfl rfl rfl),
    ⟨by decide +kernel, by decide +kernel, by decide +kernel, by decide +kernel, by decide +kernel, by decide +kernel,
      by decide +kernel, by decide +kernel, by decide +kernel⟩,
    (by unfold IdleSound; decide +kernel)⟩

theorem witness_ReadChangesNothing_item_zero :
    ∃ (l : Link) (s : State),
      s.offers l [.read 0#8 0#16] = true ∧ namesNothing (0#8).toNat (0#16).toNat :=
  ⟨.cab, (asks (chosen .stopped) .cab [.read 0#8 0#16]), (by decide +kernel),
    (by unfold namesNothing; decide +kernel)⟩

theorem witness_ReadChangesNothing_item_eight :
    ∃ (l : Link) (s : State),
      s.offers l [.read 8#8 0#16] = true ∧ namesNothing (8#8).toNat (0#16).toNat :=
  ⟨.cab, (asks (chosen .stopped) .cab [.read 8#8 0#16]), (by decide +kernel),
    (by unfold namesNothing; decide +kernel)⟩

theorem witness_ReadChangesNothing_status_part_two :
    ∃ (l : Link) (s : State),
      s.offers l [.read 1#8 2#16] = true ∧ namesNothing (1#8).toNat (2#16).toNat :=
  ⟨.cab, (asks (chosen .stopped) .cab [.read 1#8 2#16]), (by decide +kernel),
    (by unfold namesNothing; decide +kernel)⟩

theorem witness_ReadChangesNothing_setting_zero :
    ∃ (l : Link) (s : State),
      s.offers l [.read 5#8 0#16] = true ∧ namesNothing (5#8).toNat (0#16).toNat :=
  ⟨.cab, (asks (chosen .stopped) .cab [.read 5#8 0#16]), (by decide +kernel),
    (by unfold namesNothing; decide +kernel)⟩

theorem witness_ReadChangesNothing_word_512 :
    ∃ (l : Link) (s : State),
      s.offers l [.read 6#8 512#16] = true ∧ namesNothing (6#8).toNat (512#16).toNat :=
  ⟨.cab, (asks (chosen .stopped) .cab [.read 6#8 512#16]), (by decide +kernel),
    (by unfold namesNothing; decide +kernel)⟩

theorem witness_ReadChangesNothing_two_too_long :
    ∃ (l : Link) (s : State),
      s.offers l [.read 1#8 1#16, .read 5#8 1#16] = true ∧ ¬ namesNothing (1#8).toNat (1#16).toNat ∧
      ¬ namesNothing (5#8).toNat (1#16).toNat ∧
      50 < resultSize (1#8).toNat (1#16).toNat + resultSize (5#8).toNat (1#16).toNat ∧ MonitorSound s ∧
      StepperSound s ∧ IdleSound s :=
  ⟨.cab, (asks (chosen .stopped) .cab [.read 1#8 1#16, .read 5#8 1#16]), (by decide +kernel),
    (by unfold namesNothing; decide +kernel), (by unfold namesNothing; decide +kernel), (by decide +kernel),
    (monitorSound_of (.stopped) rfl rfl rfl rfl),
    ⟨by decide +kernel, by decide +kernel, by decide +kernel, by decide +kernel, by decide +kernel, by decide +kernel,
      by decide +kernel, by decide +kernel, by decide +kernel⟩,
    (by unfold IdleSound; decide +kernel)⟩

theorem witness_ReadChangesNothing_two_fit :
    ∃ (l : Link) (s : State),
      s.offers l [.read 3#8 2#16, .read 5#8 1#16] = true ∧ ¬ namesNothing (3#8).toNat (2#16).toNat ∧
      ¬ namesNothing (5#8).toNat (1#16).toNat ∧
      resultSize (3#8).toNat (2#16).toNat + resultSize (5#8).toNat (1#16).toNat ≤ 50 ∧ MonitorSound s ∧
      StepperSound s ∧ IdleSound s :=
  ⟨.cab, (asks (chosen .stopped) .cab [.read 3#8 2#16, .read 5#8 1#16]), (by decide +kernel),
    (by unfold namesNothing; decide +kernel), (by unfold namesNothing; decide +kernel), (by decide +kernel),
    (monitorSound_of (.stopped) rfl rfl rfl rfl),
    ⟨by decide +kernel, by decide +kernel, by decide +kernel, by decide +kernel, by decide +kernel, by decide +kernel,
      by decide +kernel, by decide +kernel, by decide +kernel⟩,
    (by unfold IdleSound; decide +kernel)⟩

theorem witness_SettingIsWritten_plain :
    ∃ (l : Link) (number : Word16) (value : Word16) (s : State),
      s.offers l [.set 0#8 number value] = true ∧ Setting.ofNum number.toNat = some .rampUp ∧
      ¬ outsideRange number.toNat value.toNat ∧ s.writeAdmitted l (Setting.rampUp).group = true ∧
      (∀ m m2 : Link, (Setting.rampUp).rankOf = some m → m2 ≠ m → s.settings.get (rankSetting m2) ≠ value.toNat) ∧
      MonitorSound s ∧ StepperSound s ∧ IdleSound s ∧
      ((Setting.rampUp).isWakeEnable = false ∨ s.engine.state ≠ some .laidUp) ∧ (Setting.rampUp).silenceOf = none ∧
      (Setting.rampUp).inputOf = none :=
  ⟨.shop, 9#16, 50#16, (asks (heldBy (chosen .stopped) .shop 0) .shop [.set 0#8 9#16 50#16]), (by decide +kernel),
    (by decide +kernel), (by unfold outsideRange; decide +kernel), (by decide +kernel),
    (fun m m2 h hm => by cases m2 <;> revert h hm <;> cases m <;> decide +kernel),
    (monitorSound_of (.stopped) rfl rfl rfl rfl),
    ⟨by decide +kernel, by decide +kernel, by decide +kernel, by decide +kernel, by decide +kernel, by decide +kernel,
      by decide +kernel, by decide +kernel, by decide +kernel⟩,
    (by unfold IdleSound; decide +kernel), (by decide +kernel), (by decide +kernel), (by decide +kernel)⟩

theorem witness_SettingIsWritten_rank :
    ∃ (l : Link) (number : Word16) (value : Word16) (s : State),
      s.offers l [.set 0#8 number value] = true ∧ Setting.ofNum number.toNat = some .rankShop ∧
      ¬ outsideRange number.toNat value.toNat ∧ s.writeAdmitted l (Setting.rankShop).group = true ∧
      (∀ m m2 : Link, (Setting.rankShop).rankOf = some m → m2 ≠ m → s.settings.get (rankSetting m2) ≠ value.toNat) ∧
      MonitorSound s ∧ StepperSound s ∧ IdleSound s ∧ (Setting.rankShop).rankOf = some .shop :=
  ⟨.shop, 4#16, 6#16, (asks (heldBy (chosen .stopped) .shop 0) .shop [.set 0#8 4#16 6#16]), (by decide +kernel),
    (by decide +kernel), (by unfold outsideRange; decide +kernel), (by decide +kernel),
    (fun m m2 h hm => by cases m2 <;> revert h hm <;> cases m <;> decide +kernel),
    (monitorSound_of (.stopped) rfl rfl rfl rfl),
    ⟨by decide +kernel, by decide +kernel, by decide +kernel, by decide +kernel, by decide +kernel, by decide +kernel,
      by decide +kernel, by decide +kernel, by decide +kernel⟩,
    (by unfold IdleSound; decide +kernel), (by decide +kernel)⟩

theorem witness_SettingIsWritten_silence :
    ∃ (l : Link) (number : Word16) (value : Word16) (s : State),
      s.offers l [.set 0#8 number value] = true ∧ Setting.ofNum number.toNat = some .silenceCab ∧
      ¬ outsideRange number.toNat value.toNat ∧ s.writeAdmitted l (Setting.silenceCab).group = true ∧
      (∀ m m2 : Link, (Setting.silenceCab).rankOf = some m → m2 ≠ m → s.settings.get (rankSetting m2) ≠ value.toNat) ∧
      MonitorSound s ∧ StepperSound s ∧ IdleSound s ∧ (Setting.silenceCab).silenceOf = some .cab :=
  ⟨.shop, 5#16, 200#16, (asks (heldBy (chosen .stopped) .shop 0) .shop [.set 0#8 5#16 200#16]), (by decide +kernel),
    (by decide +kernel), (by unfold outsideRange; decide +kernel), (by decide +kernel),
    (fun m m2 h hm => by cases m2 <;> revert h hm <;> cases m <;> decide +kernel),
    (monitorSound_of (.stopped) rfl rfl rfl rfl),
    ⟨by decide +kernel, by decide +kernel, by decide +kernel, by decide +kernel, by decide +kernel, by decide +kernel,
      by decide +kernel, by decide +kernel, by decide +kernel⟩,
    (by unfold IdleSound; decide +kernel), (by decide +kernel)⟩

theorem witness_SettingIsWritten_input :
    ∃ (l : Link) (number : Word16) (value : Word16) (s : State),
      s.offers l [.set 0#8 number value] = true ∧ Setting.ofNum number.toNat = some .levelIsolateSwitch ∧
      ¬ outsideRange number.toNat value.toNat ∧ s.writeAdmitted l (Setting.levelIsolateSwitch).group = true ∧
      (∀ m m2 : Link, (Setting.levelIsolateSwitch).rankOf = some m → m2 ≠ m → s.settings.get (rankSetting m2) ≠ value.toNat) ∧
      MonitorSound s ∧ StepperSound s ∧ IdleSound s ∧ (Setting.levelIsolateSwitch).inputOf = some .isolateSwitch :=
  ⟨.shop, 29#16, 1#16, (asks (heldBy (chosen .stopped) .shop 0) .shop [.set 0#8 29#16 1#16]), (by decide +kernel),
    (by decide +kernel), (by unfold outsideRange; decide +kernel), (by decide +kernel),
    (fun m m2 h hm => by cases m2 <;> revert h hm <;> cases m <;> decide +kernel),
    (monitorSound_of (.stopped) rfl rfl rfl rfl),
    ⟨by decide +kernel, by decide +kernel, by decide +kernel, by decide +kernel, by decide +kernel, by decide +kernel,
      by decide +kernel, by decide +kernel, by decide +kernel⟩,
    (by unfold IdleSound; decide +kernel), (by decide +kernel)⟩

theorem witness_SettingIsWritten_wake_enable :
    ∃ (l : Link) (number : Word16) (value : Word16) (s : State),
      s.offers l [.set 0#8 number value] = true ∧ Setting.ofNum number.toNat = some .wakeCoolant ∧
      ¬ outsideRange number.toNat value.toNat ∧ s.writeAdmitted l (Setting.wakeCoolant).group = true ∧
      (∀ m m2 : Link, (Setting.wakeCoolant).rankOf = some m → m2 ≠ m → s.settings.get (rankSetting m2) ≠ value.toNat) ∧
      MonitorSound s ∧ StepperSound s ∧ IdleSound s ∧ (Setting.wakeCoolant).isWakeEnable = true :=
  ⟨.shop, 21#16, 0#16, (asks (heldBy (chosen .laidUp) .shop 0) .shop [.set 0#8 21#16 0#16]), (by decide +kernel),
    (by decide +kernel), (by unfold outsideRange; decide +kernel), (by decide +kernel),
    (fun m m2 h hm => by cases m2 <;> revert h hm <;> cases m <;> decide +kernel),
    (monitorSound_of (.laidUp) rfl rfl rfl rfl),
    ⟨by decide +kernel, by decide +kernel, by decide +kernel, by decide +kernel, by decide +kernel, by decide +kernel,
      by decide +kernel, by decide +kernel, by decide +kernel⟩,
    (by unfold IdleSound; decide +kernel), (by decide +kernel)⟩

theorem witness_SettingIsWritten_enabled_cause_wakes :
    ∃ (l : Link) (number : Word16) (value : Word16) (s : State),
      s.offers l [.set 0#8 number value] = true ∧ Setting.ofNum number.toNat = some .wakeCoolant ∧
      ¬ outsideRange number.toNat value.toNat ∧ s.writeAdmitted l (Setting.wakeCoolant).group = true ∧
      (∀ m m2 : Link, (Setting.wakeCoolant).rankOf = some m → m2 ≠ m → s.settings.get (rankSetting m2) ≠ value.toNat) ∧
      MonitorSound s ∧ StepperSound s ∧ IdleSound s ∧ (Setting.wakeCoolant).isWakeEnable = true ∧
      s.engine.state = some .laidUp ∧ s.wakeCause = false ∧ wakeDue (after (exec (.setSetting l number value []) s)) :=
  ⟨.shop, 21#16, 1#16,
    (asks (sensing (tuned ({ chosen .laidUp with arbiter := ⟨((PerSource.all Entry.reset).set .shop ⟨.holding, 0, some .matched, none, .permit⟩), [.shop], []⟩ }) .wakeCoolant 0) { calm with coolant := 34 }) .shop [.set 0#8 21#16 1#16]),
    (by decide +kernel), (by decide +kernel), (by unfold outsideRange; decide +kernel), (by decide +kernel),
    (fun m m2 h hm => by cases m2 <;> revert h hm <;> cases m <;> decide +kernel),
    (monitorSound_of (.laidUp) rfl rfl rfl rfl),
    ⟨by decide +kernel, by decide +kernel, by decide +kernel, by decide +kernel, by decide +kernel, by decide +kernel,
      by decide +kernel, by decide +kernel, by decide +kernel⟩,
    (by unfold IdleSound; decide +kernel), (by decide +kernel), (by decide +kernel), (by decide +kernel),
    (by unfold wakeDue; decide +kernel)⟩

theorem witness_SettingIsWritten_wake_lookup_faults :
    ∃ (l : Link) (number : Word16) (value : Word16) (s : State),
      s.offers l [.set 0#8 number value] = true ∧ Setting.ofNum number.toNat = some .wakeCoolant ∧
      ¬ outsideRange number.toNat value.toNat ∧ s.writeAdmitted l (Setting.wakeCoolant).group = true ∧
      (∀ m m2 : Link, (Setting.wakeCoolant).rankOf = some m → m2 ≠ m → s.settings.get (rankSetting m2) ≠ value.toNat) ∧
      MonitorSound s ∧ StepperSound s ∧ IdleSound s ∧ (Setting.wakeCoolant).isWakeEnable = true ∧
      s.engine.state = some .laidUp ∧ s.wakeCause = false ∧
      wakeDue (after (exec (.setSetting l number value []) s)) ∧
      s.store.faults (prelubeLookup (coolantBand (s.reading .coolant))) = true :=
  ⟨.shop, 21#16, 1#16,
    (asks (cutPrelube (sensing (tuned ({ chosen .laidUp with arbiter := ⟨((PerSource.all Entry.reset).set .shop ⟨.holding, 0, some .matched, none, .permit⟩), [.shop], []⟩ }) .wakeCoolant 0) { calm with coolant := 34 })) .shop [.set 0#8 21#16 1#16]),
    (by decide +kernel), (by decide +kernel), (by unfold outsideRange; decide +kernel), (by decide +kernel),
    (fun m m2 h hm => by cases m2 <;> revert h hm <;> cases m <;> decide +kernel),
    (monitorSound_of (.laidUp) rfl rfl rfl rfl),
    ⟨by decide +kernel, by decide +kernel, by decide +kernel, by decide +kernel, by decide +kernel, by decide +kernel,
      by decide +kernel, by decide +kernel, by decide +kernel⟩,
    (by unfold IdleSound; decide +kernel), (by decide +kernel), (by decide +kernel), (by decide +kernel),
    (by unfold wakeDue; decide +kernel), (by decide +kernel)⟩

theorem witness_SettingIsWritten_number_zero :
    ∃ (l : Link) (number : Word16) (value : Word16) (s : State),
      s.offers l [.set 0#8 number value] = true ∧ (number.toNat = 0 ∨ 30 < number.toNat) :=
  ⟨.shop, 0#16, 1#16, (asks (heldBy (chosen .stopped) .shop 0) .shop [.set 0#8 0#16 1#16]), by decide +kernel⟩

theorem witness_SettingIsWritten_number_31 :
    ∃ (l : Link) (number : Word16) (value : Word16) (s : State),
      s.offers l [.set 0#8 number value] = true ∧ (number.toNat = 0 ∨ 30 < number.toNat) :=
  ⟨.shop, 31#16, 1#16, (asks (heldBy (chosen .stopped) .shop 0) .shop [.set 0#8 31#16 1#16]), by decide +kernel⟩

theorem witness_SettingIsWritten_rank_range :
    ∃ (l : Link) (number : Word16) (value : Word16) (s : State),
      s.offers l [.set 0#8 number value] = true ∧ 1 ≤ number.toNat ∧ number.toNat ≤ 30 ∧
      outsideRange number.toNat value.toNat :=
  ⟨.shop, 1#16, 7#16, (asks (heldBy (chosen .stopped) .shop 0) .shop [.set 0#8 1#16 7#16]), (by decide +kernel),
    (by decide +kernel), (by decide +kernel), (by unfold outsideRange; decide +kernel)⟩

theorem witness_SettingIsWritten_silence_multiple :
    ∃ (l : Link) (number : Word16) (value : Word16) (s : State),
      s.offers l [.set 0#8 number value] = true ∧ 1 ≤ number.toNat ∧ number.toNat ≤ 30 ∧
      outsideRange number.toNat value.toNat :=
  ⟨.shop, 5#16, 201#16, (asks (heldBy (chosen .stopped) .shop 0) .shop [.set 0#8 5#16 201#16]), (by decide +kernel),
    (by decide +kernel), (by decide +kernel), (by unfold outsideRange; decide +kernel)⟩

theorem witness_SettingIsWritten_level_range :
    ∃ (l : Link) (number : Word16) (value : Word16) (s : State),
      s.offers l [.set 0#8 number value] = true ∧ 1 ≤ number.toNat ∧ number.toNat ≤ 30 ∧
      outsideRange number.toNat value.toNat :=
  ⟨.shop, 30#16, 3#16, (asks (heldBy (chosen .stopped) .shop 0) .shop [.set 0#8 30#16 3#16]), (by decide +kernel),
    (by decide +kernel), (by decide +kernel), (by unfold outsideRange; decide +kernel)⟩

theorem witness_SettingIsWritten_locked :
    ∃ (l : Link) (number : Word16) (value : Word16) (s : State),
      s.offers l [.set 0#8 number value] = true ∧ Setting.ofNum number.toNat = some .flywheelTeeth ∧
      ¬ outsideRange number.toNat value.toNat ∧ s.writeAdmitted l (Setting.flywheelTeeth).group = false :=
  ⟨.shop, 24#16, 60#16, (asks (heldBy (chosen .running) .shop 0) .shop [.set 0#8 24#16 60#16]), (by decide +kernel),
    (by decide +kernel), (by unfold outsideRange; decide +kernel), (by decide +kernel)⟩

theorem witness_SettingIsWritten_rank_conflict :
    ∃ (l : Link) (number : Word16) (value : Word16) (s : State),
      s.offers l [.set 0#8 number value] = true ∧ Setting.ofNum number.toNat = some .rankShop ∧
      ¬ outsideRange number.toNat value.toNat ∧ s.writeAdmitted l (Setting.rankShop).group = true ∧
      (Setting.rankShop).rankOf = some .shop ∧ Link.consist ≠ .shop ∧
      s.settings.get (rankSetting .consist) = value.toNat :=
  ⟨.shop, 4#16, 3#16, (asks (heldBy (chosen .stopped) .shop 0) .shop [.set 0#8 4#16 3#16]), (by decide +kernel),
    (by decide +kernel), (by unfold outsideRange; decide +kernel), (by decide +kernel), (by decide +kernel),
    (by decide +kernel), (by decide +kernel)⟩

theorem witness_WordsAndSegmentsAreWritten_last_word :
    ∃ (s : State),
      s.holder = some .shop ∧ s.engine.state = some .stopped ∧ MonitorSound s ∧ StepperSound s ∧ IdleSound s ∧
      StoreSound s ∧ s.offers .shop [.set 1#8 511#16 5#16] = true ∧ (511#16).toNat ≤ 511 :=
  ⟨(asks (heldBy (chosen .stopped) .shop 0) .shop [.set 1#8 511#16 5#16]), (by decide +kernel), (by decide +kernel),
    (monitorSound_of (.stopped) rfl rfl rfl rfl),
    ⟨by decide +kernel, by decide +kernel, by decide +kernel, by decide +kernel, by decide +kernel, by decide +kernel,
      by decide +kernel, by decide +kernel, by decide +kernel⟩,
    (by unfold IdleSound; decide +kernel), (storeSound_of rfl rfl rfl), (by decide +kernel), (by decide +kernel)⟩

theorem witness_WordsAndSegmentsAreWritten_segment :
    ∃ (s : State),
      s.holder = some .shop ∧ s.engine.state = some .stopped ∧ MonitorSound s ∧ StepperSound s ∧ IdleSound s ∧
      StoreSound s ∧ s.offers .shop [.segment 5#8 511#16 1#16 16#8] = true ∧
      SegmentId.ofNum (5#8).toNat = some .condLimits ∧ segmentInRange (511#16).toNat (1#16).toNat (16#8).toNat = true :=
  ⟨(asks (heldBy (chosen .stopped) .shop 0) .shop [.segment 5#8 511#16 1#16 16#8]), (by decide +kernel),
    (by decide +kernel), (monitorSound_of (.stopped) rfl rfl rfl rfl),
    ⟨by decide +kernel, by decide +kernel, by decide +kernel, by decide +kernel, by decide +kernel, by decide +kernel,
      by decide +kernel, by decide +kernel, by decide +kernel⟩,
    (by unfold IdleSound; decide +kernel), (storeSound_of rfl rfl rfl), (by decide +kernel), (by decide +kernel),
    (by decide +kernel)⟩

theorem witness_WordsAndSegmentsAreWritten_class :
    ∃ (s : State),
      s.holder = some .shop ∧ s.engine.state = some .stopped ∧ MonitorSound s ∧ StepperSound s ∧ IdleSound s ∧
      StoreSound s ∧ s.offers .shop [.set 2#8 1#16 1#16] = true ∧ 1 < (2#8).toNat :=
  ⟨(asks (heldBy (chosen .stopped) .shop 0) .shop [.set 2#8 1#16 1#16]), (by decide +kernel), (by decide +kernel),
    (monitorSound_of (.stopped) rfl rfl rfl rfl),
    ⟨by decide +kernel, by decide +kernel, by decide +kernel, by decide +kernel, by decide +kernel, by decide +kernel,
      by decide +kernel, by decide +kernel, by decide +kernel⟩,
    (by unfold IdleSound; decide +kernel), (storeSound_of rfl rfl rfl), (by decide +kernel), (by decide +kernel)⟩

theorem witness_WordsAndSegmentsAreWritten_index :
    ∃ (s : State),
      s.holder = some .shop ∧ s.engine.state = some .stopped ∧ MonitorSound s ∧ StepperSound s ∧ IdleSound s ∧
      StoreSound s ∧ s.offers .shop [.set 1#8 512#16 1#16] = true ∧ 511 < (512#16).toNat :=
  ⟨(asks (heldBy (chosen .stopped) .shop 0) .shop [.set 1#8 512#16 1#16]), (by decide +kernel), (by decide +kernel),
    (monitorSound_of (.stopped) rfl rfl rfl rfl),
    ⟨by decide +kernel, by decide +kernel, by decide +kernel, by decide +kernel, by decide +kernel, by decide +kernel,
      by decide +kernel, by decide +kernel, by decide +kernel⟩,
    (by unfold IdleSound; decide +kernel), (storeSound_of rfl rfl rfl), (by decide +kernel), (by decide +kernel)⟩

theorem witness_WordsAndSegmentsAreWritten_segment_id :
    ∃ (s : State),
      s.holder = some .shop ∧ s.engine.state = some .stopped ∧ MonitorSound s ∧ StepperSound s ∧ IdleSound s ∧
      StoreSound s ∧ s.offers .shop [.segment 6#8 0#16 1#16 1#8] = true ∧
      (5 < (6#8).toNat ∨ segmentInRange (0#16).toNat (1#16).toNat (1#8).toNat = false) :=
  ⟨(asks (heldBy (chosen .stopped) .shop 0) .shop [.segment 6#8 0#16 1#16 1#8]), (by decide +kernel),
    (by decide +kernel), (monitorSound_of (.stopped) rfl rfl rfl rfl),
    ⟨by decide +kernel, by decide +kernel, by decide +kernel, by decide +kernel, by decide +kernel, by decide +kernel,
      by decide +kernel, by decide +kernel, by decide +kernel⟩,
    (by unfold IdleSound; decide +kernel), (storeSound_of rfl rfl rfl), (by decide +kernel), (by decide +kernel)⟩

theorem witness_WordsAndSegmentsAreWritten_segment_range :
    ∃ (s : State),
      s.holder = some .shop ∧ s.engine.state = some .stopped ∧ MonitorSound s ∧ StepperSound s ∧ IdleSound s ∧
      StoreSound s ∧ s.offers .shop [.segment 0#8 511#16 2#16 1#8] = true ∧
      (5 < (0#8).toNat ∨ segmentInRange (511#16).toNat (2#16).toNat (1#8).toNat = false) :=
  ⟨(asks (heldBy (chosen .stopped) .shop 0) .shop [.segment 0#8 511#16 2#16 1#8]), (by decide +kernel),
    (by decide +kernel), (monitorSound_of (.stopped) rfl rfl rfl rfl),
    ⟨by decide +kernel, by decide +kernel, by decide +kernel, by decide +kernel, by decide +kernel, by decide +kernel,
      by decide +kernel, by decide +kernel, by decide +kernel⟩,
    (by unfold IdleSound; decide +kernel), (storeSound_of rfl rfl rfl), (by decide +kernel), (by decide +kernel)⟩

theorem witness_WordsAndSegmentsAreWritten_start_prelubes :
    ∃ (s : State),
      s.holder = some .shop ∧ s.engine.state = some .stopped ∧ MonitorSound s ∧ StepperSound s ∧ IdleSound s ∧
      StoreSound s ∧ s.offers .shop [.set 1#8 103#16 600#16, .start 0#8] = true ∧ s.startRefusal .full = none ∧
      1 ≤ (after (exec (.setWord .shop 1#8 103#16 600#16 [.start 0#8]) s)).prelubeDuration :=
  ⟨(asks (heldBy (chosen .stopped) .shop 0) .shop [.set 1#8 103#16 600#16, .start 0#8]), (by decide +kernel),
    (by decide +kernel), (monitorSound_of (.stopped) rfl rfl rfl rfl),
    ⟨by decide +kernel, by decide +kernel, by decide +kernel, by decide +kernel, by decide +kernel, by decide +kernel,
      by decide +kernel, by decide +kernel, by decide +kernel⟩,
    (by unfold IdleSound; decide +kernel), (storeSound_of rfl rfl rfl), (by decide +kernel), (by decide +kernel),
    (by decide +kernel)⟩

theorem witness_WordsAndSegmentsAreWritten_start_cranks :
    ∃ (s : State),
      s.holder = some .shop ∧ s.engine.state = some .stopped ∧ MonitorSound s ∧ StepperSound s ∧ IdleSound s ∧
      StoreSound s ∧ s.offers .shop [.set 1#8 103#16 0#16, .start 0#8] = true ∧ s.startRefusal .full = none ∧
      (after (exec (.setWord .shop 1#8 103#16 0#16 [.start 0#8]) s)).prelubeDuration = 0 ∧ 30 ≤ s.reading .lube :=
  ⟨(asks (heldBy (chosen .stopped) .shop 0) .shop [.set 1#8 103#16 0#16, .start 0#8]), (by decide +kernel),
    (by decide +kernel), (monitorSound_of (.stopped) rfl rfl rfl rfl),
    ⟨by decide +kernel, by decide +kernel, by decide +kernel, by decide +kernel, by decide +kernel, by decide +kernel,
      by decide +kernel, by decide +kernel, by decide +kernel⟩,
    (by unfold IdleSound; decide +kernel), (storeSound_of rfl rfl rfl), (by decide +kernel), (by decide +kernel),
    (by decide +kernel), (by decide +kernel)⟩

theorem witness_WordsAndSegmentsAreWritten_start_fails :
    ∃ (s : State),
      s.holder = some .shop ∧ s.engine.state = some .stopped ∧ MonitorSound s ∧ StepperSound s ∧ IdleSound s ∧
      StoreSound s ∧ s.offers .shop [.set 1#8 103#16 0#16, .start 0#8] = true ∧ s.startRefusal .full = none ∧
      (after (exec (.setWord .shop 1#8 103#16 0#16 [.start 0#8]) s)).prelubeDuration = 0 ∧ s.reading .lube < 30 :=
  ⟨(asks (sensing (heldBy (chosen .stopped) .shop 0) { calm with lube := 29 }) .shop [.set 1#8 103#16 0#16, .start 0#8]),
    (by decide +kernel), (by decide +kernel), (monitorSound_of (.stopped) rfl rfl rfl rfl),
    ⟨by decide +kernel, by decide +kernel, by decide +kernel, by decide +kernel, by decide +kernel, by decide +kernel,
      by decide +kernel, by decide +kernel, by decide +kernel⟩,
    (by unfold IdleSound; decide +kernel), (storeSound_of rfl rfl rfl), (by decide +kernel), (by decide +kernel),
    (by decide +kernel), (by decide +kernel)⟩

theorem witness_WordsAndSegmentsAreWritten_cancelled_start_faults :
    ∃ (s : State),
      s.holder = some .shop ∧ s.engine.state = some .stopped ∧ MonitorSound s ∧ StepperSound s ∧ IdleSound s ∧
      StoreSound s ∧ s.offers .shop [.start 0#8, .cancel, .segment 2#8 96#16 7#16 1#8] = true ∧
      s.startRefusal .full = none ∧ segmentInRange (96#16).toNat (7#16).toNat (1#8).toNat = true :=
  ⟨(asks (heldBy (chosen .stopped) .shop 0) .shop [.start 0#8, .cancel, .segment 2#8 96#16 7#16 1#8]),
    (by decide +kernel), (by decide +kernel), (monitorSound_of (.stopped) rfl rfl rfl rfl),
    ⟨by decide +kernel, by decide +kernel, by decide +kernel, by decide +kernel, by decide +kernel, by decide +kernel,
      by decide +kernel, by decide +kernel, by decide +kernel⟩,
    (by unfold IdleSound; decide +kernel), (storeSound_of rfl rfl rfl), (by decide +kernel), (by decide +kernel),
    (by decide +kernel)⟩

theorem witness_MalformedOrderIsRefused :
    ∃ (l : Link) (index : Nat) (s : State),
      s.orderUnitOpen = true ∧ s.nextParsed l = some (.malformed index) :=
  ⟨.cab, 1, ((chosen .stopped).withPort .cab { Port.fresh 100000 false with queue := [⟨7#8, [4#8, 2#8], none⟩] }),
    by decide +kernel⟩

theorem witness_AcceptedOrdersNameItemsOnce_notch :
    ∃ (l : Link) (a : Sys2Proof.Action) (as : List Sys2Proof.Action) (rest : List Sys2Proof.Action) (s : State),
      (∃ w : State, State.runActions l 1 0 [] as s = .ok w) ∧
      (∃ b ∈ as, (a.code = b.code ∧ a.code ≠ 10 ∧ a.code ≠ 11) ∨
        ∃ (c : Byte) (n v v' : Word16), a = .set c n v ∧ b = .set c n v') ∧
      s.offers l (as ++ a :: rest) = true :=
  ⟨.cab, (.notch 2#8), ([.notch 1#8]), [.release],
    (asks (heldBy (chosen .running) .cab 3) .cab [.notch 1#8, .notch 2#8, .release]), ⟨_, rfl⟩,
    ⟨.notch 1#8, List.mem_singleton.mpr rfl, .inl (by decide)⟩, (by decide +kernel)⟩

theorem witness_AcceptedOrdersNameItemsOnce_set :
    ∃ (l : Link) (a : Sys2Proof.Action) (as : List Sys2Proof.Action) (rest : List Sys2Proof.Action) (s : State),
      (∃ w : State, State.runActions l 1 0 [] as s = .ok w) ∧
      (∃ b ∈ as, (a.code = b.code ∧ a.code ≠ 10 ∧ a.code ≠ 11) ∨
        ∃ (c : Byte) (n v v' : Word16), a = .set c n v ∧ b = .set c n v') ∧
      s.offers l (as ++ a :: rest) = true :=
  ⟨.shop, (.set 0#8 9#16 60#16), ([.set 0#8 9#16 50#16]), [.release],
    (asks (heldBy (chosen .stopped) .shop 0) .shop [.set 0#8 9#16 50#16, .set 0#8 9#16 60#16, .release]), ⟨_, rfl⟩,
    ⟨.set 0#8 9#16 50#16, List.mem_singleton.mpr rfl, .inr ⟨0#8, 9#16, 60#16, 50#16, rfl, rfl⟩⟩, (by decide +kernel)⟩

theorem witness_OnlyTheHolderActsOnTheEngine_not_holder :
    ∃ (l : Link) (a : Sys2Proof.Action) (more : List Sys2Proof.Action) (m : Byte) (s : State),
      s.offers l (a :: more) = true ∧ (a = .start m ∨ a = .stop ∨ a = .cancel ∨ a = .isolate m) ∧ s.holds l = false :=
  ⟨.cab, (.start 1#8), [], 1#8, (asks (heldBy (chosen .stopped) .shop 0) .cab [.start 1#8]), by decide +kernel⟩

theorem witness_OnlyTheHolderActsOnTheEngine_operand :
    ∃ (l : Link) (a : Sys2Proof.Action) (more : List Sys2Proof.Action) (m : Byte) (s : State),
      s.offers l (a :: more) = true ∧ (a = .start m ∨ a = .stop ∨ a = .cancel ∨ a = .isolate m) ∧ 2 ≤ m.toNat :=
  ⟨.cab, (.isolate 2#8), [.release], 2#8, (asks (heldBy (chosen .stopped) .cab 0) .cab [.isolate 2#8, .release]),
    by decide +kernel⟩

theorem witness_WritesNeedTheirRights_link :
    ∃ (l : Link) (a : Sys2Proof.Action) (g : WriteGroup) (s : State),
      s.offers l [a] = true ∧ writesItem s a g ∧ writeRights s l g :=
  ⟨.shop, (.set 0#8 1#16 6#16), .link, (asks (heldBy (chosen .running) .shop 0) .shop [.set 0#8 1#16 6#16]),
    (by decide +kernel),
    (.inl ⟨rfl, .rankCab, by decide +kernel, by decide +kernel, rfl, fun m h => by cases m <;> revert h <;> decide +kernel⟩),
    ⟨rfl, rfl, fun m h => by cases m <;> first | exact absurd rfl h | decide +kernel⟩⟩

theorem witness_WritesNeedTheirRights_limit :
    ∃ (l : Link) (a : Sys2Proof.Action) (g : WriteGroup) (s : State),
      s.offers l [a] = true ∧ writesItem s a g ∧ writeRights s l g :=
  ⟨.cab, (.set 0#8 9#16 1#16), .limit, (asks (heldBy (chosen .stopped) .cab 0) .cab [.set 0#8 9#16 1#16]),
    (by decide +kernel),
    (.inl ⟨rfl, .rampUp, by decide +kernel, by decide +kernel, rfl, fun m h => by cases m <;> revert h <;> decide +kernel⟩),
    (.inr ⟨rfl, rfl, rfl⟩)⟩

theorem witness_WritesNeedTheirRights_limit_locked :
    ∃ (l : Link) (a : Sys2Proof.Action) (g : WriteGroup) (s : State),
      s.offers l [a] = true ∧ writesItem s a g ∧ ¬ writeRights s l g :=
  ⟨.cab, (.set 0#8 9#16 1#16), .limit, (asks (heldBy (chosen .laidUp) .cab 0) .cab [.set 0#8 9#16 1#16]),
    (by decide +kernel),
    (.inl ⟨rfl, .rampUp, by decide +kernel, by decide +kernel, rfl, fun m h => by cases m <;> revert h <;> decide +kernel⟩),
    (fun h => by rcases h with h | h <;> revert h <;> decide +kernel)⟩

theorem witness_WritesNeedTheirRights_restricted_locked :
    ∃ (l : Link) (a : Sys2Proof.Action) (g : WriteGroup) (s : State),
      s.offers l [a] = true ∧ writesItem s a g ∧ ¬ writeRights s l g :=
  ⟨.shop, (.set 0#8 24#16 60#16), .restricted,
    (asks (heldBy (chosen .running) .shop 0) .shop [.set 0#8 24#16 60#16]), (by decide +kernel),
    (.inl ⟨rfl, .flywheelTeeth, by decide +kernel, by decide +kernel, rfl, fun m h => by cases m <;> revert h <;> decide +kernel⟩),
    (fun h => by revert h; unfold writeRights; decide +kernel)⟩

theorem witness_WritesNeedTheirRights_schedule :
    ∃ (l : Link) (a : Sys2Proof.Action) (g : WriteGroup) (s : State),
      s.offers l [a] = true ∧ writesItem s a g ∧ writeRights s l g :=
  ⟨.shop, (.set 1#8 511#16 1#16), .schedule, (asks (heldBy (chosen .stopped) .shop 0) .shop [.set 1#8 511#16 1#16]),
    (by decide +kernel), (.inr ⟨rfl, by decide +kernel, rfl⟩), ⟨rfl, rfl, rfl⟩⟩

theorem witness_WritesNeedTheirRights_schedule_locked :
    ∃ (l : Link) (a : Sys2Proof.Action) (g : WriteGroup) (s : State),
      s.offers l [a] = true ∧ writesItem s a g ∧ ¬ writeRights s l g :=
  ⟨.remote, (.segment 0#8 0#16 36#16 4#8), .schedule,
    (asks (heldBy (chosen .stopped) .remote 0) .remote [.segment 0#8 0#16 36#16 4#8]), (by decide +kernel),
    ⟨by decide +kernel, by decide +kernel, rfl⟩, (fun h => by cases h.1)⟩

theorem witness_ScanClampsEveryChannel :
    ∃ (raw : PerAnalog Int) (s : State),
      s.live = true :=
  ⟨⟨-1, 1001, -50, 121, 400, 49, 150⟩, (chosen .running), by decide +kernel⟩

theorem witness_ScanCountsPersistence_not_listed :
    ∃ (raw : PerAnalog Int) (st : EngineState) (s : State),
      s.live = true ∧ s.engine.state = some st ∧ s.engine.awaitingChoice = false ∧ MonitorSound s ∧
      (s.monitor.trips = [] → (s.channel .overspeed).onset ≤ 1 ∧ (s.channel .lubeLow).onset ≤ 1) ∧
      Channel.batteryLow ∉ s.monitor.conditions ∧ (s.channel .batteryLow).onset = 2 :=
  ⟨({ calm with battery := 63 }), .running,
    ({ chosen .running with monitor := { quietMonitor .running with channels := { (quietMonitor .running).channels with batteryLow := ⟨true, 2, 0⟩ }, conditions := [] }, outputs := ⟨false, false, true, false, 330, 0⟩ }),
    (by decide +kernel), (by decide +kernel), (by decide +kernel),
    ⟨fun _ c => by cases c <;> decide +kernel, fun h => absurd h (by decide +kernel),
      fun c => by cases c <;> decide +kernel, by decide +kernel, by decide +kernel, by decide +kernel,
      fun c => by cases c <;> decide +kernel, fun c => by cases c <;> decide +kernel⟩,
    (by decide +kernel), (by decide +kernel), (by decide +kernel)⟩

theorem witness_ScanCountsPersistence_listed :
    ∃ (raw : PerAnalog Int) (st : EngineState) (s : State),
      s.live = true ∧ s.engine.state = some st ∧ s.engine.awaitingChoice = false ∧ MonitorSound s ∧
      (s.monitor.trips = [] → (s.channel .overspeed).onset ≤ 1 ∧ (s.channel .lubeLow).onset ≤ 1) ∧
      Channel.batteryLow ∈ s.monitor.conditions ∧ (s.channel .batteryLow).clear = 19 :=
  ⟨calm, .running,
    ({ chosen .running with monitor := { quietMonitor .running with channels := { (quietMonitor .running).channels with batteryLow := ⟨true, 0, 19⟩ }, conditions := [.batteryLow] }, outputs := ⟨false, false, true, true, 330, 0⟩ }),
    (by decide +kernel), (by decide +kernel), (by decide +kernel),
    ⟨fun _ c => by cases c <;> decide +kernel, fun h => absurd h (by decide +kernel),
      fun c => by cases c <;> decide +kernel, by decide +kernel, by decide +kernel, by decide +kernel,
      fun c => by cases c <;> decide +kernel, fun c => by cases c <;> decide +kernel⟩,
    (by decide +kernel), (by decide +kernel), (by decide +kernel)⟩

theorem witness_ScanCountsPersistence_warm_sees_lube :
    ∃ (raw : PerAnalog Int) (st : EngineState) (s : State),
      s.live = true ∧ s.engine.state = some st ∧ s.engine.awaitingChoice = false ∧ MonitorSound s ∧
      (s.monitor.trips = [] → (s.channel .overspeed).onset ≤ 1 ∧ (s.channel .lubeLow).onset ≤ 1) ∧
      st = .starting .warm ∧ s.sequencer.lubeSeen = some false ∧
      (s.sequencer.lubeMinimum.getD 0 : Int) ≤ (after (exec (.sensorScan raw) s)).reading .lube ∧
      1 ≤ s.sequencer.warmTime.getD 0 :=
  ⟨({ calm with lube := 120 }), ((.starting .warm)),
    ({ chosen (.starting .warm) with sequencer := { (chosen (.starting .warm)).sequencer with warmTime := some 1 } }),
    (by decide +kernel), (by decide +kernel), (by decide +kernel),
    (monitorSound_of (.starting .warm) rfl rfl rfl rfl), (by decide +kernel), (by decide +kernel),
    (by decide +kernel), (by decide +kernel), (by decide +kernel)⟩

theorem witness_ScanCountsPersistence_warm_time_zero :
    ∃ (raw : PerAnalog Int) (st : EngineState) (s : State),
      s.live = true ∧ s.engine.state = some st ∧ s.engine.awaitingChoice = false ∧ MonitorSound s ∧
      (s.monitor.trips = [] → (s.channel .overspeed).onset ≤ 1 ∧ (s.channel .lubeLow).onset ≤ 1) ∧
      st = .starting .warm ∧ s.sequencer.lubeSeen = some false ∧
      (s.sequencer.lubeMinimum.getD 0 : Int) ≤ (after (exec (.sensorScan raw) s)).reading .lube ∧
      s.sequencer.warmTime.getD 0 = 0 :=
  ⟨({ calm with lube := 120 }), ((.starting .warm)),
    ({ chosen (.starting .warm) with sequencer := { (chosen (.starting .warm)).sequencer with warmTime := some 0 } }),
    (by decide +kernel), (by decide +kernel), (by decide +kernel),
    (monitorSound_of (.starting .warm) rfl rfl rfl rfl), (by decide +kernel), (by decide +kernel),
    (by decide +kernel), (by decide +kernel), (by decide +kernel)⟩

theorem witness_ScanCountsPersistence_warm_below :
    ∃ (raw : PerAnalog Int) (st : EngineState) (s : State),
      s.live = true ∧ s.engine.state = some st ∧ s.engine.awaitingChoice = false ∧ MonitorSound s ∧
      (s.monitor.trips = [] → (s.channel .overspeed).onset ≤ 1 ∧ (s.channel .lubeLow).onset ≤ 1) ∧
      st = .starting .warm ∧ s.sequencer.lubeSeen = some false ∧
      (after (exec (.sensorScan raw) s)).reading .lube < (s.sequencer.lubeMinimum.getD 0 : Int) :=
  ⟨({ calm with lube := 119 }), ((.starting .warm)),
    ({ chosen (.starting .warm) with sequencer := { (chosen (.starting .warm)).sequencer with warmTime := some 0 } }),
    (by decide +kernel), (by decide +kernel), (by decide +kernel),
    (monitorSound_of (.starting .warm) rfl rfl rfl rfl), (by decide +kernel), (by decide +kernel),
    (by decide +kernel), (by decide +kernel)⟩

theorem witness_ScanCountsPersistence_warm_seen_before :
    ∃ (raw : PerAnalog Int) (st : EngineState) (s : State),
      s.live = true ∧ s.engine.state = some st ∧ s.engine.awaitingChoice = false ∧ MonitorSound s ∧
      (s.monitor.trips = [] → (s.channel .overspeed).onset ≤ 1 ∧ (s.channel .lubeLow).onset ≤ 1) ∧
      st = .starting .warm ∧ s.sequencer.lubeSeen ≠ some false :=
  ⟨({ calm with lube := 119 }), ((.starting .warm)),
    ({ chosen (.starting .warm) with sequencer := { (chosen (.starting .warm)).sequencer with lubeSeen := some true } }),
    (by decide +kernel), (by decide +kernel), (by decide +kernel),
    (monitorSound_of (.starting .warm) rfl rfl rfl rfl), (by decide +kernel), (by decide +kernel),
    (by decide +kernel)⟩

theorem witness_ScanCountsPersistence_wakes :
    ∃ (raw : PerAnalog Int) (st : EngineState) (s : State),
      s.live = true ∧ s.engine.state = some st ∧ s.engine.awaitingChoice = false ∧ MonitorSound s ∧
      (s.monitor.trips = [] → (s.channel .overspeed).onset ≤ 1 ∧ (s.channel .lubeLow).onset ≤ 1) ∧ st = .laidUp ∧
      (after (exec (.sensorScan raw) s)).wakeCause = true ∧ s.sequencer.lockoutEnd = none ∧
      s.frontEnd.reported = 19 ∧ 1 ≤ (after (exec (.sensorScan raw) s)).prelubeDuration :=
  ⟨({ calm with coolant := 34 }), .laidUp, (turning (chosen .laidUp) 19), (by decide +kernel), (by decide +kernel),
    (by decide +kernel), (monitorSound_of (.laidUp) rfl rfl rfl rfl), (by decide +kernel), (by decide +kernel),
    (by decide +kernel), (by decide +kernel), (by decide +kernel), (by decide +kernel)⟩

theorem witness_ScanCountsPersistence_stays_laid_up :
    ∃ (raw : PerAnalog Int) (st : EngineState) (s : State),
      s.live = true ∧ s.engine.state = some st ∧ s.engine.awaitingChoice = false ∧ MonitorSound s ∧
      (s.monitor.trips = [] → (s.channel .overspeed).onset ≤ 1 ∧ (s.channel .lubeLow).onset ≤ 1) ∧ st = .laidUp ∧
      (after (exec (.sensorScan raw) s)).wakeCause = false :=
  ⟨({ calm with coolant := 35 }), .laidUp, (chosen .laidUp), (by decide +kernel), (by decide +kernel),
    (by decide +kernel), (monitorSound_of (.laidUp) rfl rfl rfl rfl), (by decide +kernel), (by decide +kernel),
    (by decide +kernel)⟩

theorem witness_ScanCountsPersistence_laid_up_turning :
    ∃ (raw : PerAnalog Int) (st : EngineState) (s : State),
      s.live = true ∧ s.engine.state = some st ∧ s.engine.awaitingChoice = false ∧ MonitorSound s ∧
      (s.monitor.trips = [] → (s.channel .overspeed).onset ≤ 1 ∧ (s.channel .lubeLow).onset ≤ 1) ∧ st = .laidUp ∧
      (after (exec (.sensorScan raw) s)).wakeCause = true ∧ 20 ≤ s.frontEnd.reported :=
  ⟨({ calm with coolant := 34 }), .laidUp, (turning (chosen .laidUp) 20), (by decide +kernel), (by decide +kernel),
    (by decide +kernel), (monitorSound_of (.laidUp) rfl rfl rfl rfl), (by decide +kernel), (by decide +kernel),
    (by decide +kernel), (by decide +kernel)⟩

theorem witness_ScanCountsPersistence_laid_up_locked :
    ∃ (raw : PerAnalog Int) (st : EngineState) (s : State),
      s.live = true ∧ s.engine.state = some st ∧ s.engine.awaitingChoice = false ∧ MonitorSound s ∧
      (s.monitor.trips = [] → (s.channel .overspeed).onset ≤ 1 ∧ (s.channel .lubeLow).onset ≤ 1) ∧ st = .laidUp ∧
      (after (exec (.sensorScan raw) s)).wakeCause = true ∧ s.sequencer.lockoutEnd.isSome = true :=
  ⟨({ calm with coolant := 34 }), .laidUp,
    ({ chosen .laidUp with sequencer := { Sequencer.reset with lockoutEnd := some 100001 } }), (by decide +kernel),
    (by decide +kernel), (by decide +kernel), (monitorSound_of (.laidUp) rfl rfl rfl rfl), (by decide +kernel),
    (by decide +kernel), (by decide +kernel), (by decide +kernel)⟩

theorem witness_ScanCountsPersistence_laid_up_counts :
    ∃ (raw : PerAnalog Int) (st : EngineState) (s : State),
      s.live = true ∧ s.engine.state = some st ∧ s.engine.awaitingChoice = false ∧ MonitorSound s ∧
      (s.monitor.trips = [] → (s.channel .overspeed).onset ≤ 1 ∧ (s.channel .lubeLow).onset ≤ 1) ∧ st = .laidUp ∧
      (s.channel .batteryLow).armed = true ∧ (s.channel .batteryLow).onset = 2 :=
  ⟨({ calm with battery := 63 }), .laidUp,
    ({ chosen .laidUp with monitor := { quietMonitor .laidUp with channels := { (quietMonitor .laidUp).channels with batteryLow := ⟨true, 2, 0⟩ } } }),
    (by decide +kernel), (by decide +kernel), (by decide +kernel),
    ⟨fun _ c => by cases c <;> decide +kernel, fun h => absurd h (by decide +kernel),
      fun c => by cases c <;> decide +kernel, by decide +kernel, by decide +kernel, by decide +kernel,
      fun c => by cases c <;> decide +kernel, fun c => by cases c <;> decide +kernel⟩,
    (by decide +kernel), (by decide +kernel), (by decide +kernel), (by decide +kernel)⟩

theorem witness_ScanCountsPersistence_warm_end_counts :
    ∃ (raw : PerAnalog Int) (st : EngineState) (s : State),
      s.live = true ∧ s.engine.state = some st ∧ s.engine.awaitingChoice = false ∧ MonitorSound s ∧
      (s.monitor.trips = [] → (s.channel .overspeed).onset ≤ 1 ∧ (s.channel .lubeLow).onset ≤ 1) ∧
      st = .starting .warm ∧ s.sequencer.warmTime.getD 0 = 0 ∧ (s.channel .batteryLow).armed = true ∧
      (s.channel .batteryLow).onset = 2 :=
  ⟨({ calm with lube := 120, battery := 63 }), ((.starting .warm)),
    ({ chosen (.starting .warm) with monitor := { quietMonitor (.starting .warm) with channels := { (quietMonitor (.starting .warm)).channels with batteryLow := ⟨true, 2, 0⟩ } }, sequencer := { (chosen (.starting .warm)).sequencer with warmTime := some 0 } }),
    (by decide +kernel), (by decide +kernel), (by decide +kernel),
    ⟨fun _ c => by cases c <;> decide +kernel, fun h => absurd h (by decide +kernel),
      fun c => by cases c <;> decide +kernel, by decide +kernel, by decide +kernel, by decide +kernel,
      fun c => by cases c <;> decide +kernel, fun c => by cases c <;> decide +kernel⟩,
    (by decide +kernel), (by decide +kernel), (by decide +kernel), (by decide +kernel), (by decide +kernel)⟩

theorem witness_ThirdOverspeedScanTrips_overspeed :
    ∃ (raw : PerAnalog Int) (st : EngineState) (s : State),
      s.live = true ∧ s.engine.awaitingChoice = false ∧ s.engine.state = some st ∧ MonitorSound s ∧
      s.monitor.trips = [] ∧ s.entry .protection = Entry.reset ∧ st.turnsUnderPower = true ∧
      (s.channel .overspeed).onset = 2 ∧ Channel.overspeed ∉ s.monitor.conditions ∧ (s.channel .lubeLow).onset ≤ 1 ∧
      s.store.look (thresholdLookup 0 0) ≤ s.frontEnd.reported :=
  ⟨calm, .running,
    (turning (heldBy { chosen .running with monitor := { quietMonitor .running with channels := { (quietMonitor .running).channels with overspeed := ⟨true, 2, 0⟩ } } } .cab 3) 1010),
    (by decide +kernel), (by decide +kernel), (by decide +kernel),
    ⟨fun _ c => by cases c <;> decide +kernel, fun h => absurd h (by decide +kernel),
      fun c => by cases c <;> decide +kernel, by decide +kernel, by decide +kernel, by decide +kernel,
      fun c => by cases c <;> decide +kernel, fun c => by cases c <;> decide +kernel⟩,
    (by decide +kernel), (by decide +kernel), (by decide +kernel), (by decide +kernel), (by decide +kernel),
    (by decide +kernel), (by decide +kernel)⟩

theorem witness_ThirdOverspeedScanTrips_lube_low :
    ∃ (raw : PerAnalog Int) (st : EngineState) (s : State),
      s.live = true ∧ s.engine.awaitingChoice = false ∧ s.engine.state = some st ∧ MonitorSound s ∧
      s.monitor.trips = [] ∧ s.entry .protection = Entry.reset ∧ (st = .running ∨ st = .isolated ∨ st = .cooldown) ∧
      (s.channel .lubeLow).onset = 2 ∧ Channel.lubeLow ∉ s.monitor.conditions ∧ (s.channel .overspeed).onset ≤ 1 ∧
      clampReading .lube raw.lube < s.store.look (lubeLookup (speedBand s.frontEnd.reported)) :=
  ⟨({ calm with lube := 99 }), .cooldown,
    (turning (heldBy { chosen .cooldown with monitor := { quietMonitor .cooldown with channels := { (quietMonitor .cooldown).channels with lubeLow := ⟨true, 2, 0⟩ } } } .cab 3) 330),
    (by decide +kernel), (by decide +kernel), (by decide +kernel),
    ⟨fun _ c => by cases c <;> decide +kernel, fun h => absurd h (by decide +kernel),
      fun c => by cases c <;> decide +kernel, by decide +kernel, by decide +kernel, by decide +kernel,
      fun c => by cases c <;> decide +kernel, fun c => by cases c <;> decide +kernel⟩,
    (by decide +kernel), (by decide +kernel), (by decide +kernel), (by decide +kernel), (by decide +kernel),
    (by decide +kernel), (by decide +kernel)⟩

theorem witness_ThirdOverspeedScanTrips_crankcase :
    ∃ (raw : PerAnalog Int) (st : EngineState) (s : State),
      s.live = true ∧ s.engine.awaitingChoice = false ∧ s.engine.state = some st ∧ MonitorSound s ∧
      s.monitor.trips = [] ∧ s.entry .protection = Entry.reset ∧ st = .starting .crank ∧
      s.filtered .crankcaseSwitch = true ∧ 5 ≤ s.sequencer.run.getD 0 ∧
      (after (exec .speedMeasurement s)).frontEnd.quality = .good ∧
      (after (exec .speedMeasurement s)).frontEnd.measured = some 160 :=
  ⟨calm, ((.starting .crank)),
    (({ chosen (.starting .crank) with frontEnd := { (chosen (.starting .crank)).frontEnd with pulses := List.replicate 32 100049 } }).withInput .crankcaseSwitch ⟨true, true, true, none⟩),
    (by decide +kernel), (by decide +kernel), (by decide +kernel),
    ⟨fun _ c => by cases c <;> decide +kernel, fun h => absurd h (by decide +kernel),
      fun c => by cases c <;> decide +kernel, by decide +kernel, by decide +kernel, by decide +kernel,
      fun c => by cases c <;> decide +kernel, fun c => by cases c <;> decide +kernel⟩,
    (by decide +kernel), (by decide +kernel), (by decide +kernel), (by decide +kernel), (by decide +kernel),
    (by decide +kernel), (by decide +kernel)⟩

theorem witness_MeasurementCountsPulses :
    ∃ (s : State),
      s.live = true :=
  ⟨(chosen .running), by decide +kernel⟩

theorem witness_QualityFollowsTheRuns_stays_good :
    ∃ (jump : Bool) (quiet : Bool) (j : Bool) (q : Bool) (m : Nat) (s : State) (t : State),
      s.live = true ∧ exec .speedMeasurement s = .next t ∧ t.frontEnd.measured = some m ∧
      jump = (match s.frontEnd.measured with
      | some p => decide (150 < distance (t.frontEnd.measured.getD 0) p)
      | none => false) ∧
      quiet = (decide (t.frontEnd.pulseCount = 0) && s.outputs.fuelRun && decide (250 ≤ s.frontEnd.settled)) ∧
      j = (jump && decide (s.frontEnd.jumpRun = 2)) ∧ q = (quiet && decide (s.frontEnd.silenceRun = 2)) ∧
      s.frontEnd.quality = .good :=
  ⟨false, false, false, false, 0,
    ({ chosen .running with frontEnd := { (chosen .running).frontEnd with measured := some 150 } }), _,
    (by decide +kernel), rfl, (by decide +kernel), (by decide +kernel), (by decide +kernel), (by decide +kernel),
    (by decide +kernel), (by decide +kernel)⟩

theorem witness_QualityFollowsTheRuns_erratic :
    ∃ (jump : Bool) (quiet : Bool) (j : Bool) (q : Bool) (m : Nat) (s : State) (t : State),
      s.live = true ∧ exec .speedMeasurement s = .next t ∧ t.frontEnd.measured = some m ∧
      jump = (match s.frontEnd.measured with
      | some p => decide (150 < distance (t.frontEnd.measured.getD 0) p)
      | none => false) ∧
      quiet = (decide (t.frontEnd.pulseCount = 0) && s.outputs.fuelRun && decide (250 ≤ s.frontEnd.settled)) ∧
      j = (jump && decide (s.frontEnd.jumpRun = 2)) ∧ q = (quiet && decide (s.frontEnd.silenceRun = 2)) ∧
      s.frontEnd.quality = .good :=
  ⟨true, false, true, false, 0,
    ({ chosen .running with frontEnd := { (chosen .running).frontEnd with measured := some 151, jumpRun := 2 } }), _,
    (by decide +kernel), rfl, (by decide +kernel), (by decide +kernel), (by decide +kernel), (by decide +kernel),
    (by decide +kernel), (by decide +kernel)⟩

theorem witness_QualityFollowsTheRuns_lost :
    ∃ (jump : Bool) (quiet : Bool) (j : Bool) (q : Bool) (m : Nat) (s : State) (t : State),
      s.live = true ∧ exec .speedMeasurement s = .next t ∧ t.frontEnd.measured = some m ∧
      jump = (match s.frontEnd.measured with
      | some p => decide (150 < distance (t.frontEnd.measured.getD 0) p)
      | none => false) ∧
      quiet = (decide (t.frontEnd.pulseCount = 0) && s.outputs.fuelRun && decide (250 ≤ s.frontEnd.settled)) ∧
      j = (jump && decide (s.frontEnd.jumpRun = 2)) ∧ q = (quiet && decide (s.frontEnd.silenceRun = 2)) ∧
      s.frontEnd.quality = .good :=
  ⟨false, true, false, true, 0,
    ({ chosen .running with frontEnd := { (chosen .running).frontEnd with measured := some 0, silenceRun := 2, settled := 250 } }),
    _, (by decide +kernel), rfl, (by decide +kernel), (by decide +kernel), (by decide +kernel), (by decide +kernel),
    (by decide +kernel), (by decide +kernel)⟩

theorem witness_QualityFollowsTheRuns_recovered :
    ∃ (jump : Bool) (quiet : Bool) (j : Bool) (q : Bool) (m : Nat) (s : State) (t : State),
      s.live = true ∧ exec .speedMeasurement s = .next t ∧ t.frontEnd.measured = some m ∧
      jump = (match s.frontEnd.measured with
      | some p => decide (150 < distance (t.frontEnd.measured.getD 0) p)
      | none => false) ∧
      quiet = (decide (t.frontEnd.pulseCount = 0) && s.outputs.fuelRun && decide (250 ≤ s.frontEnd.settled)) ∧
      j = (jump && decide (s.frontEnd.jumpRun = 2)) ∧ q = (quiet && decide (s.frontEnd.silenceRun = 2)) ∧
      s.frontEnd.quality ≠ .good ∧ 9 ≤ s.frontEnd.recoveryRun :=
  ⟨false, false, false, false, 0,
    ({ chosen .running with frontEnd := { (chosen .running).frontEnd with measured := some 0, quality := .erratic, recoveryRun := 9 } }),
    _, (by decide +kernel), rfl, (by decide +kernel), (by decide +kernel), (by decide +kernel), (by decide +kernel),
    (by decide +kernel), (by decide +kernel), (by decide +kernel)⟩

theorem witness_QualityFollowsTheRuns_not_plausible :
    ∃ (jump : Bool) (quiet : Bool) (j : Bool) (q : Bool) (m : Nat) (s : State) (t : State),
      s.live = true ∧ exec .speedMeasurement s = .next t ∧ t.frontEnd.measured = some m ∧
      jump = (match s.frontEnd.measured with
      | some p => decide (150 < distance (t.frontEnd.measured.getD 0) p)
      | none => false) ∧
      quiet = (decide (t.frontEnd.pulseCount = 0) && s.outputs.fuelRun && decide (250 ≤ s.frontEnd.settled)) ∧
      j = (jump && decide (s.frontEnd.jumpRun = 2)) ∧ q = (quiet && decide (s.frontEnd.silenceRun = 2)) ∧
      s.frontEnd.quality = .lost ∧ t.frontEnd.pulseCount = 0 :=
  ⟨false, false, false, false, 0,
    ({ chosen .running with frontEnd := { (chosen .running).frontEnd with measured := some 0, quality := .lost, recoveryRun := 9 } }),
    _, (by decide +kernel), rfl, (by decide +kernel), (by decide +kernel), (by decide +kernel), (by decide +kernel),
    (by decide +kernel), (by decide +kernel), (by decide +kernel)⟩

theorem witness_QualityFollowsTheRuns_erratic_to_lost :
    ∃ (jump : Bool) (quiet : Bool) (j : Bool) (q : Bool) (m : Nat) (s : State) (t : State),
      s.live = true ∧ exec .speedMeasurement s = .next t ∧ t.frontEnd.measured = some m ∧
      jump = (match s.frontEnd.measured with
      | some p => decide (150 < distance (t.frontEnd.measured.getD 0) p)
      | none => false) ∧
      quiet = (decide (t.frontEnd.pulseCount = 0) && s.outputs.fuelRun && decide (250 ≤ s.frontEnd.settled)) ∧
      j = (jump && decide (s.frontEnd.jumpRun = 2)) ∧ q = (quiet && decide (s.frontEnd.silenceRun = 2)) ∧
      s.frontEnd.quality = .erratic :=
  ⟨false, true, false, true, 0,
    ({ chosen .running with frontEnd := { (chosen .running).frontEnd with measured := some 0, quality := .erratic, silenceRun := 2, settled := 250 } }),
    _, (by decide +kernel), rfl, (by decide +kernel), (by decide +kernel), (by decide +kernel), (by decide +kernel),
    (by decide +kernel), (by decide +kernel)⟩

theorem witness_QualityFollowsTheRuns_lost_to_erratic :
    ∃ (jump : Bool) (quiet : Bool) (j : Bool) (q : Bool) (m : Nat) (s : State) (t : State),
      s.live = true ∧ exec .speedMeasurement s = .next t ∧ t.frontEnd.measured = some m ∧
      jump = (match s.frontEnd.measured with
      | some p => decide (150 < distance (t.frontEnd.measured.getD 0) p)
      | none => false) ∧
      quiet = (decide (t.frontEnd.pulseCount = 0) && s.outputs.fuelRun && decide (250 ≤ s.frontEnd.settled)) ∧
      j = (jump && decide (s.frontEnd.jumpRun = 2)) ∧ q = (quiet && decide (s.frontEnd.silenceRun = 2)) ∧
      s.frontEnd.quality = .lost :=
  ⟨true, false, true, false, 0,
    ({ chosen .running with frontEnd := { (chosen .running).frontEnd with measured := some 151, quality := .lost, jumpRun := 2 } }),
    _, (by decide +kernel), rfl, (by decide +kernel), (by decide +kernel), (by decide +kernel), (by decide +kernel),
    (by decide +kernel), (by decide +kernel)⟩

theorem witness_QualityFollowsTheRuns_settled_stands_in_a_run :
    ∃ (jump : Bool) (quiet : Bool) (j : Bool) (q : Bool) (m : Nat) (s : State) (t : State),
      s.live = true ∧ exec .speedMeasurement s = .next t ∧ t.frontEnd.measured = some m ∧
      jump = (match s.frontEnd.measured with
      | some p => decide (150 < distance (t.frontEnd.measured.getD 0) p)
      | none => false) ∧
      quiet = (decide (t.frontEnd.pulseCount = 0) && s.outputs.fuelRun && decide (250 ≤ s.frontEnd.settled)) ∧
      j = (jump && decide (s.frontEnd.jumpRun = 2)) ∧ q = (quiet && decide (s.frontEnd.silenceRun = 2)) ∧
      s.frontEnd.quality = .good ∧ t.frontEnd.quality = .good ∧ t.frontEnd.jumpRun = 1 :=
  ⟨true, false, false, false, 0,
    ({ chosen .running with frontEnd := { (chosen .running).frontEnd with measured := some 151, settled := 140 } }),
    _, (by decide +kernel), rfl, (by decide +kernel), (by decide +kernel), (by decide +kernel), (by decide +kernel),
    (by decide +kernel), (by decide +kernel), (by decide +kernel), (by decide +kernel)⟩

theorem witness_QualityFollowsTheRuns_settled_stands_in_silence :
    ∃ (jump : Bool) (quiet : Bool) (j : Bool) (q : Bool) (m : Nat) (s : State) (t : State),
      s.live = true ∧ exec .speedMeasurement s = .next t ∧ t.frontEnd.measured = some m ∧
      jump = (match s.frontEnd.measured with
      | some p => decide (150 < distance (t.frontEnd.measured.getD 0) p)
      | none => false) ∧
      quiet = (decide (t.frontEnd.pulseCount = 0) && s.outputs.fuelRun && decide (250 ≤ s.frontEnd.settled)) ∧
      j = (jump && decide (s.frontEnd.jumpRun = 2)) ∧ q = (quiet && decide (s.frontEnd.silenceRun = 2)) ∧
      s.frontEnd.quality = .good ∧ t.frontEnd.quality = .good ∧ t.frontEnd.silenceRun = 1 :=
  ⟨false, true, false, false, 0,
    ({ chosen .running with frontEnd := { (chosen .running).frontEnd with measured := some 0, settled := 250 } }), _,
    (by decide +kernel), rfl, (by decide +kernel), (by decide +kernel), (by decide +kernel), (by decide +kernel),
    (by decide +kernel), (by decide +kernel), (by decide +kernel), (by decide +kernel)⟩

theorem witness_EngineStateIsChosen_running :
    ∃ (s : State),
      s.live = true ∧ s.engine.awaitingChoice = true ∧
      (s.engine.stopKind = none ∧ s.engine.cooldownEnd = none ∧ s.engine.rundownEnd = none) ∧ MonitorSound s ∧
      s.monitor.trips = [] ∧
      tripsAtArming s (stateFound s (after (exec .speedMeasurement s)).frontEnd.reported) = [] ∧
      s.outputs.fuelRun = true ∧ (after (exec .speedMeasurement s)).frontEnd.reported = 280 ∧
      stateFound s (after (exec .speedMeasurement s)).frontEnd.reported = .running :=
  ⟨({ State.reset with now := 100000, frontEnd := { State.reset.frontEnd with scan := some calm, pulses := List.replicate 56 100000, nextMeasurement := 100000 }, engine := { Engine.reset with layupMark := false }, outputs := { Outputs.reset with fuelRun := true } }),
    (by decide +kernel), (by decide +kernel), (by decide +kernel),
    ⟨fun h => absurd h (by decide +kernel), fun _ c _ => by cases c <;> first | rfl | contradiction,
      fun c => by cases c <;> decide +kernel, by decide +kernel, by decide +kernel, by decide +kernel,
      fun c => by cases c <;> decide +kernel, fun c => by cases c <;> decide +kernel⟩,
    (by decide +kernel), (by decide +kernel), (by decide +kernel), (by decide +kernel), (by decide +kernel)⟩

theorem witness_EngineStateIsChosen_fuel_cut :
    ∃ (s : State),
      s.live = true ∧ s.engine.awaitingChoice = true ∧
      (s.engine.stopKind = none ∧ s.engine.cooldownEnd = none ∧ s.engine.rundownEnd = none) ∧ MonitorSound s ∧
      s.monitor.trips = [] ∧
      tripsAtArming s (stateFound s (after (exec .speedMeasurement s)).frontEnd.reported) = [] ∧
      s.outputs.fuelRun = true ∧ (after (exec .speedMeasurement s)).frontEnd.reported < 280 ∧
      stateFound s (after (exec .speedMeasurement s)).frontEnd.reported = .rundown :=
  ⟨({ State.reset with now := 100000, frontEnd := { State.reset.frontEnd with scan := some calm, pulses := List.replicate 55 100000, nextMeasurement := 100000 }, engine := { Engine.reset with layupMark := false }, outputs := { Outputs.reset with fuelRun := true } }),
    (by decide +kernel), (by decide +kernel), (by decide +kernel),
    ⟨fun h => absurd h (by decide +kernel), fun _ c _ => by cases c <;> first | rfl | contradiction,
      fun c => by cases c <;> decide +kernel, by decide +kernel, by decide +kernel, by decide +kernel,
      fun c => by cases c <;> decide +kernel, fun c => by cases c <;> decide +kernel⟩,
    (by decide +kernel), (by decide +kernel), (by decide +kernel), (by decide +kernel), (by decide +kernel)⟩

theorem witness_EngineStateIsChosen_rundown :
    ∃ (s : State),
      s.live = true ∧ s.engine.awaitingChoice = true ∧
      (s.engine.stopKind = none ∧ s.engine.cooldownEnd = none ∧ s.engine.rundownEnd = none) ∧ MonitorSound s ∧
      s.monitor.trips = [] ∧
      tripsAtArming s (stateFound s (after (exec .speedMeasurement s)).frontEnd.reported) = [] ∧
      s.outputs.fuelRun = false ∧ (after (exec .speedMeasurement s)).frontEnd.reported = 20 ∧
      stateFound s (after (exec .speedMeasurement s)).frontEnd.reported = .rundown :=
  ⟨({ State.reset with now := 100000, frontEnd := { State.reset.frontEnd with scan := some calm, pulses := List.replicate 4 100000, nextMeasurement := 100000 }, engine := { Engine.reset with layupMark := true }, outputs := { Outputs.reset with fuelRun := false } }),
    (by decide +kernel), (by decide +kernel), (by decide +kernel),
    ⟨fun h => absurd h (by decide +kernel), fun _ c _ => by cases c <;> first | rfl | contradiction,
      fun c => by cases c <;> decide +kernel, by decide +kernel, by decide +kernel, by decide +kernel,
      fun c => by cases c <;> decide +kernel, fun c => by cases c <;> decide +kernel⟩,
    (by decide +kernel), (by decide +kernel), (by decide +kernel), (by decide +kernel), (by decide +kernel)⟩

theorem witness_EngineStateIsChosen_at_rest :
    ∃ (s : State),
      s.live = true ∧ s.engine.awaitingChoice = true ∧
      (s.engine.stopKind = none ∧ s.engine.cooldownEnd = none ∧ s.engine.rundownEnd = none) ∧ MonitorSound s ∧
      s.monitor.trips = [] ∧
      tripsAtArming s (stateFound s (after (exec .speedMeasurement s)).frontEnd.reported) = [] ∧
      s.outputs.fuelRun = false ∧ (after (exec .speedMeasurement s)).frontEnd.reported < 20 ∧
      stateFound s (after (exec .speedMeasurement s)).frontEnd.reported = .laidUp ∧
      ¬ wakeDue (after (exec .speedMeasurement s)) :=
  ⟨({ State.reset with now := 100000, frontEnd := { State.reset.frontEnd with scan := some calm, pulses := List.replicate 3 100000, nextMeasurement := 100000 }, engine := { Engine.reset with layupMark := true }, outputs := { Outputs.reset with fuelRun := false } }),
    (by decide +kernel), (by decide +kernel), (by decide +kernel),
    ⟨fun h => absurd h (by decide +kernel), fun _ c _ => by cases c <;> first | rfl | contradiction,
      fun c => by cases c <;> decide +kernel, by decide +kernel, by decide +kernel, by decide +kernel,
      fun c => by cases c <;> decide +kernel, fun c => by cases c <;> decide +kernel⟩,
    (by decide +kernel), (by decide +kernel), (by decide +kernel), (by decide +kernel), (by decide +kernel),
    (by unfold wakeDue; decide +kernel)⟩

theorem witness_EngineStateIsChosen_stopped :
    ∃ (s : State),
      s.live = true ∧ s.engine.awaitingChoice = true ∧
      (s.engine.stopKind = none ∧ s.engine.cooldownEnd = none ∧ s.engine.rundownEnd = none) ∧ MonitorSound s ∧
      s.monitor.trips = [] ∧
      tripsAtArming s (stateFound s (after (exec .speedMeasurement s)).frontEnd.reported) = [] ∧
      stateFound s (after (exec .speedMeasurement s)).frontEnd.reported = .stopped :=
  ⟨({ State.reset with now := 100000, frontEnd := { State.reset.frontEnd with scan := some calm, pulses := List.replicate 0 100000, nextMeasurement := 100000 }, engine := { Engine.reset with layupMark := false }, outputs := { Outputs.reset with fuelRun := false } }),
    (by decide +kernel), (by decide +kernel), (by decide +kernel),
    ⟨fun h => absurd h (by decide +kernel), fun _ c _ => by cases c <;> first | rfl | contradiction,
      fun c => by cases c <;> decide +kernel, by decide +kernel, by decide +kernel, by decide +kernel,
      fun c => by cases c <;> decide +kernel, fun c => by cases c <;> decide +kernel⟩,
    (by decide +kernel), (by decide +kernel), (by decide +kernel)⟩

theorem witness_EngineStateIsChosen_wakes :
    ∃ (s : State),
      s.live = true ∧ s.engine.awaitingChoice = true ∧
      (s.engine.stopKind = none ∧ s.engine.cooldownEnd = none ∧ s.engine.rundownEnd = none) ∧ MonitorSound s ∧
      s.monitor.trips = [] ∧
      tripsAtArming s (stateFound s (after (exec .speedMeasurement s)).frontEnd.reported) = [] ∧
      stateFound s (after (exec .speedMeasurement s)).frontEnd.reported = .laidUp ∧
      wakeDue (after (exec .speedMeasurement s)) :=
  ⟨(sensing ({ State.reset with now := 100000, frontEnd := { State.reset.frontEnd with scan := some calm, pulses := List.replicate 3 100000, nextMeasurement := 100000 }, engine := { Engine.reset with layupMark := true }, outputs := { Outputs.reset with fuelRun := false } }) { calm with coolant := 34 }),
    (by decide +kernel), (by decide +kernel), (by decide +kernel),
    ⟨fun h => absurd h (by decide +kernel), fun _ c _ => by cases c <;> first | rfl | contradiction,
      fun c => by cases c <;> decide +kernel, by decide +kernel, by decide +kernel, by decide +kernel,
      fun c => by cases c <;> decide +kernel, fun c => by cases c <;> decide +kernel⟩,
    (by decide +kernel), (by decide +kernel), (by decide +kernel), (by unfold wakeDue; decide +kernel)⟩

theorem witness_EngineStateIsChosen_trips :
    ∃ (s : State),
      s.live = true ∧ s.engine.awaitingChoice = true ∧
      (s.engine.stopKind = none ∧ s.engine.cooldownEnd = none ∧ s.engine.rundownEnd = none) ∧ MonitorSound s ∧
      s.monitor.trips = [] ∧
      tripsAtArming s (stateFound s (after (exec .speedMeasurement s)).frontEnd.reported) = [.fuelCutoff] ∧
      s.entry .protection = Entry.reset :=
  ⟨(({ State.reset with now := 100000, frontEnd := { State.reset.frontEnd with scan := some calm, pulses := List.replicate 0 100000, nextMeasurement := 100000 }, engine := { Engine.reset with layupMark := false }, outputs := { Outputs.reset with fuelRun := false } }).withInput .fuelCutoffLoop ⟨true, true, true, none⟩),
    (by decide +kernel), (by decide +kernel), (by decide +kernel),
    ⟨fun h => absurd h (by decide +kernel), fun _ c _ => by cases c <;> first | rfl | contradiction,
      fun c => by cases c <;> decide +kernel, by decide +kernel, by decide +kernel, by decide +kernel,
      fun c => by cases c <;> decide +kernel, fun c => by cases c <;> decide +kernel⟩,
    (by decide +kernel), (by decide +kernel), (by decide +kernel)⟩

theorem witness_EngineStateIsChosen_trips_before_a_wake :
    ∃ (s : State),
      s.live = true ∧ s.engine.awaitingChoice = true ∧
      (s.engine.stopKind = none ∧ s.engine.cooldownEnd = none ∧ s.engine.rundownEnd = none) ∧ MonitorSound s ∧
      s.monitor.trips = [] ∧
      tripsAtArming s (stateFound s (after (exec .speedMeasurement s)).frontEnd.reported) = [.fuelCutoff] ∧
      s.entry .protection = Entry.reset ∧
      stateFound s (after (exec .speedMeasurement s)).frontEnd.reported = .laidUp ∧ s.coolantCause = true :=
  ⟨((sensing ({ State.reset with now := 100000, frontEnd := { State.reset.frontEnd with scan := some calm, pulses := List.replicate 3 100000, nextMeasurement := 100000 }, engine := { Engine.reset with layupMark := true }, outputs := { Outputs.reset with fuelRun := false } }) { calm with coolant := 34 }).withInput .fuelCutoffLoop ⟨true, true, true, none⟩),
    (by decide +kernel), (by decide +kernel), (by decide +kernel),
    ⟨fun h => absurd h (by decide +kernel), fun _ c _ => by cases c <;> first | rfl | contradiction,
      fun c => by cases c <;> decide +kernel, by decide +kernel, by decide +kernel, by decide +kernel,
      fun c => by cases c <;> decide +kernel, fun c => by cases c <;> decide +kernel⟩,
    (by decide +kernel), (by decide +kernel), (by decide +kernel), (by decide +kernel), (by decide +kernel)⟩

theorem witness_EngineStateIsChosen_trips_twice :
    ∃ (s : State),
      s.live = true ∧ s.engine.awaitingChoice = true ∧
      (s.engine.stopKind = none ∧ s.engine.cooldownEnd = none ∧ s.engine.rundownEnd = none) ∧ MonitorSound s ∧
      s.monitor.trips = [] ∧
      tripsAtArming s (stateFound s (after (exec .speedMeasurement s)).frontEnd.reported) = [.crankcase, .coolantLevel] ∧
      s.entry .protection = Entry.reset :=
  ⟨((({ State.reset with now := 100000, frontEnd := { State.reset.frontEnd with scan := some calm, pulses := List.replicate 4 100000, nextMeasurement := 100000 }, engine := { Engine.reset with layupMark := false }, outputs := { Outputs.reset with fuelRun := false } }).withInput .crankcaseSwitch ⟨true, true, true, none⟩).withInput .coolantLevelSwitch ⟨true, true, true, none⟩),
    (by decide +kernel), (by decide +kernel), (by decide +kernel),
    ⟨fun h => absurd h (by decide +kernel), fun _ c _ => by cases c <;> first | rfl | contradiction,
      fun c => by cases c <;> decide +kernel, by decide +kernel, by decide +kernel, by decide +kernel,
      fun c => by cases c <;> decide +kernel, fun c => by cases c <;> decide +kernel⟩,
    (by decide +kernel), (by decide +kernel), (by decide +kernel)⟩

theorem witness_EngineStateIsChosen_tripped :
    ∃ (s : State),
      s.live = true ∧ s.engine.awaitingChoice = true ∧
      (s.engine.stopKind = none ∧ s.engine.cooldownEnd = none ∧ s.engine.rundownEnd = none) ∧ MonitorSound s ∧
      s.monitor.trips ≠ [] ∧ stateFound s (after (exec .speedMeasurement s)).frontEnd.reported = .tripped :=
  ⟨({ State.reset with engine := { Engine.reset with state := some .tripped }, monitor := { Monitor.reset with trips := [⟨.overspeed, none⟩] }, outputs := { Outputs.reset with alert := true }, frontEnd := { State.reset.frontEnd with scan := some calm } }),
    (by decide +kernel), (by decide +kernel), (by decide +kernel),
    ⟨fun h => absurd h (by decide +kernel), fun _ c _ => by cases c <;> first | rfl | contradiction,
      fun c => by cases c <;> decide +kernel, by decide +kernel, by decide +kernel, by decide +kernel,
      fun c => by cases c <;> decide +kernel, fun c => by cases c <;> decide +kernel⟩,
    (by decide +kernel), (by decide +kernel)⟩

theorem witness_EngineStateIsChosen_later_onset :
    ∃ (s : State),
      s.live = true ∧ s.engine.awaitingChoice = true ∧
      (s.engine.stopKind = none ∧ s.engine.cooldownEnd = none ∧ s.engine.rundownEnd = none) ∧ MonitorSound s ∧
      s.monitor.trips ≠ [] ∧
      tripsAtArming s (stateFound s (after (exec .speedMeasurement s)).frontEnd.reported) = [.fuelCutoff] ∧
      s.tripListed .fuelCutoff = false :=
  ⟨(({ State.reset with engine := { Engine.reset with state := some .tripped }, monitor := { Monitor.reset with trips := [⟨.overspeed, none⟩] }, outputs := { Outputs.reset with alert := true }, frontEnd := { State.reset.frontEnd with scan := some calm } }).withInput .fuelCutoffLoop ⟨true, true, true, none⟩),
    (by decide +kernel), (by decide +kernel), (by decide +kernel),
    ⟨fun h => absurd h (by decide +kernel), fun _ c _ => by cases c <;> first | rfl | contradiction,
      fun c => by cases c <;> decide +kernel, by decide +kernel, by decide +kernel, by decide +kernel,
      fun c => by cases c <;> decide +kernel, fun c => by cases c <;> decide +kernel⟩,
    (by decide +kernel), (by decide +kernel), (by decide +kernel)⟩

theorem witness_EngineFiresAndCatches_sixth :
    ∃ (s : State),
      s.live = true ∧ s.engine.awaitingChoice = false ∧ MonitorSound s ∧
      (s.engine.state = some (.starting .crank) ∧ s.filtered .crankcaseSwitch = false ∨ s.engine.state = some (.starting .catching) ∨ s.engine.state = some (.starting .rest)) ∧
      s.engine.state = some (.starting .crank) ∧ (after (exec .speedMeasurement s)).frontEnd.measured = some 160 ∧
      5 ≤ s.sequencer.run.getD 0 ∧ (after (exec .speedMeasurement s)).frontEnd.quality = .good :=
  ⟨({ chosen (.starting .crank) with frontEnd := { (chosen (.starting .crank)).frontEnd with pulses := List.replicate 32 100049 } }),
    (by decide +kernel), (by decide +kernel), (monitorSound_of (.starting .crank) rfl rfl rfl rfl),
    (by decide +kernel), (by decide +kernel), (by decide +kernel), (by decide +kernel), (by decide +kernel)⟩

theorem witness_EngineFiresAndCatches_broken :
    ∃ (s : State),
      s.live = true ∧ s.engine.awaitingChoice = false ∧ MonitorSound s ∧
      (s.engine.state = some (.starting .crank) ∧ s.filtered .crankcaseSwitch = false ∨ s.engine.state = some (.starting .catching) ∨ s.engine.state = some (.starting .rest)) ∧
      s.engine.state = some (.starting .crank) ∧ (after (exec .speedMeasurement s)).frontEnd.measured = some 155 :=
  ⟨({ chosen (.starting .crank) with frontEnd := { (chosen (.starting .crank)).frontEnd with pulses := List.replicate 31 100049 } }),
    (by decide +kernel), (by decide +kernel), (monitorSound_of (.starting .crank) rfl rfl rfl rfl),
    (by decide +kernel), (by decide +kernel), (by decide +kernel)⟩

theorem witness_EngineFiresAndCatches_catches :
    ∃ (s : State),
      s.live = true ∧ s.engine.awaitingChoice = false ∧ MonitorSound s ∧
      (s.engine.state = some (.starting .crank) ∧ s.filtered .crankcaseSwitch = false ∨ s.engine.state = some (.starting .catching) ∨ s.engine.state = some (.starting .rest)) ∧
      s.engine.state = some (.starting .catching) ∧ (after (exec .speedMeasurement s)).frontEnd.reported = 280 :=
  ⟨({ chosen (.starting .catching) with frontEnd := { (chosen (.starting .catching)).frontEnd with pulses := List.replicate 56 100049 } }),
    (by decide +kernel), (by decide +kernel), (monitorSound_of (.starting .catching) rfl rfl rfl rfl),
    (by decide +kernel), (by decide +kernel), (by decide +kernel)⟩

theorem witness_EngineFiresAndCatches_not_good :
    ∃ (s : State),
      s.live = true ∧ s.engine.awaitingChoice = false ∧ MonitorSound s ∧
      (s.engine.state = some (.starting .crank) ∧ s.filtered .crankcaseSwitch = false ∨ s.engine.state = some (.starting .catching) ∨ s.engine.state = some (.starting .rest)) ∧
      s.engine.state = some (.starting .crank) ∧ s.frontEnd.quality ≠ .good ∧
      (after (exec .speedMeasurement s)).frontEnd.quality ≠ .good :=
  ⟨({ chosen (.starting .crank) with frontEnd := { (chosen (.starting .crank)).frontEnd with pulses := List.replicate 32 100049, quality := .erratic }, sequencer := { (chosen (.starting .crank)).sequencer with run := some 5 } }),
    (by decide +kernel), (by decide +kernel), (monitorSound_of (.starting .crank) rfl rfl rfl rfl),
    (by decide +kernel), (by decide +kernel), (by decide +kernel), (by decide +kernel)⟩

theorem witness_EngineFiresAndCatches_lost :
    ∃ (s : State),
      s.live = true ∧ s.engine.awaitingChoice = false ∧ MonitorSound s ∧
      (s.engine.state = some (.starting .crank) ∧ s.filtered .crankcaseSwitch = false ∨ s.engine.state = some (.starting .catching) ∨ s.engine.state = some (.starting .rest)) ∧
      s.engine.state = some (.starting .crank) ∧ s.frontEnd.quality = .good ∧
      (after (exec .speedMeasurement s)).frontEnd.quality = .lost :=
  ⟨({ chosen (.starting .crank) with frontEnd := { (chosen (.starting .crank)).frontEnd with pulses := List.replicate 0 100049, measured := some 0, silenceRun := 2, settled := 250 }, sequencer := { (chosen (.starting .crank)).sequencer with run := some 5 } }),
    (by decide +kernel), (by decide +kernel), (monitorSound_of (.starting .crank) rfl rfl rfl rfl),
    (by decide +kernel), (by decide +kernel), (by decide +kernel), (by decide +kernel)⟩

theorem witness_EngineFiresAndCatches_erratic :
    ∃ (s : State),
      s.live = true ∧ s.engine.awaitingChoice = false ∧ MonitorSound s ∧
      (s.engine.state = some (.starting .crank) ∧ s.filtered .crankcaseSwitch = false ∨ s.engine.state = some (.starting .catching) ∨ s.engine.state = some (.starting .rest)) ∧
      s.engine.state = some (.starting .crank) ∧ s.frontEnd.quality = .good ∧
      (after (exec .speedMeasurement s)).frontEnd.quality = .erratic ∧ s.settings.erraticPolicy ≠ 1 :=
  ⟨({ chosen (.starting .crank) with frontEnd := { (chosen (.starting .crank)).frontEnd with pulses := List.replicate 0 100049, measured := some 151, jumpRun := 2 }, sequencer := { (chosen (.starting .crank)).sequencer with run := some 5 } }),
    (by decide +kernel), (by decide +kernel), (monitorSound_of (.starting .crank) rfl rfl rfl rfl),
    (by decide +kernel), (by decide +kernel), (by decide +kernel), (by decide +kernel), (by decide +kernel)⟩

theorem witness_EngineFiresAndCatches_recranks :
    ∃ (s : State),
      s.live = true ∧ s.engine.awaitingChoice = false ∧ MonitorSound s ∧
      (s.engine.state = some (.starting .crank) ∧ s.filtered .crankcaseSwitch = false ∨ s.engine.state = some (.starting .catching) ∨ s.engine.state = some (.starting .rest)) ∧
      s.engine.state = some (.starting .crank) ∧ s.frontEnd.quality = .good ∧
      (after (exec .speedMeasurement s)).frontEnd.quality = .erratic ∧ s.settings.erraticPolicy = 1 ∧
      s.outputs.fuelRun = true ∧ s.sequencer.record = some (startOf .crank) :=
  ⟨(tuned { chosen (.starting .crank) with frontEnd := { (chosen (.starting .crank)).frontEnd with pulses := List.replicate 0 100049, measured := some 151, jumpRun := 2 }, sequencer := { (chosen (.starting .crank)).sequencer with run := some 5 } } .erraticPolicy 1),
    (by decide +kernel), (by decide +kernel), (monitorSound_of (.starting .crank) rfl rfl rfl rfl),
    (by decide +kernel), (by decide +kernel), (by decide +kernel), (by decide +kernel), (by decide +kernel),
    (by decide +kernel), (by decide +kernel)⟩

theorem witness_EngineFiresAndCatches_below_catch :
    ∃ (s : State),
      s.live = true ∧ s.engine.awaitingChoice = false ∧ MonitorSound s ∧
      (s.engine.state = some (.starting .crank) ∧ s.filtered .crankcaseSwitch = false ∨ s.engine.state = some (.starting .catching) ∨ s.engine.state = some (.starting .rest)) ∧
      s.engine.state = some (.starting .catching) ∧ 60 ≤ (after (exec .speedMeasurement s)).frontEnd.reported ∧
      (after (exec .speedMeasurement s)).frontEnd.reported < 280 ∧
      (after (exec .speedMeasurement s)).frontEnd.reported = 60 :=
  ⟨({ chosen (.starting .catching) with frontEnd := { (chosen (.starting .catching)).frontEnd with pulses := List.replicate 12 100049, measured := some 60 }, sequencer := { (chosen (.starting .catching)).sequencer with run := some 2 } }),
    (by decide +kernel), (by decide +kernel), (monitorSound_of (.starting .catching) rfl rfl rfl rfl),
    (by decide +kernel), (by decide +kernel), (by decide +kernel), (by decide +kernel), (by decide +kernel)⟩

theorem witness_EngineFiresAndCatches_almost_caught :
    ∃ (s : State),
      s.live = true ∧ s.engine.awaitingChoice = false ∧ MonitorSound s ∧
      (s.engine.state = some (.starting .crank) ∧ s.filtered .crankcaseSwitch = false ∨ s.engine.state = some (.starting .catching) ∨ s.engine.state = some (.starting .rest)) ∧
      s.engine.state = some (.starting .catching) ∧ 60 ≤ (after (exec .speedMeasurement s)).frontEnd.reported ∧
      (after (exec .speedMeasurement s)).frontEnd.reported < 280 :=
  ⟨({ chosen (.starting .catching) with frontEnd := { (chosen (.starting .catching)).frontEnd with pulses := List.replicate 55 100049, measured := some 275 }, sequencer := { (chosen (.starting .catching)).sequencer with run := some 2 } }),
    (by decide +kernel), (by decide +kernel), (monitorSound_of (.starting .catching) rfl rfl rfl rfl),
    (by decide +kernel), (by decide +kernel), (by decide +kernel), (by decide +kernel)⟩

theorem witness_EngineFiresAndCatches_falls :
    ∃ (s : State),
      s.live = true ∧ s.engine.awaitingChoice = false ∧ MonitorSound s ∧
      (s.engine.state = some (.starting .crank) ∧ s.filtered .crankcaseSwitch = false ∨ s.engine.state = some (.starting .catching) ∨ s.engine.state = some (.starting .rest)) ∧
      s.engine.state = some (.starting .catching) ∧ (after (exec .speedMeasurement s)).frontEnd.reported < 60 ∧
      s.sequencer.run.getD 0 < 2 :=
  ⟨({ chosen (.starting .catching) with frontEnd := { (chosen (.starting .catching)).frontEnd with pulses := List.replicate 11 100049, measured := some 55 }, sequencer := { (chosen (.starting .catching)).sequencer with run := some 1 } }),
    (by decide +kernel), (by decide +kernel), (monitorSound_of (.starting .catching) rfl rfl rfl rfl),
    (by decide +kernel), (by decide +kernel), (by decide +kernel), (by decide +kernel)⟩

theorem witness_EngineFiresAndCatches_stalls :
    ∃ (s : State),
      s.live = true ∧ s.engine.awaitingChoice = false ∧ MonitorSound s ∧
      (s.engine.state = some (.starting .crank) ∧ s.filtered .crankcaseSwitch = false ∨ s.engine.state = some (.starting .catching) ∨ s.engine.state = some (.starting .rest)) ∧
      s.engine.state = some (.starting .catching) ∧ (after (exec .speedMeasurement s)).frontEnd.reported < 60 ∧
      2 ≤ s.sequencer.run.getD 0 ∧ s.outputs.fuelRun = true ∧ s.sequencer.record = some (startOf .catching) :=
  ⟨({ chosen (.starting .catching) with frontEnd := { (chosen (.starting .catching)).frontEnd with pulses := List.replicate 11 100049, measured := some 55 }, sequencer := { (chosen (.starting .catching)).sequencer with run := some 2 } }),
    (by decide +kernel), (by decide +kernel), (monitorSound_of (.starting .catching) rfl rfl rfl rfl),
    (by decide +kernel), (by decide +kernel), (by decide +kernel), (by decide +kernel), (by decide +kernel),
    (by decide +kernel)⟩

theorem witness_EngineFiresAndCatches_rest_ends :
    ∃ (s : State),
      s.live = true ∧ s.engine.awaitingChoice = false ∧ MonitorSound s ∧
      (s.engine.state = some (.starting .crank) ∧ s.filtered .crankcaseSwitch = false ∨ s.engine.state = some (.starting .catching) ∨ s.engine.state = some (.starting .rest)) ∧
      s.engine.state = some (.starting .rest) ∧ s.sequencer.timer = none ∧
      (after (exec .speedMeasurement s)).frontEnd.reported < 20 :=
  ⟨({ chosen (.starting .rest) with frontEnd := { (chosen (.starting .rest)).frontEnd with pulses := List.replicate 3 100049, measured := some 15 }, sequencer := { (chosen (.starting .rest)).sequencer with timer := none } }),
    (by decide +kernel), (by decide +kernel), (monitorSound_of (.starting .rest) rfl rfl rfl rfl),
    (by decide +kernel), (by decide +kernel), (by decide +kernel), (by decide +kernel)⟩

theorem witness_EngineFiresAndCatches_rest_turning :
    ∃ (s : State),
      s.live = true ∧ s.engine.awaitingChoice = false ∧ MonitorSound s ∧
      (s.engine.state = some (.starting .crank) ∧ s.filtered .crankcaseSwitch = false ∨ s.engine.state = some (.starting .catching) ∨ s.engine.state = some (.starting .rest)) ∧
      s.engine.state = some (.starting .rest) ∧
      (s.sequencer.timer ≠ none ∨ 20 ≤ (after (exec .speedMeasurement s)).frontEnd.reported) ∧
      s.sequencer.timer = none :=
  ⟨({ chosen (.starting .rest) with frontEnd := { (chosen (.starting .rest)).frontEnd with pulses := List.replicate 4 100049, measured := some 20 }, sequencer := { (chosen (.starting .rest)).sequencer with timer := none } }),
    (by decide +kernel), (by decide +kernel), (monitorSound_of (.starting .rest) rfl rfl rfl rfl),
    (by decide +kernel), (by decide +kernel), (by decide +kernel), (by decide +kernel)⟩

theorem witness_EngineFiresAndCatches_rest_timed :
    ∃ (s : State),
      s.live = true ∧ s.engine.awaitingChoice = false ∧ MonitorSound s ∧
      (s.engine.state = some (.starting .crank) ∧ s.filtered .crankcaseSwitch = false ∨ s.engine.state = some (.starting .catching) ∨ s.engine.state = some (.starting .rest)) ∧
      s.engine.state = some (.starting .rest) ∧
      (s.sequencer.timer ≠ none ∨ 20 ≤ (after (exec .speedMeasurement s)).frontEnd.reported) ∧
      s.sequencer.timer.isSome = true :=
  ⟨({ chosen (.starting .rest) with frontEnd := { (chosen (.starting .rest)).frontEnd with pulses := List.replicate 0 100049, measured := some 0 }, sequencer := { (chosen (.starting .rest)).sequencer with run := none } }),
    (by decide +kernel), (by decide +kernel), (monitorSound_of (.starting .rest) rfl rfl rfl rfl),
    (by decide +kernel), (by decide +kernel), (by decide +kernel), (by decide +kernel)⟩

theorem witness_CooldownAndRundownEnd_cooldown :
    ∃ (e : Nat) (s : State),
      s.live = true ∧ s.engine.awaitingChoice = false ∧ MonitorSound s ∧ s.engine.state = some .cooldown ∧
      s.engine.cooldownEnd = some e :=
  ⟨100500, (chosen .cooldown), (by decide +kernel), (by decide +kernel),
    (monitorSound_of (.cooldown) rfl rfl rfl rfl), (by decide +kernel), (by decide +kernel)⟩

theorem witness_CooldownAndRundownEnd_rundown :
    ∃ (e : Nat) (s : State),
      s.live = true ∧ s.engine.awaitingChoice = false ∧ MonitorSound s ∧ s.engine.state = some .rundown ∧
      s.engine.rundownEnd = some e ∧ (after (exec .speedMeasurement s)).frontEnd.reported < 20 :=
  ⟨100500, (chosen .rundown), (by decide +kernel), (by decide +kernel),
    (monitorSound_of (.rundown) rfl rfl rfl rfl), (by decide +kernel), (by decide +kernel), (by decide +kernel)⟩

theorem witness_CooldownAndRundownEnd_still_turning :
    ∃ (e : Nat) (s : State),
      s.live = true ∧ s.engine.awaitingChoice = false ∧ MonitorSound s ∧ s.engine.state = some .rundown ∧
      (after (exec .speedMeasurement s)).frontEnd.reported = 20 :=
  ⟨100500,
    ({ chosen .rundown with frontEnd := { (chosen .rundown).frontEnd with pulses := List.replicate 4 100049 } }),
    (by decide +kernel), (by decide +kernel), (monitorSound_of (.rundown) rfl rfl rfl rfl), (by decide +kernel),
    (by decide +kernel)⟩

theorem witness_FilteredLevelFollowsItsTiming_ground_relay :
    ∃ (i : Input) (e : Nat) (s : State),
      s.live = true ∧ s.engine.awaitingChoice = false ∧ MonitorSound s ∧ (s.frontEnd.inputs.get i).since = some e ∧
      (i = .groundRelay ∨ i = .isolateSwitch ∨ i = .brakeAirSwitch ∨ (s.frontEnd.inputs.get i).selected = false ∨ ∀ c ∈ channelOf i, (s.channel c).armed = false) :=
  ⟨.groundRelay, 99900, (timing (chosen .running) .groundRelay true), (by decide +kernel), (by decide +kernel),
    (monitorSound_of (.running) rfl rfl rfl rfl), (by decide +kernel), (.inl rfl)⟩

theorem witness_FilteredLevelFollowsItsTiming_isolate_switch :
    ∃ (i : Input) (e : Nat) (s : State),
      s.live = true ∧ s.engine.awaitingChoice = false ∧ MonitorSound s ∧ (s.frontEnd.inputs.get i).since = some e ∧
      (i = .groundRelay ∨ i = .isolateSwitch ∨ i = .brakeAirSwitch ∨ (s.frontEnd.inputs.get i).selected = false ∨ ∀ c ∈ channelOf i, (s.channel c).armed = false) :=
  ⟨.isolateSwitch, 99900, (timing (chosen .running) .isolateSwitch true), (by decide +kernel), (by decide +kernel),
    (monitorSound_of (.running) rfl rfl rfl rfl), (by decide +kernel), (.inr (.inl rfl))⟩

theorem witness_FilteredLevelFollowsItsTiming_brake_air :
    ∃ (i : Input) (e : Nat) (s : State),
      s.live = true ∧ s.engine.awaitingChoice = false ∧ MonitorSound s ∧ (s.frontEnd.inputs.get i).since = some e ∧
      (i = .groundRelay ∨ i = .isolateSwitch ∨ i = .brakeAirSwitch ∨ (s.frontEnd.inputs.get i).selected = false ∨ ∀ c ∈ channelOf i, (s.channel c).armed = false) :=
  ⟨.brakeAirSwitch, 99900, (timing (chosen .stopped) .brakeAirSwitch true), (by decide +kernel),
    (by decide +kernel), (monitorSound_of (.stopped) rfl rfl rfl rfl), (by decide +kernel), (.inr (.inr (.inl rfl)))⟩

theorem witness_FilteredLevelFollowsItsTiming_trip_input_clears :
    ∃ (i : Input) (e : Nat) (s : State),
      s.live = true ∧ s.engine.awaitingChoice = false ∧ MonitorSound s ∧ (s.frontEnd.inputs.get i).since = some e ∧
      (i = .groundRelay ∨ i = .isolateSwitch ∨ i = .brakeAirSwitch ∨ (s.frontEnd.inputs.get i).selected = false ∨ ∀ c ∈ channelOf i, (s.channel c).armed = false) :=
  ⟨.crankcaseSwitch, 99900, (timing (chosen .running) .crankcaseSwitch false), (by decide +kernel),
    (by decide +kernel), (monitorSound_of (.running) rfl rfl rfl rfl), (by decide +kernel),
    (.inr (.inr (.inr (.inl (by decide +kernel)))))⟩

theorem witness_FilteredLevelFollowsItsTiming_disarmed :
    ∃ (i : Input) (e : Nat) (s : State),
      s.live = true ∧ s.engine.awaitingChoice = false ∧ MonitorSound s ∧ (s.frontEnd.inputs.get i).since = some e ∧
      (i = .groundRelay ∨ i = .isolateSwitch ∨ i = .brakeAirSwitch ∨ (s.frontEnd.inputs.get i).selected = false ∨ ∀ c ∈ channelOf i, (s.channel c).armed = false) ∧
      channelOf i = some .crankcase ∧ (s.channel .crankcase).armed = false ∧
      (s.frontEnd.inputs.get i).selected = true ∧ StepperSound s :=
  ⟨.crankcaseSwitch, 99900, (timing (chosen .stopped) .crankcaseSwitch true), (by decide +kernel),
    (by decide +kernel), (monitorSound_of (.stopped) rfl rfl rfl rfl), (by decide +kernel),
    (.inr (.inr (.inr (.inr fun c h => by cases h; decide +kernel)))), (by decide +kernel), (by decide +kernel),
    (by decide +kernel),
    ⟨by decide +kernel, by decide +kernel, by decide +kernel, by decide +kernel, by decide +kernel, by decide +kernel,
      by decide +kernel, by decide +kernel, by decide +kernel⟩⟩

theorem witness_SwitchOnsetTrips_crankcase :
    ∃ (i : Input) (c : Channel) (e : Nat) (s : State),
      s.live = true ∧ s.engine.awaitingChoice = false ∧ MonitorSound s ∧ (s.frontEnd.inputs.get i).since = some e ∧
      (s.frontEnd.inputs.get i).selected = true ∧ channelOf i = some c ∧ c.cls = .trip ∧ (s.channel c).armed = true ∧
      c ∉ s.monitor.conditions ∧ s.monitor.trips = [] ∧ s.entry .protection = Entry.reset ∧
      s.engine.state ≠ some .tripped ∧ s.engine.state ≠ none :=
  ⟨.crankcaseSwitch, .crankcase, 99900, (timing (heldBy (chosen .running) .cab 3) .crankcaseSwitch true),
    (by decide +kernel), (by decide +kernel), (monitorSound_of (.running) rfl rfl rfl rfl), (by decide +kernel),
    (by decide +kernel), (by decide +kernel), (by decide +kernel), (by decide +kernel), (by decide +kernel),
    (by decide +kernel), (by decide +kernel), (by decide +kernel), (by decide +kernel)⟩

theorem witness_SwitchOnsetTrips_cutoff :
    ∃ (i : Input) (c : Channel) (e : Nat) (s : State),
      s.live = true ∧ s.engine.awaitingChoice = false ∧ MonitorSound s ∧ (s.frontEnd.inputs.get i).since = some e ∧
      (s.frontEnd.inputs.get i).selected = true ∧ channelOf i = some c ∧ c.cls = .trip ∧ (s.channel c).armed = true ∧
      c ∉ s.monitor.conditions ∧ s.monitor.trips = [] ∧ s.entry .protection = Entry.reset ∧
      s.engine.state ≠ some .tripped ∧ s.engine.state ≠ none :=
  ⟨.fuelCutoffLoop, .fuelCutoff, 99900, (timing (heldBy (chosen .stopped) .cab 3) .fuelCutoffLoop true),
    (by decide +kernel), (by decide +kernel), (monitorSound_of (.stopped) rfl rfl rfl rfl), (by decide +kernel),
    (by decide +kernel), (by decide +kernel), (by decide +kernel), (by decide +kernel), (by decide +kernel),
    (by decide +kernel), (by decide +kernel), (by decide +kernel), (by decide +kernel)⟩

theorem witness_SwitchOnsetTrips_starting :
    ∃ (i : Input) (c : Channel) (e : Nat) (s : State),
      s.live = true ∧ s.engine.awaitingChoice = false ∧ MonitorSound s ∧ (s.frontEnd.inputs.get i).since = some e ∧
      (s.frontEnd.inputs.get i).selected = true ∧ channelOf i = some c ∧ c.cls = .trip ∧ (s.channel c).armed = true ∧
      c ∉ s.monitor.conditions ∧ s.monitor.trips = [] ∧ s.entry .protection = Entry.reset ∧
      s.engine.state ≠ some .tripped ∧ s.engine.state ≠ none :=
  ⟨.coolantLevelSwitch, .coolantLevel, 99900,
    (timing (heldBy (chosen (.starting .prelube)) .cab 3) .coolantLevelSwitch true), (by decide +kernel),
    (by decide +kernel), (monitorSound_of (.starting .prelube) rfl rfl rfl rfl), (by decide +kernel),
    (by decide +kernel), (by decide +kernel), (by decide +kernel), (by decide +kernel), (by decide +kernel),
    (by decide +kernel), (by decide +kernel), (by decide +kernel), (by decide +kernel)⟩

theorem witness_SwitchOnsetTrips_later :
    ∃ (i : Input) (c : Channel) (e : Nat) (s : State),
      s.live = true ∧ s.engine.awaitingChoice = false ∧ MonitorSound s ∧ (s.frontEnd.inputs.get i).since = some e ∧
      (s.frontEnd.inputs.get i).selected = true ∧ channelOf i = some c ∧ c.cls = .trip ∧ (s.channel c).armed = true ∧
      c ∉ s.monitor.conditions ∧ s.monitor.trips ≠ [] ∧ s.tripListed c = false :=
  ⟨.fuelCutoffLoop, .fuelCutoff, 99900, (timing tripState .fuelCutoffLoop true), (by decide +kernel),
    (by decide +kernel),
    ⟨fun _ c => by cases c <;> decide +kernel, fun h => absurd h (by decide +kernel),
      fun c => by cases c <;> decide +kernel, by decide +kernel, by decide +kernel, by decide +kernel,
      fun c => by cases c <;> decide +kernel, fun c => by cases c <;> decide +kernel⟩,
    (by decide +kernel), (by decide +kernel), (by decide +kernel), (by decide +kernel), (by decide +kernel),
    (by decide +kernel), (by decide +kernel), (by decide +kernel)⟩

theorem witness_SwitchOnsetTrips_later_again :
    ∃ (i : Input) (c : Channel) (e : Nat) (s : State),
      s.live = true ∧ s.engine.awaitingChoice = false ∧ MonitorSound s ∧ (s.frontEnd.inputs.get i).since = some e ∧
      (s.frontEnd.inputs.get i).selected = true ∧ channelOf i = some c ∧ c.cls = .trip ∧ (s.channel c).armed = true ∧
      c ∉ s.monitor.conditions ∧ s.monitor.trips ≠ [] ∧ s.tripListed c = true :=
  ⟨.fuelCutoffLoop, .fuelCutoff, 99900,
    (timing { tripState with monitor := { quietMonitor .tripped with trips := [⟨.fuelCutoff, some .running⟩] } } .fuelCutoffLoop true),
    (by decide +kernel), (by decide +kernel),
    ⟨fun _ c => by cases c <;> decide +kernel, fun h => absurd h (by decide +kernel),
      fun c => by cases c <;> decide +kernel, by decide +kernel, by decide +kernel, by decide +kernel,
      fun c => by cases c <;> decide +kernel, fun c => by cases c <;> decide +kernel⟩,
    (by decide +kernel), (by decide +kernel), (by decide +kernel), (by decide +kernel), (by decide +kernel),
    (by decide +kernel), (by decide +kernel), (by decide +kernel)⟩

theorem witness_FilteredLevelFollowsItsTiming_brake_air_wakes :
    ∃ (i : Input) (e : Nat) (s : State),
      s.live = true ∧ s.engine.awaitingChoice = false ∧ MonitorSound s ∧ (s.frontEnd.inputs.get i).since = some e ∧
      (i = .groundRelay ∨ i = .isolateSwitch ∨ i = .brakeAirSwitch ∨ (s.frontEnd.inputs.get i).selected = false ∨ ∀ c ∈ channelOf i, (s.channel c).armed = false) ∧
      s.engine.state = some .laidUp ∧ i = .brakeAirSwitch ∧ wakeDue (after (exec (.filteredLevelChange i) s)) :=
  ⟨.brakeAirSwitch, 99900, (timing (chosen .laidUp) .brakeAirSwitch true), (by decide +kernel), (by decide +kernel),
    (monitorSound_of (.laidUp) rfl rfl rfl rfl), (by decide +kernel), (.inr (.inr (.inl rfl))), (by decide +kernel),
    (by decide +kernel), (by unfold wakeDue; decide +kernel)⟩

theorem witness_FilteredLevelFollowsItsTiming_brake_air_turning :
    ∃ (i : Input) (e : Nat) (s : State),
      s.live = true ∧ s.engine.awaitingChoice = false ∧ MonitorSound s ∧ (s.frontEnd.inputs.get i).since = some e ∧
      (i = .groundRelay ∨ i = .isolateSwitch ∨ i = .brakeAirSwitch ∨ (s.frontEnd.inputs.get i).selected = false ∨ ∀ c ∈ channelOf i, (s.channel c).armed = false) ∧
      s.engine.state = some .laidUp ∧ i = .brakeAirSwitch ∧ ¬ wakeDue (after (exec (.filteredLevelChange i) s)) :=
  ⟨.brakeAirSwitch, 99900, (timing (turning (chosen .laidUp) 20) .brakeAirSwitch true), (by decide +kernel),
    (by decide +kernel), (monitorSound_of (.laidUp) rfl rfl rfl rfl), (by decide +kernel), (.inr (.inr (.inl rfl))),
    (by decide +kernel), (by decide +kernel), (by unfold wakeDue; decide +kernel)⟩

theorem witness_FilteredLevelFollowsItsTiming_laid_up_isolation :
    ∃ (i : Input) (e : Nat) (s : State),
      s.live = true ∧ s.engine.awaitingChoice = false ∧ MonitorSound s ∧ (s.frontEnd.inputs.get i).since = some e ∧
      (i = .groundRelay ∨ i = .isolateSwitch ∨ i = .brakeAirSwitch ∨ (s.frontEnd.inputs.get i).selected = false ∨ ∀ c ∈ channelOf i, (s.channel c).armed = false) ∧
      s.engine.state = some .laidUp ∧ i ≠ .brakeAirSwitch :=
  ⟨.isolateSwitch, 99900, (timing (chosen .laidUp) .isolateSwitch true), (by decide +kernel), (by decide +kernel),
    (monitorSound_of (.laidUp) rfl rfl rfl rfl), (by decide +kernel), (.inr (.inl rfl)), (by decide +kernel),
    (by decide +kernel)⟩

theorem witness_UpdateFollowsTheRules_rises :
    ∃ (s : State),
      s.live = true ∧ s.engine.awaitingChoice = false ∧ StepperSound s ∧ s.stepper.granted < s.targetNotch ∧
      s.store.stepDwell (s.stepper.granted + 1) ≤ 100050 - s.stepper.dwellMark ∧
      distance s.frontEnd.reported (s.store.scheduledSpeed s.stepper.granted) ≤ s.store.speedTolerance s.stepper.granted :=
  ⟨atNotchTwo, (by decide +kernel), (by decide +kernel),
    ⟨by decide +kernel, by decide +kernel, by decide +kernel, by decide +kernel, by decide +kernel, by decide +kernel,
      by decide +kernel, by decide +kernel, by decide +kernel⟩,
    (by decide +kernel), (by decide +kernel), (by decide +kernel)⟩

theorem witness_UpdateFollowsTheRules_waits :
    ∃ (s : State),
      s.live = true ∧ s.engine.awaitingChoice = false ∧ StepperSound s ∧
      ¬ distance s.frontEnd.reported (s.store.scheduledSpeed s.stepper.granted) ≤ s.store.speedTolerance s.stepper.granted :=
  ⟨(turning atNotchTwo 384), (by decide +kernel), (by decide +kernel),
    ⟨by decide +kernel, by decide +kernel, by decide +kernel, by decide +kernel, by decide +kernel, by decide +kernel,
      by decide +kernel, by decide +kernel, by decide +kernel⟩,
    (by decide +kernel)⟩

theorem witness_UpdateFollowsTheRules_not_running :
    ∃ (s : State),
      s.live = true ∧ s.engine.awaitingChoice = false ∧ StepperSound s ∧ s.engine.state ≠ some .running :=
  ⟨(chosen .stopped), (by decide +kernel), (by decide +kernel),
    ⟨by decide +kernel, by decide +kernel, by decide +kernel, by decide +kernel, by decide +kernel, by decide +kernel,
      by decide +kernel, by decide +kernel, by decide +kernel⟩,
    (by decide +kernel)⟩

theorem witness_ScheduleFaultHoldsIdle :
    ∃ (s : State),
      s.live = true ∧ s.engine.awaitingChoice = false ∧ s.monitor.faultReported = true ∧
      (s.channel .scheduleFault).armed = true ∧ s.monitor.latch = false ∧ MonitorSound s ∧ StepperSound s ∧
      s.stepper.granted = 2 :=
  ⟨({ atNotchTwo with monitor := { quietMonitor .running with faultReported := true } }), (by decide +kernel),
    (by decide +kernel), (by decide +kernel), (by decide +kernel), (by decide +kernel),
    ⟨fun _ c => by cases c <;> decide +kernel, fun h => absurd h (by decide +kernel),
      fun c => by cases c <;> decide +kernel, by decide +kernel, by decide +kernel, by decide +kernel,
      fun c => by cases c <;> decide +kernel, fun c => by cases c <;> decide +kernel⟩,
    ⟨by decide +kernel, by decide +kernel, by decide +kernel, by decide +kernel, by decide +kernel, by decide +kernel,
      by decide +kernel, by decide +kernel, by decide +kernel⟩,
    (by decide +kernel)⟩

theorem witness_PrelubeAndRestLeadToCrank_pressure :
    ∃ (e : Nat) (s : State),
      s.live = true ∧ s.engine.awaitingChoice = false ∧ MonitorSound s ∧ s.filtered .crankcaseSwitch = false ∧
      s.sequencer.timer = some e ∧ s.engine.state = some (.starting .prelube) ∧ s.reading .lube = 30 :=
  ⟨100200, (sensing (chosen (.starting .prelube)) { calm with lube := 30 }), (by decide +kernel),
    (by decide +kernel), (monitorSound_of (.starting .prelube) rfl rfl rfl rfl), (by decide +kernel),
    (by decide +kernel), (by decide +kernel), (by decide +kernel)⟩

theorem witness_PrelubeAndRestLeadToCrank_no_pressure :
    ∃ (e : Nat) (s : State),
      s.live = true ∧ s.engine.awaitingChoice = false ∧ MonitorSound s ∧ s.filtered .crankcaseSwitch = false ∧
      s.sequencer.timer = some e ∧ s.engine.state = some (.starting .prelube) ∧ s.reading .lube < 30 :=
  ⟨100200, (sensing (chosen (.starting .prelube)) { calm with lube := 29 }), (by decide +kernel),
    (by decide +kernel), (monitorSound_of (.starting .prelube) rfl rfl rfl rfl), (by decide +kernel),
    (by decide +kernel), (by decide +kernel), (by decide +kernel)⟩

theorem witness_PrelubeAndRestLeadToCrank_rest_over :
    ∃ (e : Nat) (s : State),
      s.live = true ∧ s.engine.awaitingChoice = false ∧ MonitorSound s ∧ s.filtered .crankcaseSwitch = false ∧
      s.sequencer.timer = some e ∧ s.engine.state = some (.starting .rest) ∧ s.frontEnd.reported = 19 :=
  ⟨100200, (turning (chosen (.starting .rest)) 19), (by decide +kernel), (by decide +kernel),
    (monitorSound_of (.starting .rest) rfl rfl rfl rfl), (by decide +kernel), (by decide +kernel),
    (by decide +kernel), (by decide +kernel)⟩

theorem witness_PrelubeAndRestLeadToCrank_still_turning :
    ∃ (e : Nat) (s : State),
      s.live = true ∧ s.engine.awaitingChoice = false ∧ MonitorSound s ∧ s.filtered .crankcaseSwitch = false ∧
      s.sequencer.timer = some e ∧ s.engine.state = some (.starting .rest) ∧ 20 ≤ s.frontEnd.reported :=
  ⟨100200, (turning (chosen (.starting .rest)) 20), (by decide +kernel), (by decide +kernel),
    (monitorSound_of (.starting .rest) rfl rfl rfl rfl), (by decide +kernel), (by decide +kernel),
    (by decide +kernel), (by decide +kernel)⟩

theorem witness_WindowsFailTheAttempt_again :
    ∃ (e : Nat) (r : StartRecord) (s : State),
      s.live = true ∧ s.engine.awaitingChoice = false ∧ MonitorSound s ∧ s.filtered .crankcaseSwitch = false ∧
      s.outputs.fuelRun = true ∧ s.sequencer.record = some r ∧ r.attempts.length < s.settings.crankAttempts ∧
      s.sequencer.timer = some e ∧ s.engine.state = some (.starting .crank) ∧
      r.attempts.length + 1 < s.settings.crankAttempts :=
  ⟨100200, (startOf .crank), (chosen (.starting .crank)), (by decide +kernel), (by decide +kernel),
    (monitorSound_of (.starting .crank) rfl rfl rfl rfl), (by decide +kernel), (by decide +kernel),
    (by decide +kernel), (by decide +kernel), (by decide +kernel), (by decide +kernel), (by decide +kernel)⟩

theorem witness_WindowsFailTheAttempt_last :
    ∃ (e : Nat) (r : StartRecord) (s : State),
      s.live = true ∧ s.engine.awaitingChoice = false ∧ MonitorSound s ∧ s.filtered .crankcaseSwitch = false ∧
      s.outputs.fuelRun = true ∧ s.sequencer.record = some r ∧ r.attempts.length < s.settings.crankAttempts ∧
      s.sequencer.timer = some e ∧ s.engine.state = some (.starting .crank) ∧
      r.attempts.length + 1 = s.settings.crankAttempts :=
  ⟨100200, (startOf .crank), (tuned (chosen (.starting .crank)) .crankAttempts 1), (by decide +kernel),
    (by decide +kernel), (monitorSound_of (.starting .crank) rfl rfl rfl rfl), (by decide +kernel),
    (by decide +kernel), (by decide +kernel), (by decide +kernel), (by decide +kernel), (by decide +kernel),
    (by decide +kernel)⟩

theorem witness_WindowsFailTheAttempt_catch :
    ∃ (e : Nat) (r : StartRecord) (s : State),
      s.live = true ∧ s.engine.awaitingChoice = false ∧ MonitorSound s ∧ s.filtered .crankcaseSwitch = false ∧
      s.outputs.fuelRun = true ∧ s.sequencer.record = some r ∧ r.attempts.length < s.settings.crankAttempts ∧
      s.sequencer.timer = some e ∧ s.engine.state = some (.starting .catching) ∧
      r.attempts.length + 1 < s.settings.crankAttempts :=
  ⟨100200, (startOf .catching), (chosen (.starting .catching)), (by decide +kernel), (by decide +kernel),
    (monitorSound_of (.starting .catching) rfl rfl rfl rfl), (by decide +kernel), (by decide +kernel),
    (by decide +kernel), (by decide +kernel), (by decide +kernel), (by decide +kernel), (by decide +kernel)⟩

theorem witness_WarmEndsTheStart_window :
    ∃ (e : Nat) (s : State),
      s.live = true ∧ s.engine.awaitingChoice = false ∧ MonitorSound s ∧ s.engine.state = some (.starting .warm) ∧
      s.sequencer.timer = some e ∧ s.sequencer.lubeSeen = some false :=
  ⟨100200, (chosen (.starting .warm)), (by decide +kernel), (by decide +kernel),
    (monitorSound_of (.starting .warm) rfl rfl rfl rfl), (by decide +kernel), (by decide +kernel),
    (by decide +kernel)⟩

theorem witness_WarmEndsTheStart_running :
    ∃ (e : Nat) (s : State),
      s.live = true ∧ s.engine.awaitingChoice = false ∧ MonitorSound s ∧ s.engine.state = some (.starting .warm) ∧
      s.sequencer.timer = some e ∧ s.sequencer.lubeSeen = some true ∧ s.reading .lube = 120 ∧
      (s.sequencer.lubeMinimum.getD 0 : Int) ≤ s.reading .lube :=
  ⟨100200,
    (sensing ({ chosen (.starting .warm) with sequencer := { (chosen (.starting .warm)).sequencer with lubeSeen := some true } }) { calm with lube := 120 }),
    (by decide +kernel), (by decide +kernel), (monitorSound_of (.starting .warm) rfl rfl rfl rfl),
    (by decide +kernel), (by decide +kernel), (by decide +kernel), (by decide +kernel), (by decide +kernel)⟩

theorem witness_WarmEndsTheStart_no_oil :
    ∃ (e : Nat) (s : State),
      s.live = true ∧ s.engine.awaitingChoice = false ∧ MonitorSound s ∧ s.engine.state = some (.starting .warm) ∧
      s.sequencer.timer = some e ∧ s.sequencer.lubeSeen = some true ∧
      s.reading .lube < (s.sequencer.lubeMinimum.getD 0 : Int) :=
  ⟨100200,
    (sensing ({ chosen (.starting .warm) with sequencer := { (chosen (.starting .warm)).sequencer with lubeSeen := some true } }) { calm with lube := 119 }),
    (by decide +kernel), (by decide +kernel), (monitorSound_of (.starting .warm) rfl rfl rfl rfl),
    (by decide +kernel), (by decide +kernel), (by decide +kernel), (by decide +kernel)⟩

theorem witness_LockoutAndCreditExpire_credit :
    ∃ (e : Nat) (s : State),
      s.live = true ∧ s.sequencer.creditEnd = some e :=
  ⟨100000, ({ chosen .running with sequencer := { Sequencer.reset with creditEnd := some 100000 } }),
    by decide +kernel⟩

theorem witness_LockoutAndCreditExpire_lockout :
    ∃ (e : Nat) (s : State),
      s.live = true ∧ s.sequencer.lockoutEnd = some e ∧ s.engine.state ≠ some .laidUp ∧
      s.engine.awaitingChoice = false ∧ MonitorSound s ∧ StepperSound s ∧ IdleSound s :=
  ⟨100001, ({ chosen .stopped with sequencer := { Sequencer.reset with lockoutEnd := some 100001 } }),
    (by decide +kernel), (by decide +kernel), (by decide +kernel), (by decide +kernel),
    (monitorSound_of (.stopped) rfl rfl rfl rfl),
    ⟨by decide +kernel, by decide +kernel, by decide +kernel, by decide +kernel, by decide +kernel, by decide +kernel,
      by decide +kernel, by decide +kernel, by decide +kernel⟩,
    (by unfold IdleSound; decide +kernel)⟩

theorem witness_LockoutAndCreditExpire_wakes :
    ∃ (e : Nat) (s : State),
      s.live = true ∧ s.sequencer.lockoutEnd = some e ∧ s.engine.state = some .laidUp ∧
      s.engine.awaitingChoice = false ∧ MonitorSound s ∧ wakeDue (after (exec .starterLockoutExpiry s)) :=
  ⟨100001,
    ({ sensing (chosen .laidUp) { calm with battery := 65 } with sequencer := { Sequencer.reset with lockoutEnd := some 100001 } }),
    (by decide +kernel), (by decide +kernel), (by decide +kernel), (by decide +kernel),
    (monitorSound_of (.laidUp) rfl rfl rfl rfl), (by unfold wakeDue; decide +kernel)⟩

theorem witness_LockoutAndCreditExpire_stays_laid_up :
    ∃ (e : Nat) (s : State),
      s.live = true ∧ s.sequencer.lockoutEnd = some e ∧ s.engine.state = some .laidUp ∧
      s.engine.awaitingChoice = false ∧ MonitorSound s ∧ ¬ wakeDue (after (exec .starterLockoutExpiry s)) :=
  ⟨100001,
    ({ sensing (chosen .laidUp) { calm with battery := 66 } with sequencer := { Sequencer.reset with lockoutEnd := some 100001 } }),
    (by decide +kernel), (by decide +kernel), (by decide +kernel), (by decide +kernel),
    (monitorSound_of (.laidUp) rfl rfl rfl rfl), (by unfold wakeDue; decide +kernel)⟩

theorem witness_IdleLimitBeginsLayup_cooldown :
    ∃ (e : Nat) (s : State),
      s.live = true ∧ s.engine.awaitingChoice = false ∧ s.runs = true ∧ MonitorSound s ∧ s.idle.idleSince = some e ∧
      1 ≤ s.settings.cooldownTime :=
  ⟨40000, ({ chosen .running with idle := ⟨some 40000, false⟩ }), (by decide +kernel), (by decide +kernel),
    (by decide +kernel), (monitorSound_of (.running) rfl rfl rfl rfl), (by decide +kernel), (by decide +kernel)⟩

theorem witness_IdleLimitBeginsLayup_rundown :
    ∃ (e : Nat) (s : State),
      s.live = true ∧ s.engine.awaitingChoice = false ∧ s.runs = true ∧ MonitorSound s ∧ s.idle.idleSince = some e ∧
      s.settings.cooldownTime = 0 :=
  ⟨40000, ({ tuned (chosen .isolated) .cooldownTime 0 with idle := ⟨some 40000, false⟩ }), (by decide +kernel),
    (by decide +kernel), (by decide +kernel), (monitorSound_of (.isolated) rfl rfl rfl rfl), (by decide +kernel),
    (by decide +kernel)⟩

theorem witness_LaidUpJudgementWakes_wakes :
    ∃ (s : State),
      s.live = true ∧ s.engine.awaitingChoice = false ∧ s.engine.state = some .laidUp ∧
      s.idle.entryJudgementDue = true ∧ MonitorSound s ∧ s.wakeCause = true ∧ s.sequencer.lockoutEnd = none ∧
      s.frontEnd.reported < 20 ∧ 1 ≤ s.prelubeDuration :=
  ⟨(sensing { turning (chosen .laidUp) 19 with idle := ⟨none, true⟩ } { calm with coolant := 34 }),
    (by decide +kernel), (by decide +kernel), (by decide +kernel), (by decide +kernel),
    (monitorSound_of (.laidUp) rfl rfl rfl rfl), (by decide +kernel), (by decide +kernel), (by decide +kernel),
    (by decide +kernel)⟩

theorem witness_LaidUpJudgementWakes_stays :
    ∃ (s : State),
      s.live = true ∧ s.engine.awaitingChoice = false ∧ s.engine.state = some .laidUp ∧
      s.idle.entryJudgementDue = true ∧ MonitorSound s ∧ s.wakeCause = false :=
  ⟨(sensing { chosen .laidUp with idle := ⟨none, true⟩ } { calm with coolant := 35 }), (by decide +kernel),
    (by decide +kernel), (by decide +kernel), (by decide +kernel), (monitorSound_of (.laidUp) rfl rfl rfl rfl),
    (by decide +kernel)⟩

theorem witness_ParseReadsWhatIsEncoded_one :
    ∃ (as : List Sys2Proof.Action) (a : Sys2Proof.Action) (b : Byte) (code : Byte) (count : Byte) (k : Nat) (rest : List Byte),
      as ≠ [] ∧ as.length ≤ 3 ∧ (count.toNat = 0 ∨ 3 < count.toNat) :=
  ⟨[.release], .stop, 0#8, 0#8, 0#8, 1, [], by decide +kernel⟩

theorem witness_ParseReadsWhatIsEncoded_three :
    ∃ (as : List Sys2Proof.Action) (a : Sys2Proof.Action) (b : Byte) (code : Byte) (count : Byte) (k : Nat) (rest : List Byte),
      as ≠ [] ∧ as.length ≤ 3 ∧ (count.toNat = 0 ∨ 3 < count.toNat) :=
  ⟨([.claim 8#8, .segment 5#8 511#16 1#16 16#8, .set 1#8 511#16 0xFFFF#16]), .stop, 255#8, 0#8, 4#8, 1, [],
    by decide +kernel⟩

theorem witness_ParseReadsWhatIsEncoded_unknown_code :
    ∃ (as : List Sys2Proof.Action) (a : Sys2Proof.Action) (b : Byte) (code : Byte) (count : Byte) (k : Nat) (rest : List Byte),
      as ≠ [] ∧ as.length ≤ 3 ∧ as.length < count.toNat ∧ count.toNat ≤ 3 ∧ (code.toNat = 0 ∨ 12 < code.toNat) :=
  ⟨([.release, .stop]), .stop, 0#8, 13#8, 3#8, 1, [], by decide +kernel⟩

theorem witness_ParseReadsWhatIsEncoded_inside_an_action :
    ∃ (as : List Sys2Proof.Action) (a : Sys2Proof.Action) (b : Byte) (code : Byte) (count : Byte) (k : Nat) (rest : List Byte),
      as ≠ [] ∧ as.length ≤ 3 ∧ as.length < count.toNat ∧ count.toNat ≤ 3 ∧ 1 ≤ k ∧ k < a.encode.length :=
  ⟨[.release], (.segment 0#8 0#16 36#16 4#8), 0#8, 0#8, 3#8, 6, [], by decide +kernel⟩

theorem witness_ParseReadsWhatIsEncoded_before_a_code :
    ∃ (as : List Sys2Proof.Action) (a : Sys2Proof.Action) (b : Byte) (code : Byte) (count : Byte) (k : Nat) (rest : List Byte),
      as ≠ [] ∧ as.length ≤ 3 ∧ as.length < count.toNat ∧ count.toNat ≤ 3 :=
  ⟨[.release], .stop, 0#8, 0#8, 2#8, 1, [], by decide +kernel⟩

theorem witness_StoreStaysSound :
    ∃ (s : State) (t : State),
      StoreSound s ∧ step s = .next t :=
  ⟨({ worded (chosen .stopped) [(3, 20#16), (511, 7#16)] with pending := [.stepperUpdate] }), _,
    (storeSound_of (by decide +kernel) rfl rfl), rfl⟩

theorem witness_PortsStaySound :
    ∃ (s : State) (t : State),
      PortsSound s ∧ step s = .next t :=
  ⟨({ chosen .stopped with pending := [.interByteGap .cab] }), _,
    (fun l => by cases l <;> exact ⟨by decide +kernel, by decide +kernel, List.Pairwise.nil, fun _ => rfl⟩), rfl⟩

theorem witness_AuthorityStaysSound :
    ∃ (s : State) (t : State),
      AuthoritySound s ∧ StoreSound s ∧ step s = .next t :=
  ⟨({ tripState with pending := [.lapse .cab] }), _,
    ⟨fun x => by cases x <;> decide +kernel, fun x => by cases x <;> decide +kernel,
      fun x => by cases x <;> decide +kernel, fun x => by cases x <;> decide +kernel, by decide +kernel,
      by decide +kernel, by decide +kernel, fun x => by cases x <;> decide +kernel, by decide +kernel,
      fun x => by cases x <;> decide +kernel, fun x => by cases x <;> decide +kernel,
      fun x h => by cases x <;> (intro hh; cases hh <;> decide), fun x => by cases x <;> decide +kernel, by decide +kernel⟩,
    (storeSound_of rfl rfl rfl), rfl⟩

theorem witness_ProtectionStaysWithTrips :
    ∃ (s : State) (t : State),
      ProtectionHoldsTrips s ∧ StoreSound s ∧ AuthoritySound s ∧ EngineSound s ∧ step s = .next t :=
  ⟨({ tripState with pending := [.lapse .cab] }), _, (by unfold ProtectionHoldsTrips; decide +kernel),
    (storeSound_of rfl rfl rfl),
    ⟨fun x => by cases x <;> decide +kernel, fun x => by cases x <;> decide +kernel,
      fun x => by cases x <;> decide +kernel, fun x => by cases x <;> decide +kernel, by decide +kernel,
      by decide +kernel, by decide +kernel, fun x => by cases x <;> decide +kernel, by decide +kernel,
      fun x => by cases x <;> decide +kernel, fun x => by cases x <;> decide +kernel,
      fun x h => by cases x <;> (intro hh; cases hh <;> decide), fun x => by cases x <;> decide +kernel, by decide +kernel⟩,
    (engineSound_trip rfl rfl rfl rfl rfl), rfl⟩

theorem witness_EngineStaysSound :
    ∃ (s : State) (t : State),
      EngineSound s ∧ step s = .next t :=
  ⟨({ chosen .running with pending := [.idleTimerExpiry] }), _,
    (engineSound_of .running rfl rfl rfl rfl rfl rfl rfl rfl rfl), rfl⟩

theorem witness_MonitorStaysSound :
    ∃ (s : State) (t : State),
      MonitorSound s ∧ step s = .next t :=
  ⟨({ chosen .running with pending := [.speedMeasurement] }), _, (monitorSound_of (.running) rfl rfl rfl rfl), rfl⟩

theorem witness_StepperStaysSound :
    ∃ (s : State) (t : State),
      StepperSound s ∧ EngineSound s ∧ step s = .next t :=
  ⟨({ atNotchTwo with pending := [.stepperUpdate] }), _,
    ⟨by decide +kernel, by decide +kernel, by decide +kernel, by decide +kernel, by decide +kernel, by decide +kernel,
      by decide +kernel, by decide +kernel, by decide +kernel⟩,
    (engineSound_of .running rfl rfl rfl rfl rfl rfl rfl rfl rfl), rfl⟩

theorem witness_IdleTimerStaysSound :
    ∃ (s : State) (t : State),
      IdleSound s ∧ EngineSound s ∧ step s = .next t :=
  ⟨({ chosen .running with pending := [.stepperUpdate] }), _, (by unfold IdleSound; decide +kernel),
    (engineSound_of .running rfl rfl rfl rfl rfl rfl rfl rfl rfl), rfl⟩

/-! ## One step on a small state, the expected value from the spec -/

/-- R114, R116: the third scan below 64 lists BATTERY_LOW. -/
theorem test_third_low_battery_scan :
    (after (exec (.sensorScan { calm with battery := 63 }) { chosen .running with
      monitor := { quietMonitor .running with
        channels := { (quietMonitor .running).channels with batteryLow := ⟨true, 2, 0⟩ } } })).monitor.conditions =
      [.batteryLow] := by decide +kernel

/-- R88 and the worked stepping: notch 2 rises to 3 with its ceiling and scheduled speed. -/
theorem test_rise_to_three :
    (after (exec .stepperUpdate atNotchTwo)).stepper.granted = 3 ∧
      (after (exec .stepperUpdate atNotchTwo)).outputs.governor = 490 := by decide +kernel

/-- R28: a successor with request 5 is MATCHING with held notch 0, so the authority notch is 0. -/
theorem test_trip_reset_leaves_cab_matching :
    (after (exec (.tripReset .cab []) (asks tripState .cab [.tripReset]))).entry .cab =
      ⟨.holding, 5, some .matching, some 0, .forbid⟩ := by decide +kernel

/-- Section 1.6: CLAIM 0 and NOTCH 3 in one order reach MATCHED and drive notch 3. -/
theorem test_claim_then_notch_drives :
    (after (exec (.claim .cab 0#8 [.notch 3#8]) (asks (chosen .running) .cab [.claim 0#8, .notch 3#8]))).authorityNotch
      = 3 := by decide +kernel

/-- R35: START FULL and CANCEL in one order end in STOPPED with outcome CANCELLED. -/
theorem test_start_then_cancel :
    (after (exec (.start .cab 0#8 [.cancel]) (asks (heldBy (chosen .stopped) .cab 0) .cab [.start 0#8, .cancel]))).engine.state
      = some .stopped ∧
    (after (exec (.start .cab 0#8 [.cancel])
      (asks (heldBy (chosen .stopped) .cab 0) .cab [.start 0#8, .cancel]))).sequencer.record =
      some ⟨.source .cab, .full, .prelube, .cancelled, 0, []⟩ := by decide +kernel

/-- R149: START FULL, CANCEL and a SEGMENT that cuts PRELUBE_TIME to its first band look up the entry as written. -/
theorem test_cancelled_start_reads_the_written_entry :
    let t := after (exec (.start .shop 0#8 [.cancel, .segment 2#8 96#16 1#16 1#8])
      (asks (heldBy (chosen .stopped) .shop 0) .shop [.start 0#8, .cancel, .segment 2#8 96#16 1#16 1#8]))
    t.engine.state = some .stopped ∧ t.store.segments.prelubeTime = ⟨96, 1, 1, true⟩ ∧
      t.monitor.faultReported = true := by decide +kernel

/-- R177: a second NOTCH, which the holder's checks would pass, is refused DUPLICATE_ACTION at its own index. -/
theorem test_duplicate_action :
    (match State.runActions .cab 1 0 [] [.notch 1#8, .notch 2#8] (heldBy (chosen .running) .cab 3) with
      | .ok _ => none
      | .error e => some e) = some (.duplicateAction, 2) := by
  decide +kernel

/-- R123: in one scan BATTERY_LOW and a faulting lookup's SCHEDULE_FAULT have onset, and join in channel order. -/
theorem test_onsets_in_channel_order :
    (after (exec (.sensorScan { calm with battery := 63 }) { chosen .running with
      store := { Store.factory with segments := { PerSegment.factory with condLimits := ⟨0, 1, 1, false⟩ } }
      monitor := { quietMonitor .running with
        channels := { (quietMonitor .running).channels with batteryLow := ⟨true, 2, 0⟩ } } })).monitor.conditions =
      [.scheduleFault, .batteryLow] := by decide +kernel

/-- R134: an idle timer whose expiry is due and not taken shows IDLE_LIMIT, 900 s. -/
theorem test_idle_timer_shows_its_limit :
    ({ chosen .running with now := 1000000, idle := ⟨some 40000, false⟩ } : State).idleSeconds = 900 := by decide +kernel

end Sys2Proof.Tests
end

section
/-! The checks of START in their order (R34): what each state's checks give, and what an order of one START makes of
its first failing check or of its acceptance. -/

namespace Sys2Proof.Machine

/-! ## START's own checks, one equation per row of R34 -/

section

variable {s : State} {mode : StartMode}

/-- A remaining lockout is found before any other check. -/
theorem State.startRefusal_of_lockout (h : s.sequencer.lockoutEnd.isSome = true) :
    s.startRefusal mode = some .starterRest := by
  unfold State.startRefusal
  rw [if_pos h]

theorem State.startRefusal_of_starting {p : Phase} (hk : s.sequencer.lockoutEnd = none)
    (h : s.engine.state = some (.starting p)) : s.startRefusal mode = some .alreadyStarting := by
  simp [State.startRefusal, hk, h]

theorem State.startRefusal_of_runs (hk : s.sequencer.lockoutEnd = none)
    (h : s.engine.state = some .running ∨ s.engine.state = some .isolated) :
    s.startRefusal mode = some .alreadyRunning := by
  rcases h with h | h <;> simp [State.startRefusal, hk, h]

theorem State.startRefusal_of_stopping (hk : s.sequencer.lockoutEnd = none)
    (h : s.engine.state = some .cooldown ∨ s.engine.state = some .rundown) :
    s.startRefusal mode = some .inTransition := by
  rcases h with h | h <;> simp [State.startRefusal, hk, h]

theorem State.startRefusal_of_tripped (hk : s.sequencer.lockoutEnd = none)
    (h : s.engine.state = some .tripped) : s.startRefusal mode = some .tripped := by
  simp [State.startRefusal, hk, h]

/-- In STOPPED and LAID_UP the speed is checked, then the credit. -/
theorem State.startRefusal_of_standing (hk : s.sequencer.lockoutEnd = none)
    (h : s.engine.state = some .stopped ∨ s.engine.state = some .laidUp) :
    s.startRefusal mode =
      if 20 ≤ s.frontEnd.reported then some .rotating
      else if mode = .skipPrelube ∧ s.sequencer.creditEnd = none then some .noPrelubeCredit
      else none := by
  rcases h with h | h <;> simp [State.startRefusal, hk, h]

/-! ## An order of one START -/

variable {l : Link} {m : Byte}

/-- A START that the Order Unit can take is taken. -/
theorem exec_start_of_offers {more : List Sys2Proof.Action} (h : s.offers l (.start m :: more) = true) :
    exec (.start l m more) s = .next (s.takeOrder l (.start m :: more)) := by
  show Host.Outcome.next (s.orderRow l (.start m :: more)) = _
  rw [State.orderRow, if_pos h]

/-- For the holder and a legal mode the failing check of START's own is the refusal (R33, R34). -/
theorem State.doAction_start_refused {c : RefusalCode} (hm : startModeOf m = some mode) (hh : s.holds l = true)
    (hc : s.startRefusal mode = some c) : s.doAction l 0 (.start m) = .error c := by
  simp [State.doAction, State.doStart, hm, hh, hc]

theorem State.doAction_start_accepted (hm : startModeOf m = some mode) (hh : s.holds l = true)
    (hc : s.startRefusal mode = none) :
    s.doAction l 0 (.start m) = .ok (s.openStart (.source (sourceOf l)) mode) := by
  simp [State.doAction, State.doStart, hm, hh, hc]

theorem State.takeOrder_start_refused {c : RefusalCode} (hm : startModeOf m = some mode) (hh : s.holds l = true)
    (hc : s.startRefusal mode = some c) : s.takeOrder l [.start m] = s.answer l (s.refusalBody c 1) := by
  have hrun : State.runActions l 1 0 [] [.start m] s = .error (c, 1) := by
    rw [State.runActions_one, State.doAction_start_refused hm hh hc]
  exact State.takeOrder_refused hrun

/-- An order of one START carries no CLAIM and no READ: its reply is the plain acceptance. -/
theorem State.acceptBody_start (s : State) (l : Link) (m : Byte) :
    s.acceptBody l [.start m] = acceptedBody s acceptedCode := by
  have hp : s.answersPending l [.start m] = false := rfl
  have hr : s.readResults [.start m] = [] := rfl
  rw [State.acceptBody, hp, hr, List.append_nil]
  rfl

/-- The commit of an accepted START leaves the ports. -/
theorem State.commit_openStart_ports (s : State) (as : List Sys2Proof.Action) (who : Initiator) (mode : StartMode) :
    (s.commit as (s.openStart who mode)).ports = s.ports :=
  (State.settle_frame s _ (State.completed_frame as (State.openStart_frame who mode (Frame.refl s)))).ports

/-- An acceptance answered in a state with the ports of `s` is its reply alone: the answer leaves the snapshot. -/
theorem answersOnly_answer_accepted {s w : State} (l : Link) (outcome : Nat) (h : w.ports = s.ports) :
    answersOnly s (w.answer l (acceptedBody w outcome)) l
      (acceptedBody (w.answer l (acceptedBody w outcome)) outcome) := by
  have hb (b : List Byte) : acceptedBody (w.answer l b) outcome = acceptedBody w outcome := by
    rw [acceptedBody, State.answer_snapshot, acceptedBody]
  rw [hb, answersOnly, State.answer, State.withPort_ports, h]

theorem State.takeOrder_start_accepted (hm : startModeOf m = some mode) (hh : s.holds l = true)
    (hc : s.startRefusal mode = none) :
    answersOnly s (s.takeOrder l [.start m]) l (acceptedBody (s.takeOrder l [.start m]) acceptedCode) := by
  have hrun : State.runActions l 1 0 [] [.start m] s = .ok (s.openStart (.source (sourceOf l)) mode) := by
    rw [State.runActions_one, State.doAction_start_accepted hm hh hc]
  rw [State.takeOrder_accepted hrun, State.acceptBody_start]
  exact answersOnly_answer_accepted l acceptedCode (State.commit_openStart_ports s _ _ mode)

end

/-- Settles O19: the order's outcome is that of START's own checks, which are read off state by state. -/
theorem startIsRefusedInOrder : Obligations.StartIsRefusedInOrder := by
  intro l m mode s ho hm hh
  have refused {c : RefusalCode} (hc : s.startRefusal mode = some c) :
      s.takeOrder l [.start m] = s.answer l (s.refusalBody c 1) := State.takeOrder_start_refused hm hh hc
  refine ⟨s.takeOrder l [.start m], exec_start_of_offers ho, ?lockout, ?starting, ?runs, ?stopping, ?tripped,
    ?rotating, ?noCredit, ?accepted⟩
  case lockout => exact fun hk => refused (State.startRefusal_of_lockout hk)
  case starting => exact fun hk ⟨_, h⟩ => refused (State.startRefusal_of_starting hk h)
  case runs => exact fun hk h => refused (State.startRefusal_of_runs hk h)
  case stopping => exact fun hk h => refused (State.startRefusal_of_stopping hk h)
  case tripped => exact fun hk h => refused (State.startRefusal_of_tripped hk h)
  case rotating =>
    intro hk h hv
    exact refused (by rw [State.startRefusal_of_standing hk h, if_pos hv])
  case noCredit =>
    intro hk h hv hs hn
    exact refused (by rw [State.startRefusal_of_standing hk h, if_neg (Nat.not_le.mpr hv), if_pos ⟨hs, hn⟩])
  case accepted =>
    intro hk h hv hs
    have hcredit : ¬ (mode = .skipPrelube ∧ s.sequencer.creditEnd = none) := fun ⟨hmode, hn⟩ => by
      simpa [hn] using hs hmode
    have hc : s.startRefusal mode = none := by
      rw [State.startRefusal_of_standing hk h, if_neg (Nat.not_le.mpr hv), if_neg hcredit]
    exact State.takeOrder_start_accepted hm hh hc

end Sys2Proof.Machine
end

section
/-! The rights of the writes (R155): the model's check of a group is the rights as tabled, a write that passes its other
checks turns on that check alone, and its effect leaves every queue of orders, where its reply then stands. -/

namespace Sys2Proof.Machine

section

variable {s : State} {l : Link}

/-! ## The row of an order's first action -/

theorem exec_orderCommand (s : State) (l : Link) (a : Sys2Proof.Action) (more : List Sys2Proof.Action) :
    exec (orderCommand l a more) s = .next (s.orderRow l (a :: more)) := by
  cases a with
  | set c n v =>
    rw [orderCommand]
    split
    next hc => subst hc; rfl
    next => rfl
  | _ => rfl

/-- An order that the Order Unit can take is taken by the command of its first action. -/
theorem exec_orderCommand_of_offers {a : Sys2Proof.Action} {more : List Sys2Proof.Action}
    (h : s.offers l (a :: more) = true) : exec (orderCommand l a more) s = .next (s.takeOrder l (a :: more)) := by
  rw [exec_orderCommand, State.orderRow, if_pos h]

/-! ## The rights of a group -/

theorem State.claimed_eq_false_iff (s : State) (x : Source) :
    s.claimed x = false ↔ x ∉ s.arbiter.stack ∧ x ∉ s.arbiter.waiting := by
  simp [State.claimed]

theorem mem_everyLink (l : Link) : l ∈ everyLink := by cases l <;> decide

theorem State.shopAlone_iff (s : State) :
    s.shopAlone = true ↔
      ∀ m : Link, m ≠ .shop → sourceOf m ∉ s.arbiter.stack ∧ sourceOf m ∉ s.arbiter.waiting := by
  simp [State.shopAlone, mem_everyLink, State.claimed_eq_false_iff, or_iff_not_imp_left]

/-- The check of a group admits exactly what R155's table gives a right to. -/
theorem State.writeAdmitted_iff (s : State) (l : Link) (g : WriteGroup) :
    s.writeAdmitted l g = true ↔ writeRights s l g := by
  cases g with
  | link => simp [State.writeAdmitted, writeRights, State.shopAlone_iff, and_assoc]
  | limit => simp [State.writeAdmitted, writeRights, and_assoc]
  | restricted => simp [State.writeAdmitted, writeRights, and_assoc]
  | schedule => simp [State.writeAdmitted, writeRights, and_assoc]

/-! ## A write that passes its other checks -/

theorem State.doSetSetting_of_checked {number value : Word16} {k : Setting} (hk : Setting.ofNum number.toNat = some k)
    (hv : k.inRange value.toNat = true) (hr : ∀ m : Link, k.rankOf = some m → s.rankTaken m value.toNat = false) :
    s.doSetSetting l number value =
      if s.writeAdmitted l k.group = true then .ok (s.writeSetting k value.toNat) else .error .groupLocked := by
  unfold State.doSetSetting
  cases ho : k.rankOf with
  | none => cases ha : s.writeAdmitted l k.group <;> simp [hk, hv, ho, ha]
  | some m => cases ha : s.writeAdmitted l k.group <;> simp [hk, hv, ho, ha, hr m ho]

theorem State.doSetWord_of_checked {number : Word16} (value : Word16) (hn : number.toNat ≤ 511) :
    s.doSetWord l number value =
      if s.writeAdmitted l .schedule = true then .ok (s.writeWordAt number.toNat value) else .error .groupLocked := by
  unfold State.doSetWord
  cases ha : s.writeAdmitted l .schedule <;> simp [Nat.not_lt.mpr hn]

theorem SegmentId.exists_ofNum {n : Nat} (h : n ≤ 5) : ∃ g : SegmentId, SegmentId.ofNum n = some g := by
  interval_cases n <;> exact ⟨_, rfl⟩

theorem State.doSegment_of_checked {id stride : Byte} {base limit : Word16} {g : SegmentId}
    (hg : SegmentId.ofNum id.toNat = some g) (hr : segmentInRange base.toNat limit.toNat stride.toNat = true) :
    s.doSegment l id base limit stride =
      if s.writeAdmitted l .schedule = true then .ok (s.writeSegment g base.toNat limit.toNat stride.toNat)
      else .error .groupLocked := by
  unfold State.doSegment
  cases ha : s.writeAdmitted l .schedule <;> simp [hg, hr]

/-! ## What a write leaves of the ports -/

/-- Every queue of orders, with its count of replies made, as it was. -/
def queuesKept (s t : State) : Prop :=
  ∀ m : Link, (t.ports.get m).queue = (s.ports.get m).queue ∧ (t.ports.get m).made = (s.ports.get m).made

theorem queuesKept_of_ports {t : State} (h : t.ports = s.ports) : queuesKept s t := fun m => by simp [h]

/-- The report of a lapse moves two marks of its port and no queue. -/
theorem State.reportLapse_queuesKept (s : State) (l : Link) : queuesKept s (s.reportLapse l) := by
  intro m
  unfold State.reportLapse
  split
  · by_cases hm : m = l
    · subst hm; simp
    · simp [PerLink.get_set_ne _ _ hm]
  · exact ⟨rfl, rfl⟩

theorem State.writeSetting_queuesKept (s : State) (k : Setting) (v : Nat) : queuesKept s (s.writeSetting k v) := by
  unfold State.writeSetting
  cases k.silenceOf with
  | some l => exact (s.withSettings (s.settings.set k v)).reportLapse_queuesKept l
  | none => cases k.inputOf <;> exact queuesKept_of_ports rfl

/-- A write that passes every check but that of its rights turns on its rights: admitted it has an effect that leaves
the queues, else it is refused GROUP_LOCKED (R152, R153, R155, R156). -/
theorem State.doAction_write {a : Sys2Proof.Action} {g : WriteGroup} (s : State) (l : Link) (hw : writesItem s a g) :
    ∃ w : State, queuesKept s w ∧
      s.doAction l 0 a = if s.writeAdmitted l g = true then .ok w else .error .groupLocked := by
  cases a with
  | set c n v =>
    rcases hw with ⟨rfl, k, hk, hv, rfl, hr⟩ | ⟨rfl, hn, rfl⟩
    · exact ⟨_, s.writeSetting_queuesKept k v.toNat, State.doSetSetting_of_checked hk hv hr⟩
    · exact ⟨s.writeWordAt n.toNat v, queuesKept_of_ports rfl, State.doSetWord_of_checked v hn⟩
  | segment id base limit stride =>
    obtain ⟨hid, hr, rfl⟩ := hw
    obtain ⟨seg, hseg⟩ := SegmentId.exists_ofNum hid
    exact ⟨s.writeSegment seg base.toNat limit.toNat stride.toNat, queuesKept_of_ports rfl,
      State.doSegment_of_checked hseg hr⟩
  | _ => exact hw.elim

/-! ## An order of one write -/

theorem writesItem_code {a : Sys2Proof.Action} {g : WriteGroup} (hw : writesItem s a g) : a.code = 11 ∨ a.code = 12 := by
  cases a with
  | set c n v => exact .inl rfl
  | segment id base limit stride => exact .inr rfl
  | _ => exact hw.elim

/-- An order of one action that is neither CLAIM nor READ: its reply is the plain acceptance. -/
theorem State.acceptBody_of_code {a : Sys2Proof.Action} (s : State) (l : Link) (hc : a.code ≠ 1) (hr : a.code ≠ 10) :
    s.acceptBody l [a] = acceptedBody s acceptedCode := by
  have hpending : s.answersPending l [a] = false := by simp [State.answersPending, hc]
  have hresults : s.readResults [a] = [] := by
    cases a with
    | read i n => exact absurd rfl hr
    | _ => rfl
  rw [State.acceptBody, hpending, hresults, List.append_nil]
  rfl

/-- A commit leaves the ports as its last view has them. -/
theorem State.commit_ports (s : State) (as : List Sys2Proof.Action) (w : State) : (s.commit as w).ports = w.ports :=
  (State.settle_frame s _ (State.completed_frame as (Frame.refl w))).ports

theorem State.answer_queue (s : State) (l : Link) (body : List Byte) :
    ((s.answer l body).ports.get l).queue = answerFirst (s.ports.get l).made body (s.ports.get l).queue := by
  simp [State.answer]

/-- The reply of an accepted order of one action stands at the order's place in the queue as it was. -/
theorem State.takeOrder_one_queue {a : Sys2Proof.Action} {w : State} (hrun : s.doAction l 0 a = .ok w)
    (hq : queuesKept s w) (hc : a.code ≠ 1) (hr : a.code ≠ 10) :
    ((s.takeOrder l [a]).ports.get l).queue =
      answerFirst (s.ports.get l).made (acceptedBody (s.takeOrder l [a]) acceptedCode) (s.ports.get l).queue := by
  obtain ⟨hqueue, hmade⟩ := hq l
  have haccepted : State.runActions l 1 0 [] [a] s = .ok w := by rw [State.runActions_one, hrun]
  have hbody (v : State) (b : List Byte) : acceptedBody (v.answer l b) acceptedCode = acceptedBody v acceptedCode := by
    rw [acceptedBody, State.answer_snapshot, acceptedBody]
  rw [State.takeOrder_accepted haccepted, State.answer_queue, hbody, State.acceptBody_of_code _ l hc hr,
    State.commit_ports, hqueue, hmade]

theorem State.takeOrder_one_refused {a : Sys2Proof.Action} {c : RefusalCode} (h : s.doAction l 0 a = .error c) :
    s.takeOrder l [a] = s.answer l (s.refusalBody c 1) :=
  State.takeOrder_refused (by rw [State.runActions_one, h])

end

/-- Settles O30: the outcome of the write is that of its group's check, which is R155's table. -/
theorem writesNeedTheirRights : Obligations.WritesNeedTheirRights := by
  intro l a g s ho hw
  obtain ⟨w, hq, hact⟩ := s.doAction_write l hw
  refine ⟨s.takeOrder l [a], exec_orderCommand_of_offers ho, ?admitted, ?locked⟩
  case admitted =>
    intro hrights
    rw [if_pos ((s.writeAdmitted_iff l g).mpr hrights)] at hact
    have hcode := writesItem_code hw
    exact State.takeOrder_one_queue hact hq (by omega) (by omega)
  case locked =>
    intro hrights
    rw [if_neg (mt (s.writeAdmitted_iff l g).mp hrights)] at hact
    exact State.takeOrder_one_refused hact

end Sys2Proof.Machine
end

section
/-! What a step can do, said once: the rows that move no block but the clock, the pins and the ports, the events with the
change that each makes before its close, the orders with the effects of their actions, the updates, and the resets. Every
invariant of the steps is derived from this list. -/

namespace Sys2Proof.Machine

/-! ## What each update of a port keeps sound -/

section

variable {p q : Port}

/-- Soundness reads the queue, the FULL answers and the assembler alone. -/
theorem PortSound.of_same (h : PortSound p) (hq : q.queue = p.queue) (hf : q.fulls = p.fulls)
    (ha : q.assembler = p.assembler) (hb : q.buffer = p.buffer) : PortSound q := by
  obtain ⟨hqueue, hfulls, horder, hhunt⟩ := h
  exact ⟨by rwa [hq], by rwa [hf], by rwa [hq], by rwa [ha, hb]⟩

/-- A port at rest, as a reset or its exit leaves it. -/
theorem PortSound.of_empty (hq : q.queue = []) (hf : q.fulls = []) (hb : q.buffer = []) : PortSound q :=
  ⟨by simp [hq], by simp [hf], by rw [hq]; exact List.Pairwise.nil, fun _ => hb⟩

theorem PortSound.fresh (t : Nat) (mark : Bool) : PortSound (Port.fresh t mark) := .of_empty rfl rfl rfl

/-- An order just received stands last, unanswered. -/
theorem PortSound.queued (h : PortSound p) (hl : p.queue.length < 4) (tag : Byte) (body : List Byte) :
    PortSound { p with queue := p.queue ++ [⟨tag, body, none⟩] } := by
  obtain ⟨-, hfulls, horder, hhunt⟩ := h
  refine ⟨by simpa using hl, hfulls, ?_, hhunt⟩
  refine List.pairwise_append.mpr ⟨horder, List.pairwise_singleton _ _, fun a _ b hb hr => ?_⟩
  rw [List.mem_singleton.mp hb] at hr
  cases hr

theorem PortSound.full (h : PortSound p) (hl : p.fulls.length < 2) (r : ReadyReply) (made : Nat) :
    PortSound { p with fulls := p.fulls ++ [r], made := made } := by
  obtain ⟨hqueue, -, horder, hhunt⟩ := h
  exact ⟨hqueue, by simpa using hl, horder, hhunt⟩

theorem PortSound.withBuffer (h : PortSound p) (o : Option (List RxByte)) : PortSound (p.withBuffer o) := by
  obtain ⟨hqueue, hfulls, horder, -⟩ := h
  cases o with
  | none => exact ⟨hqueue, hfulls, horder, fun _ => rfl⟩
  | some buf => exact ⟨hqueue, hfulls, horder, fun ha => by cases ha⟩

/-- A FULL answer that begins to be sent leaves its list. -/
theorem PortSound.fullSent (h : PortSound p) (f : SendingFrame) :
    PortSound { p with sending := some f, fulls := p.fulls.tail } := by
  obtain ⟨hqueue, hfulls, horder, hhunt⟩ := h
  exact ⟨hqueue, by rw [List.length_tail]; omega, horder, hhunt⟩

theorem PortSound.sentInFull (h : PortSound p) (k : SentKind) : PortSound (p.sentInFull k) := by
  cases k with
  | reply =>
    obtain ⟨hqueue, hfulls, horder, hhunt⟩ := h
    exact ⟨by rw [Port.sentInFull, List.length_tail]; omega, hfulls, List.Pairwise.tail horder, hhunt⟩
  | status => exact h.of_same rfl rfl rfl rfl
  | full => exact h.of_same rfl rfl rfl rfl

theorem answeredFirst_answerFirst (made : Nat) (body : List Byte) {q : List QueuedOrder} (h : answeredFirst q) :
    answeredFirst (answerFirst made body q) := by
  induction q with
  | nil => exact h
  | cons a rest ih =>
    obtain ⟨hhead, hrest⟩ := List.pairwise_cons.mp h
    unfold answerFirst
    split
    · exact List.pairwise_cons.mpr ⟨fun _ _ _ => rfl, hrest⟩
    · rename_i r hr
      exact List.pairwise_cons.mpr ⟨fun _ _ _ => by rw [hr]; rfl, ih hrest⟩

theorem PortSound.answered (h : PortSound p) (made made' : Nat) (body : List Byte) :
    PortSound { p with queue := answerFirst made body p.queue, made := made' } := by
  obtain ⟨hqueue, hfulls, horder, hhunt⟩ := h
  exact ⟨by rw [answerFirst_length]; exact hqueue, hfulls, answeredFirst_answerFirst _ _ horder, hhunt⟩

end

/-- A write to one port keeps all ports sound where it keeps that port so. -/
theorem PortsSound.set {s t : State} {l : Link} {p : Port} (h : PortsSound s) (ht : t.ports = s.ports.set l p)
    (hp : PortSound p) : PortsSound t := by
  intro m
  rw [ht]
  by_cases hm : m = l
  · subst hm
    rwa [PerLink.get_set_self]
  · rw [PerLink.get_set_ne _ _ hm]
    exact h m

theorem PortsSound.of_ports {s t : State} (h : PortsSound s) (ht : t.ports = s.ports) : PortsSound t := by
  intro m
  rw [ht]
  exact h m

/-! ## The kinds of steps -/

/-- The same state at a later instant. -/
def Later (s u : State) : Prop := u = { s with now := u.now } ∧ s.now ≤ u.now

theorem Later.refl (s : State) : Later s s := ⟨rfl, le_rfl⟩

theorem State.reach_later (s : State) (t : Nat) : Later s (s.reach t) := ⟨rfl, le_max_left _ _⟩

theorem State.elapse_later (s : State) (ms : Nat) : Later s (s.elapse ms) := ⟨rfl, Nat.le_add_right _ _⟩

/-- A row that leaves every block as it was but for ports, which it keeps sound, pins, a due instant and the credit: no
reading and no filtered level moves, and no output. -/
structure Calm (s t : State) : Prop where
  now : s.now ≤ t.now
  resetSince : t.resetSince = s.resetSince
  ports : PortsSound s → PortsSound t
  arbiter : t.arbiter = s.arbiter
  engine : t.engine = s.engine
  sequencer : t.sequencer = { s.sequencer with creditEnd := t.sequencer.creditEnd }
  stepper : t.stepper = { s.stepper with nextUpdate := t.stepper.nextUpdate }
  monitor : t.monitor = s.monitor
  idle : t.idle = s.idle
  store : t.store = s.store
  scan : t.frontEnd.scan = s.frontEnd.scan
  filtered : ∀ i : Input, t.filtered i = s.filtered i
  outputs : t.outputs = s.outputs
  pending : t.pending = s.pending

theorem Calm.refl (s : State) : Calm s s :=
  ⟨le_rfl, rfl, id, rfl, rfl, rfl, rfl, rfl, rfl, rfl, rfl, fun _ => rfl, rfl, rfl⟩

theorem Calm.of_later {s u : State} (h : Later s u) : Calm s u := by
  obtain ⟨hu, hn⟩ := h
  rw [hu]
  exact ⟨hn, rfl, fun h => h.of_ports rfl, rfl, rfl, rfl, rfl, rfl, rfl, rfl, rfl, fun _ => rfl, rfl, rfl⟩

/-- A later state with other ports, as sound as they were. -/
theorem Calm.of_ports {s u : State} {p : PerLink Port} (h : Later s u)
    (hp : PortsSound s → PortsSound { u with ports := p }) : Calm s { u with ports := p } := by
  obtain ⟨hu, hn⟩ := h
  rw [hu] at hp ⊢
  exact ⟨hn, rfl, hp, rfl, rfl, rfl, rfl, rfl, rfl, rfl, rfl, fun _ => rfl, rfl, rfl⟩

/-- A later state with one input moved at its pin alone. -/
theorem Calm.of_input {s u : State} (h : Later s u) (i : Input) {v : InputState}
    (hv : v.filtered = (s.frontEnd.inputs.get i).filtered) : Calm s (u.withInput i v) := by
  obtain ⟨hu, hn⟩ := h
  rw [hu]
  refine ⟨hn, rfl, fun h => h.of_ports rfl, rfl, rfl, rfl, rfl, rfl, rfl, rfl, rfl, fun j => ?_, rfl, rfl⟩
  show ((s.frontEnd.inputs.set i v).get j).filtered = _
  by_cases hj : j = i
  · subst hj
    rw [PerInput.get_set_self, hv]
    rfl
  · rw [PerInput.get_set_ne _ _ hj]
    rfl

/-- The events but for those of orders, each with the change that its owner makes before the close, and whether the wake
watch judges whatever the Arbiter presents. -/
inductive EventOf (u : State) : Bool → State → Prop
  | scan (raw : PerAnalog Int) : EventOf u true (u.scanChange raw)
  | measurement : EventOf u u.engine.awaitingChoice u.measurementChange
  | filterChange (i : Input) : EventOf u (i == .brakeAirSwitch) (u.filterChange i)
  | lapse (l : Link) : EventOf u false ((u.takeReport l).lapseEffect l)
  | faultOnset (h : (u.channel .scheduleFault).armed = true) :
      EventOf u false ({ u with monitor := { u.monitor with faultReported := false } } : State).latchFault
  | prelubeEnd (h : u.engine.state = some (.starting .prelube)) : EventOf u false u.dropPhaseTimer.prelubeCheck
  | crankEnd (h : u.engine.state = some (.starting .crank)) : EventOf u false (u.dropPhaseTimer.failAttempt .noFire)
  | catchEnd (h : u.engine.state = some (.starting .catching)) : EventOf u false (u.dropPhaseTimer.failAttempt .noCatch)
  | restEnd (h : u.engine.state = some (.starting .rest)) : EventOf u false u.dropPhaseTimer.restTest
  | lubeWindowEnd (h : u.engine.state = some (.starting .warm)) :
      EventOf u false (u.dropPhaseTimer.endStart .noOilPressure)
  | warmEnd (h : u.engine.state = some (.starting .warm)) : EventOf u false u.dropPhaseTimer.warmCheck
  | lockoutEnd : EventOf u true { u with sequencer := { u.sequencer with lockoutEnd := none } }
  | cooldownEnd (h : u.engine.state = some .cooldown) : EventOf u false u.endCooldown
  | rundownEnd (h : u.engine.state = some .rundown) : EventOf u false u.endRundown
  | idleLimit : EventOf u false u.layupRequest
  | entryJudgement : EventOf u true { u with idle := { u.idle with entryJudgementDue := false } }

/-- A Stepper update that an engine in a chosen state makes, with the judgement of the idle timer (R82, R136). -/
def State.updated (s : State) : State :=
  let s1 := s.reach s.stepper.nextUpdate
  s1.judgeIdle ({ s1 with stepper := { s1.stepper with nextUpdate := s1.stepper.nextUpdate + Config.period } } : State).update

/-- The outcomes of a step's command. -/
inductive StepOutcome (s : State) : State → Prop
  | calm {t : State} (h : Calm s t) : StepOutcome s t
  | event {u w : State} {judged : Bool} (hu : Later s u) (hlive : s.live = true) (he : EventOf u judged w) :
      StepOutcome s (u.settle judged w)
  | order {l : Link} {as : List Sys2Proof.Action} {w : State} (body : List Byte) (hopen : s.orderUnitOpen = true)
      (hrun : State.runActions l 1 0 [] as s = .ok w) : StepOutcome s ((s.commit as w).answer l body)
  | update (hlive : s.live = true) (hchosen : s.engine.awaitingChoice = false) : StepOutcome s s.updated
  | powerOn (after : Nat) (raw : PerAnalog Int) (levels : PerInput Bool) :
      StepOutcome s (((s.elapse after).powerOnValues levels).takeScan raw)
  | loss (after : Nat) (levels : PerInput Bool) :
      StepOutcome s { (s.elapse after).powerOnValues levels with supply := false }
  | assertion (after : Nat) (hlive : s.live = true) : StepOutcome s (s.elapse after).assertReset
  | exit (after since : Nat) (raw : PerAnalog Int) (h : s.resetSince = some since) :
      StepOutcome s (((s.elapse after).exitReset since).takeScan raw)

/-! ## Every command has one of them -/

variable {s : State}

/-- A state that differs from `s` by its instant and its ports, which are as sound. -/
def PortsOnly (s t : State) : Prop :=
  (∃ u : State, Later s u ∧ ∃ p : PerLink Port, t = { u with ports := p }) ∧ (PortsSound s → PortsSound t)

theorem PortsOnly.of_later {u : State} (h : Later s u) : PortsOnly s u :=
  ⟨⟨u, h, u.ports, rfl⟩, (Calm.of_later h).ports⟩

theorem PortsOnly.calm {t : State} (h : PortsOnly s t) : Calm s t := by
  obtain ⟨⟨u, hu, p, rfl⟩, hp⟩ := h
  exact Calm.of_ports hu hp

theorem PortsOnly.withPort {t : State} (h : PortsOnly s t) (l : Link) {p : Port}
    (hp : PortSound (t.ports.get l) → PortSound p) : PortsOnly s (t.withPort l p) := by
  obtain ⟨⟨u, hu, q, rfl⟩, hq⟩ := h
  exact ⟨⟨u, hu, q.set l p, rfl⟩, fun hs => (hq hs).set rfl (hp (hq hs l))⟩

theorem PortsOnly.answer {t : State} (h : PortsOnly s t) (l : Link) (body : List Byte) :
    PortsOnly s (t.answer l body) := h.withPort l fun hp => hp.answered _ _ _

theorem State.answer_calm (s : State) (l : Link) (body : List Byte) : Calm s (s.answer l body) :=
  ((PortsOnly.of_later (Later.refl s)).answer l body).calm

theorem PortsOnly.offerOrder {t : State} (h : PortsOnly s t) (l : Link) (tag : Byte) (body : List Byte) :
    PortsOnly s (t.offerOrder l tag body) := by
  unfold State.offerOrder
  dsimp only
  split_ifs with hq hf
  · exact h.withPort l fun hp => hp.queued hq _ _
  · exact h.withPort l fun hp => hp.full hf _ _
  · exact h

theorem PortsOnly.deliverFrame {t : State} (h : PortsOnly s t) (l : Link) (frame : List RxByte) :
    PortsOnly s (t.deliverFrame l frame) := by
  have h1 := h.withPort l (p := (t.ports.get l).refreshHeard ((frame.getLast?.map RxByte.at_).getD t.now))
    fun hp => hp.of_same rfl rfl rfl rfl
  unfold State.deliverFrame
  dsimp only
  split
  · split
    · exact h1.offerOrder l _ _
    · exact h1
  · exact h1

theorem PortsOnly.foldl {α : Type} {f : State → α → State} (hf : ∀ (t : State) (a : α), PortsOnly s t → PortsOnly s (f t a))
    (xs : List α) {t : State} (h : PortsOnly s t) : PortsOnly s (xs.foldl f t) := by
  induction xs generalizing t with
  | nil => exact h
  | cons x xs ih => exact ih (hf t x h)

theorem PortsOnly.receiveChar {t : State} (h : PortsOnly s t) (l : Link) (c : RxChar) :
    PortsOnly s (State.receiveChar l t c) := by
  have hbuffer (o : Option (List RxByte)) (at_ : Nat) :
      PortSound (t.ports.get l) → PortSound { (t.ports.get l).withBuffer o with lastByteAt := at_ } :=
    fun hp => (hp.withBuffer o).of_same rfl rfl rfl rfl
  unfold State.receiveChar
  dsimp only
  split
  · exact h.withPort l (hbuffer none _)
  · exact PortsOnly.foldl (fun _ f k => k.deliverFrame l f) _ (h.withPort l (hbuffer _ _))

theorem PortsOnly.gapCheck {t : State} (h : PortsOnly s t) (l : Link) : PortsOnly s (t.gapCheck l) := by
  unfold State.gapCheck
  dsimp only
  split
  · exact h.withPort l fun hp => hp.withBuffer none
  · exact h

theorem PortsOnly.sendNext {t : State} (h : PortsOnly s t) (l : Link) : PortsOnly s (t.sendNext l) := by
  have hfull (r : ReadyReply) : PortsOnly s (t.sendFull l r) := h.withPort l fun hp => hp.fullSent _
  have hreply (r : ReadyReply) : PortsOnly s (t.sendReply l r) := h.withPort l fun hp => hp.of_same rfl rfl rfl rfl
  unfold State.sendNext
  dsimp only
  split
  · exact h.withPort l fun hp => hp.of_same rfl rfl rfl rfl
  · split
    · split
      · exact hfull _
      · exact hreply _
    · exact hfull _
    · exact hreply _
    · exact h

theorem PortsOnly.reportLapse {t : State} (h : PortsOnly s t) (l : Link) : PortsOnly s (t.reportLapse l) := by
  unfold State.reportLapse
  split
  · exact h.withPort l fun hp => hp.of_same rfl rfl rfl rfl
  · exact h

theorem InputState.edge_filtered (v : InputState) (raw selected : Bool) (now : Nat) :
    (v.edge raw selected now).filtered = v.filtered := by
  unfold InputState.edge
  split <;> rfl

theorem StepOutcome.refl (s : State) : StepOutcome s s := .calm (Calm.refl s)

/-- A choice between an outcome and no effect. -/
theorem StepOutcome.ite {t : State} {p : Prop} [Decidable p] (h : p → StepOutcome s t) :
    StepOutcome s (if p then t else s) := by
  split
  · exact h ‹_›
  · exact .refl s

/-- An event taken at or after its due instant. -/
theorem StepOutcome.eventAt {judged : Bool} {change : State → State} (t : Nat) (hlive : s.live = true)
    (he : EventOf (s.reach t) judged (change (s.reach t))) : StepOutcome s ((s.reach t).event judged change) :=
  .event (s.reach_later t) hlive he

/-- An event taken at once. -/
theorem StepOutcome.eventNow {judged : Bool} {change : State → State} (hlive : s.live = true)
    (he : EventOf s judged (change s)) : StepOutcome s (s.event judged change) :=
  .event (Later.refl s) hlive he

theorem State.phaseExpiry_outcome {p : Phase} {change : State → State}
    (he : ∀ u : State, u.engine.state = some (.starting p) → EventOf u false (change u.dropPhaseTimer)) :
    StepOutcome s (s.phaseExpiry p change) := by
  unfold State.phaseExpiry
  split
  · exact .refl s
  · exact .ite fun ⟨hlive, hp⟩ => .eventAt _ hlive (he _ hp)

theorem State.orderRow_outcome (l : Link) (as : List Sys2Proof.Action) : StepOutcome s (s.orderRow l as) := by
  unfold State.orderRow
  refine .ite fun ho => ?_
  obtain ⟨hopen, -⟩ := (s.offers_iff l as).mp ho
  unfold State.takeOrder
  split
  · exact .calm (s.answer_calm l _)
  · exact .order _ hopen ‹_›

/-- Every command is answered by a next state, and its outcome is on the list. -/
theorem exec_completes (i : Instr) (s : State) : ∃ t : State, exec i s = .next t ∧ StepOutcome s t := by
  have atInstant (t : Nat) : PortsOnly s (s.reach t) := .of_later (s.reach_later t)
  cases i with
  | powerOn after raw levels => exact ⟨_, rfl, .powerOn after raw levels⟩
  | resetLineAssert after =>
    refine ⟨_, rfl, ?_⟩
    split
    · exact .assertion after ‹_›
    · exact .calm (.of_later (s.elapse_later after))
  | resetLineExit after raw =>
    refine ⟨_, rfl, ?_⟩
    have hcalm := Calm.of_later (s.elapse_later after)
    split
    · split
      · exact .exit after _ raw ‹_›
      · exact .calm hcalm
    · exact .calm hcalm
  | frameReceived after l chars =>
    refine ⟨_, rfl, .calm (PortsOnly.calm ?_)⟩
    have hp := PortsOnly.of_later (s.elapse_later after)
    split
    · exact PortsOnly.foldl (fun _ c k => k.receiveChar l c) chars (hp.gapCheck l)
    · exact hp
  | interByteGap l => exact ⟨_, rfl, .ite fun _ => .calm ((atInstant _).withPort l fun hp => hp.withBuffer none).calm⟩
  | frameTransmit l => exact ⟨_, rfl, .ite fun _ => .calm ((PortsOnly.of_later (Later.refl s)).sendNext l).calm⟩
  | statusTimerExpiry l =>
    refine ⟨_, rfl, .ite fun _ => .calm (PortsOnly.calm ?_)⟩
    exact (atInstant _).withPort l fun hp => hp.of_same rfl rfl rfl rfl
  | claim l n more => exact ⟨_, rfl, s.orderRow_outcome l _⟩
  | release l more => exact ⟨_, rfl, s.orderRow_outcome l _⟩
  | notch l n more => exact ⟨_, rfl, s.orderRow_outcome l _⟩
  | start l m more => exact ⟨_, rfl, s.orderRow_outcome l _⟩
  | stop l more => exact ⟨_, rfl, s.orderRow_outcome l _⟩
  | cancel l more => exact ⟨_, rfl, s.orderRow_outcome l _⟩
  | isolate l o more => exact ⟨_, rfl, s.orderRow_outcome l _⟩
  | layup l o more => exact ⟨_, rfl, s.orderRow_outcome l _⟩
  | tripReset l more => exact ⟨_, rfl, s.orderRow_outcome l _⟩
  | read l item n more => exact ⟨_, rfl, s.orderRow_outcome l _⟩
  | setSetting l n v more => exact ⟨_, rfl, s.orderRow_outcome l _⟩
  | setWord l c n v more => exact ⟨_, rfl, s.orderRow_outcome l _⟩
  | segment l id b lim st more => exact ⟨_, rfl, s.orderRow_outcome l _⟩
  | silenceExpiry l =>
    exact ⟨_, rfl, .ite fun _ => .calm ((atInstant _).reportLapse l).calm⟩
  | lapse l => exact ⟨_, rfl, .ite fun ⟨hlive, _⟩ => .eventNow hlive (.lapse l)⟩
  | sensorScan raw => exact ⟨_, rfl, .ite fun hlive => .eventAt _ hlive (.scan raw)⟩
  | speedMeasurement => exact ⟨_, rfl, .ite fun hlive => .eventAt _ hlive .measurement⟩
  | flywheelPulse after =>
    refine ⟨_, rfl, .calm ?_⟩
    split
    · exact ⟨Nat.le_add_right _ _, rfl, fun h => h.of_ports rfl, rfl, rfl, rfl, rfl, rfl, rfl, rfl, rfl,
        fun _ => rfl, rfl, rfl⟩
    · exact .of_later (s.elapse_later after)
  | rawInputEdge after input level =>
    refine ⟨_, rfl, .calm ?_⟩
    split
    · exact .of_input (s.elapse_later after) input (InputState.edge_filtered _ _ _ _)
    · exact .of_input (s.elapse_later after) input rfl
  | filteredLevelChange input =>
    show ∃ u, execFilteredLevelChange input s = .next u ∧ _
    unfold execFilteredLevelChange
    split
    · exact ⟨s, rfl, .refl s⟩
    · exact ⟨_, rfl, .ite fun hlive => .eventAt _ hlive (.filterChange input)⟩
  | stepperUpdate =>
    refine ⟨_, rfl, .ite fun hlive => ?_⟩
    split
    · exact .calm ⟨le_max_left _ _, rfl, fun h => h.of_ports rfl, rfl, rfl, rfl, rfl, rfl, rfl, rfl, rfl,
        fun _ => rfl, rfl, rfl⟩
    · rename_i ha
      exact .update hlive (Bool.not_eq_true _ ▸ ha)
  | scheduleFaultOnset => exact ⟨_, rfl, .ite fun ⟨hlive, _, ha⟩ => .eventNow hlive (.faultOnset ha)⟩
  | prelubeTimerExpiry => exact ⟨_, rfl, State.phaseExpiry_outcome fun _ => .prelubeEnd⟩
  | crankWindowExpiry => exact ⟨_, rfl, State.phaseExpiry_outcome fun _ => .crankEnd⟩
  | catchWindowExpiry => exact ⟨_, rfl, State.phaseExpiry_outcome fun _ => .catchEnd⟩
  | restTimerExpiry => exact ⟨_, rfl, State.phaseExpiry_outcome fun _ => .restEnd⟩
  | lubeWindowExpiry => exact ⟨_, rfl, .ite fun _ => State.phaseExpiry_outcome fun _ => .lubeWindowEnd⟩
  | warmTimerExpiry => exact ⟨_, rfl, .ite fun _ => State.phaseExpiry_outcome fun _ => .warmEnd⟩
  | starterLockoutExpiry =>
    show ∃ u, execStarterLockoutExpiry s = .next u ∧ _
    unfold execStarterLockoutExpiry
    split
    · exact ⟨s, rfl, .refl s⟩
    · exact ⟨_, rfl, .ite fun hlive => .eventAt _ hlive .lockoutEnd⟩
  | prelubeCreditExpiry =>
    show ∃ u, execPrelubeCreditExpiry s = .next u ∧ _
    unfold execPrelubeCreditExpiry
    split
    · exact ⟨s, rfl, .refl s⟩
    · exact ⟨_, rfl, .ite fun _ => .calm
        ⟨le_max_left _ _, rfl, fun h => h.of_ports rfl, rfl, rfl, rfl, rfl, rfl, rfl, rfl, rfl,
        fun _ => rfl, rfl, rfl⟩⟩
  | cooldownExpiry =>
    show ∃ u, execCooldownExpiry s = .next u ∧ _
    unfold execCooldownExpiry
    split
    · exact ⟨s, rfl, .refl s⟩
    · exact ⟨_, rfl, .ite fun ⟨hlive, hst⟩ => .eventAt _ hlive (.cooldownEnd hst)⟩
  | rundownExpiry =>
    show ∃ u, execRundownExpiry s = .next u ∧ _
    unfold execRundownExpiry
    split
    · exact ⟨s, rfl, .refl s⟩
    · exact ⟨_, rfl, .ite fun ⟨hlive, hst⟩ => .eventAt _ hlive (.rundownEnd hst)⟩
  | idleTimerExpiry =>
    show ∃ u, execIdleTimerExpiry s = .next u ∧ _
    unfold execIdleTimerExpiry
    split
    · exact ⟨s, rfl, .refl s⟩
    · exact ⟨_, rfl, .ite fun hlive => .eventAt _ hlive .idleLimit⟩
  | laidUpEntryJudgement => exact ⟨_, rfl, .ite fun ⟨hlive, _⟩ => .eventNow hlive .entryJudgement⟩
  | lossOfSupply after =>
    refine ⟨_, rfl, ?_⟩
    dsimp only
    split
    · exact .loss after _
    · exact .calm (.of_later (s.elapse_later after))
  | frameSentInFull l =>
    show ∃ u, execFrameSentInFull l s = .next u ∧ _
    unfold execFrameSentInFull
    split
    · exact ⟨s, rfl, .refl s⟩
    · exact ⟨_, rfl, .ite fun _ => .calm ((atInstant _).withPort l fun hp => hp.sentInFull _).calm⟩
  | malformedOrder l =>
    refine ⟨_, rfl, .ite fun _ => ?_⟩
    split
    · exact .calm (s.answer_calm l _)
    · exact .refl s

theorem exec_outcome {i : Instr} {t : State} (h : exec i s = .next t) : StepOutcome s t := by
  obtain ⟨u, hu, ho⟩ := exec_completes i s
  rw [h] at hu
  cases hu
  exact ho

/-- A step is an outcome of the state with some queue of commands; the tick of an empty queue is a calm one. -/
theorem step_outcome {t : State} (h : step s = .next t) :
    ∃ rest : List Instr, StepOutcome { s with pending := rest } t := by
  unfold step at h
  split at h
  · cases h
    exact ⟨s.pending, .calm (.of_later (s.elapse_later 1))⟩
  · exact ⟨_, exec_outcome h⟩

end Sys2Proof.Machine
end

section
/-! What an accepted action can do to the working view of its order, said once, and the induction over the actions of an
order that its users share. -/

namespace Sys2Proof.Machine

/-- The effects of an accepted action of the link `l`, each with what its checks found (R15 to R39, R152 to R156). -/
inductive ActionEffect (l : Link) (s : State) : State → Prop
  | claim {n : Nat} (hn : n ≤ 8) (hout : (s.entry (sourceOf l)).place = .out) :
      ActionEffect l s (s.claimEffect (sourceOf l) n)
  | release (hin : (s.entry (sourceOf l)).place ≠ .out) : ActionEffect l s (s.releaseSource (sourceOf l))
  | notch {n : Nat} (hn : n ≤ 8) (hin : (s.entry (sourceOf l)).place ≠ .out) :
      ActionEffect l s (s.notchEffect (sourceOf l) n)
  | start {mode : StartMode} (hr : s.startRefusal mode = none) :
      ActionEffect l s (s.openStart (.source (sourceOf l)) mode)
  | stop (hr : s.stopRefusal = none) : ActionEffect l s s.stopEffect
  | cancelStart {p : Phase} (hst : s.engine.state = some (.starting p)) : ActionEffect l s (s.endStart .cancelled)
  | cancelCooldown (hst : s.engine.state = some .cooldown) : ActionEffect l s s.cancelCooldown
  | isolate (on : Bool) : ActionEffect l s (s.isolateEffect on)
  | layup (p : Permission) (hin : (s.entry (sourceOf l)).place ≠ .out) :
      ActionEffect l s (s.layupEffect (sourceOf l) p)
  | tripReset (ht : s.monitor.trips ≠ []) (hm : s.mayReset l = true) : ActionEffect l s s.tripResetEffect
  | read : ActionEffect l s s
  | setting {k : Setting} {v : Nat} (hv : k.inRange v = true) (ha : s.writeAdmitted l k.group = true)
      (hr : ∀ m : Link, k.rankOf = some m → s.rankTaken m v = false) : ActionEffect l s (s.writeSetting k v)
  | word {n : Nat} (w : Word16) (hn : n ≤ 511) (ha : s.writeAdmitted l .schedule = true) :
      ActionEffect l s (s.writeWordAt n w)
  | segment (g : SegmentId) {base limit stride : Nat} (hr : segmentInRange base limit stride = true)
      (ha : s.writeAdmitted l .schedule = true) : ActionEffect l s (s.writeSegment g base limit stride)

variable {l : Link} {s w : State} {used : Nat}

theorem State.doStart_effect {m : Byte} (h : s.doStart l m = .ok w) : ActionEffect l s w := by
  unfold State.doStart at h
  split at h
  · cases h
  · split_ifs at h
    split at h
    · cases h
    · cases h
      exact .start ‹_›

theorem State.doStop_effect (h : s.doStop l = .ok w) : ActionEffect l s w := by
  unfold State.doStop at h
  split_ifs at h
  split at h
  · cases h
  · cases h
    exact .stop ‹_›

theorem State.doCancel_effect (h : s.doCancel l = .ok w) : ActionEffect l s w := by
  unfold State.doCancel at h
  split_ifs at h
  split at h
  · cases h
    exact .cancelStart ‹_›
  · cases h
    exact .cancelCooldown ‹_›
  · cases h
  · cases h

theorem State.doSetSetting_effect {number value : Word16} (h : s.doSetSetting l number value = .ok w) :
    ActionEffect l s w := by
  unfold State.doSetSetting at h
  split at h
  · cases h
  · rename_i k _
    split_ifs at h with hv ha
    rw [Bool.not_eq_false] at hv ha
    split at h
    · rename_i m hm
      split_ifs at h with ht
      cases h
      refine .setting hv ha fun m' hm' => ?_
      rw [hm] at hm'
      cases hm'
      exact Bool.not_eq_true _ ▸ ht
    · rename_i hm
      cases h
      exact .setting hv ha fun m' hm' => by rw [hm] at hm'; cases hm'

/-- The effect of every accepted action is on the list. -/
theorem State.doAction_effect {a : Sys2Proof.Action} (h : s.doAction l used a = .ok w) : ActionEffect l s w := by
  cases a with
  | claim n =>
    simp only [State.doAction, State.doClaim] at h
    split_ifs at h with hn hp hs
    cases h
    exact .claim (Nat.not_lt.mp hn) (not_not.mp hp)
  | release =>
    simp only [State.doAction, State.doRelease] at h
    split_ifs at h with hp
    cases h
    exact .release hp
  | notch n =>
    simp only [State.doAction, State.doNotch] at h
    split_ifs at h with hn hp
    cases h
    exact .notch (Nat.not_lt.mp hn) hp
  | start m => exact State.doStart_effect h
  | stop => exact State.doStop_effect h
  | cancel => exact State.doCancel_effect h
  | isolate o =>
    simp only [State.doAction, State.doIsolate] at h
    split at h
    · cases h
    · split_ifs at h
      cases h
      exact .isolate _
  | layup o =>
    simp only [State.doAction, State.doLayup] at h
    split at h
    · cases h
    · split_ifs at h with hp
      cases h
      exact .layup _ hp
  | tripReset =>
    simp only [State.doAction, State.doTripReset] at h
    split_ifs at h with ht hm
    cases h
    exact .tripReset ht (Bool.not_eq_false _ ▸ hm)
  | read i n =>
    simp only [State.doAction, State.doRead] at h
    split_ifs at h
    cases h
    exact .read
  | set c n v =>
    simp only [State.doAction, State.doSet] at h
    split_ifs at h
    · exact State.doSetSetting_effect h
    · unfold State.doSetWord at h
      split_ifs at h with hn ha
      cases h
      exact .word v (Nat.not_lt.mp hn) (Bool.not_eq_false _ ▸ ha)
  | segment id base limit stride =>
    simp only [State.doAction, State.doSegment] at h
    split at h
    · cases h
    · split_ifs at h with hr ha
      cases h
      exact .segment _ (Bool.not_eq_false _ ▸ hr) (Bool.not_eq_false _ ▸ ha)

/-- What every accepted action keeps, an accepted order keeps. -/
theorem State.runActions_keeps {P : State → Prop} (hP : ∀ v w : State, ActionEffect l v w → P v → P w)
    {as earlier : List Sys2Proof.Action} {index : Nat} (h : State.runActions l index used earlier as s = .ok w)
    (hs : P s) : P w := by
  induction as generalizing s index used earlier with
  | nil =>
    rw [State.runActions] at h
    cases h
    exact hs
  | cons a as ih =>
    rw [State.runActions] at h
    split_ifs at h
    cases ha : s.doAction l used a with
    | error c => rw [ha] at h; cases h
    | ok v => rw [ha] at h; exact ih h (hP s v (State.doAction_effect ha) hs)

end Sys2Proof.Machine
end

section
/-! What no event moves but by its own change, for the changes of the rows; and from it the soundness of the stores, and
that every command completes. -/

namespace Sys2Proof.Machine

variable {u s : State}

/-! ## The frames of the rows' own changes -/

theorem State.evaluate_frame (c : Channel) (h : Frame u s) : Frame u (s.evaluate c) := by
  unfold State.evaluate
  dsimp only
  split_ifs
  · exact h
  · exact h.upd rfl rfl rfl rfl rfl rfl rfl
  · exact h.upd rfl rfl rfl rfl rfl rfl rfl
  · exact h.upd rfl rfl rfl rfl rfl rfl rfl
  · exact State.onset_frame c h
  · exact h.upd rfl rfl rfl rfl rfl rfl rfl
  · exact h.upd rfl rfl rfl rfl rfl rfl rfl

theorem State.latchFault_frame (h : Frame u s) : Frame u s.latchFault := by
  unfold State.latchFault
  split
  · exact h
  · exact State.onset_frame _ (h.upd rfl rfl rfl rfl rfl rfl rfl)

theorem State.monitorScan_frame (h : Frame u s) : Frame u s.monitorScan := by
  have hm : Frame u ((Channel.thresholds.foldl State.evaluate s).marked s.scanLookups) :=
    State.marked_frame _ (Frame.foldl (fun _ c k => State.evaluate_frame c k) _ h)
  refine State.withTrip_frame ?_
  dsimp only
  split
  · exact State.latchFault_frame hm
  · exact hm

theorem State.warmCheck_frame (h : Frame u s) : Frame u s.warmCheck := by
  unfold State.warmCheck
  split <;> exact State.endStart_frame _ h

theorem State.lubeComparison_frame (h : Frame u s) : Frame u s.lubeComparison := by
  unfold State.lubeComparison
  dsimp only
  split_ifs
  · exact State.warmCheck_frame (h.upd rfl rfl rfl rfl rfl rfl rfl)
  · exact h.upd rfl rfl rfl rfl rfl rfl rfl
  · exact h

theorem State.monitorQuality_frame (was : SpeedQuality) (h : Frame u s) : Frame u (s.monitorQuality was) := by
  unfold State.monitorQuality
  split_ifs
  · exact h
  · exact State.onset_frame _ h
  · exact h.upd rfl rfl rfl rfl rfl rfl rfl
  · exact h

theorem State.chooseState_frame (h : Frame u s) : Frame u s.chooseState := by
  have h1 : Frame u { s with engine := { s.engine with awaitingChoice := false } } := h.upd rfl rfl rfl rfl rfl rfl rfl
  unfold State.chooseState
  dsimp only
  split
  · exact State.enter_frame _ h1
  · split
    · split
      · exact State.enterRunning_frame h1
      · exact State.enterRundown_frame (State.withStopKind_frame _ h1)
    · split
      · exact State.enterRundown_frame (State.withStopKind_frame _ h1)
      · split
        · exact (State.enter_frame .laidUp h1).upd rfl rfl rfl rfl rfl rfl rfl
        · exact State.enter_frame _ h1

theorem State.raisePeak_frame (h : Frame u s) : Frame u s.raisePeak := h.upd rfl rfl rfl rfl rfl rfl rfl

theorem State.withRun_frame (n : Nat) (h : Frame u s) : Frame u (s.withRun n) := h.upd rfl rfl rfl rfl rfl rfl rfl

theorem State.crankMeasurement_frame (was : SpeedQuality) (h : Frame u s) : Frame u (s.crankMeasurement was) := by
  have h1 := State.raisePeak_frame h
  unfold State.crankMeasurement
  dsimp only
  split_ifs
  · exact State.endStart_frame _ h1
  · exact State.failAttempt_frame _ h1
  · exact State.endStart_frame _ h1
  · exact State.enterCatch_frame h1
  · exact State.withRun_frame _ h1
  · exact State.withRun_frame _ h1

theorem State.catchMeasurement_frame (h : Frame u s) : Frame u s.catchMeasurement := by
  have h1 := State.raisePeak_frame h
  unfold State.catchMeasurement
  dsimp only
  split_ifs
  · exact State.enterWarm_frame h1
  · exact State.failAttempt_frame _ h1
  · exact State.withRun_frame _ h1
  · exact State.withRun_frame _ h1

theorem State.restTest_frame (h : Frame u s) : Frame u s.restTest := by
  unfold State.restTest
  split
  · exact State.enterCrank_frame h
  · exact h

theorem State.takeMeasurement_frame (was : SpeedQuality) (h : Frame u s) : Frame u (s.takeMeasurement was) := by
  unfold State.takeMeasurement
  split
  · exact State.chooseState_frame h
  · split
    · exact State.crankMeasurement_frame was h
    · exact State.catchMeasurement_frame h
    · exact State.restTest_frame h
    · split
      · exact State.endRundown_frame h
      · exact h
    · exact h

theorem State.monitorInput_frame (i : Input) (h : Frame u s) : Frame u (s.monitorInput i) := by
  unfold State.monitorInput
  split
  · exact h
  · split_ifs
    · exact h
    · exact State.withTrip_frame (State.onset_frame _ h)
    · exact h.upd rfl rfl rfl rfl rfl rfl rfl
    · exact h

theorem State.filterChange_frame (s : State) (i : Input) :
    Frame (s.withInput i (s.frontEnd.inputs.get i).settleFilter) (s.filterChange i) := by
  have h := State.monitorInput_frame i (Frame.refl (s.withInput i (s.frontEnd.inputs.get i).settleFilter))
  unfold State.filterChange
  dsimp only
  split
  · exact State.judgeIsolation_frame h
  · exact h

theorem State.layupRequest_frame (h : Frame u s) : Frame u s.layupRequest := by
  unfold State.layupRequest
  split
  · exact State.beginStop_frame _ h
  · exact h

theorem State.lapseEffect_frame (s : State) (l : Link) :
    Frame { s with ports := (s.lapseEffect l).ports } (s.lapseEffect l) := by
  unfold State.lapseEffect
  split
  · obtain ⟨hnow, hsupply, hreset, -, hfront, hpending, hcontents⟩ :=
      State.releaseSource_frame (sourceOf l) (Frame.refl s)
    exact ⟨hnow, hsupply, hreset, rfl, hfront, hpending, hcontents⟩
  · exact Frame.refl s

/-- An event's change moves, of all that no close touches, only the ports (a lapse) and the Front End (a scan, a
measurement, a filtered level). -/
theorem EventOf.framed {judged : Bool} {w : State} (h : EventOf u judged w) :
    ∃ (p : PerLink Port) (f : FrontEnd), Frame { u with ports := p, frontEnd := f } w := by
  have hdrop : Frame u u.dropPhaseTimer := (Frame.refl u).upd rfl rfl rfl rfl rfl rfl rfl
  cases h with
  | scan raw =>
    have h1 := State.lubeComparison_frame (State.monitorScan_frame (Frame.refl (u.takeScan raw)))
    exact ⟨u.ports, (u.takeScan raw).frontEnd, h1⟩
  | measurement =>
    have h1 := State.takeMeasurement_frame u.frontEnd.quality
      (State.monitorQuality_frame u.frontEnd.quality (Frame.refl u.measure))
    exact ⟨u.ports, u.measure.frontEnd, h1⟩
  | filterChange i => exact ⟨_, _, u.filterChange_frame i⟩
  | lapse l => exact ⟨_, _, (u.takeReport l).lapseEffect_frame l⟩
  | faultOnset _ => exact ⟨_, _, State.latchFault_frame ((Frame.refl u).upd rfl rfl rfl rfl rfl rfl rfl)⟩
  | prelubeEnd _ => exact ⟨_, _, State.prelubeCheck_frame hdrop⟩
  | crankEnd _ => exact ⟨_, _, State.failAttempt_frame _ hdrop⟩
  | catchEnd _ => exact ⟨_, _, State.failAttempt_frame _ hdrop⟩
  | restEnd _ => exact ⟨_, _, State.restTest_frame hdrop⟩
  | lubeWindowEnd _ => exact ⟨_, _, State.endStart_frame _ hdrop⟩
  | warmEnd _ => exact ⟨_, _, State.warmCheck_frame hdrop⟩
  | lockoutEnd => exact ⟨_, _, (Frame.refl u).upd rfl rfl rfl rfl rfl rfl rfl⟩
  | cooldownEnd _ => exact ⟨_, _, State.enterRundown_frame (Frame.refl u)⟩
  | rundownEnd _ => exact ⟨_, _, State.endRundown_frame (Frame.refl u)⟩
  | idleLimit => exact ⟨_, _, State.layupRequest_frame (Frame.refl u)⟩
  | entryJudgement => exact ⟨_, _, (Frame.refl u).upd rfl rfl rfl rfl rfl rfl rfl⟩

/-- A whole event keeps the contents of the stores. -/
theorem EventOf.settle_contents {judged : Bool} {w : State} (h : EventOf u judged w) :
    sameContents u (u.settle judged w) := by
  obtain ⟨p, f, hw⟩ := h.framed
  exact (State.settle_frame u judged hw).contents

/-- A commit moves nothing that no close touches. -/
theorem State.commit_frame (s : State) (as : List Sys2Proof.Action) (w : State) : Frame w (s.commit as w) :=
  State.settle_frame s _ (State.completed_frame as (Frame.refl w))

/-! ## The update -/

theorem State.riseStep_frame (h : Frame u s) : Frame u s.riseStep := by
  have h1 := State.lookedUp_frame s.riseLookups h
  unfold State.riseStep
  dsimp only
  split
  · exact State.lookedUp_frame _ (h1.upd rfl rfl rfl rfl rfl rfl rfl)
  · exact h1

theorem State.loadArithmetic_frame (h : Frame u s) : Frame u s.loadArithmetic :=
  State.lookedUp_frame _ (h.upd rfl rfl rfl rfl rfl rfl rfl)

theorem State.update_frame (h : Frame u s) : Frame u s.update := by
  have hspeed : ∀ v : State, Frame u v → Frame u v.formSpeed.presentLoops := fun _ k =>
    (State.formSpeed_frame k).upd rfl rfl rfl rfl rfl rfl rfl
  have h1 := State.formTarget_frame h
  unfold State.update
  dsimp only
  split_ifs
  · exact hspeed _ (State.loadArithmetic_frame (State.riseStep_frame h1))
  · exact hspeed _ ((State.riseStep_frame h1).upd rfl rfl rfl rfl rfl rfl rfl)
  · exact hspeed _ (h1.upd rfl rfl rfl rfl rfl rfl rfl)

theorem State.updated_frame (s : State) : Frame (s.reach s.stepper.nextUpdate) s.updated :=
  (State.update_frame (((Frame.refl (s.reach s.stepper.nextUpdate))).upd
    (t := { s.reach s.stepper.nextUpdate with
      stepper := { s.stepper with nextUpdate := s.stepper.nextUpdate + Config.period } })
    rfl rfl rfl rfl rfl rfl rfl)).upd rfl rfl rfl rfl rfl rfl rfl

/-! ## The stores stay sound -/

/-- Soundness of the stores reads their contents alone. -/
theorem StoreSound.of_sameContents {t : State} (h : StoreSound s) (hc : sameContents s t) : StoreSound t := by
  obtain ⟨hw, hset, hseg⟩ := hc
  have hsettings : t.settings = s.settings := hset
  obtain ⟨words, segments, settings, ranks⟩ := h
  refine ⟨by rw [hw]; exact words, fun g => ?_, by rw [hsettings]; exact settings, by rw [hsettings]; exact ranks⟩
  obtain ⟨hb, hl, hst⟩ := hseg g
  rw [SegmentEntry.legal, hb, hl, hst]
  exact segments g

theorem StoreSound.of_store {t : State} (h : StoreSound s) (hc : t.store = s.store) : StoreSound t :=
  h.of_sameContents (sameContents_of_store hc)

theorem Store.clearMarks_segment (st : Store) (g : SegmentId) :
    st.clearMarks.segments.get g = (st.segments.get g).clearMark := by cases g <;> rfl

/-- Clearing the fault marks touches nothing else. -/
theorem sameContents_of_clearMarks {t : State} (h : t.store = s.store.clearMarks) : sameContents s t := by
  refine ⟨by rw [h]; rfl, by rw [h]; rfl, fun g => ?_⟩
  rw [h, Store.clearMarks_segment]
  exact ⟨rfl, rfl, rfl⟩

theorem rankSetting_injective {l m : Link} (h : rankSetting l = rankSetting m) : l = m := by
  cases l <;> cases m <;> first | rfl | exact absurd h (by decide)

theorem Setting.rankOf_rankSetting (m : Link) : (rankSetting m).rankOf = some m := by cases m <;> rfl

/-- No other link has a rank that is not taken. -/
theorem State.rankTaken_eq_false {l : Link} {v : Nat} (h : s.rankTaken l v = false) {m : Link} (hm : m ≠ l) :
    s.settings.get (rankSetting m) ≠ v := by
  simp only [State.rankTaken, List.any_eq_false, Bool.and_eq_true, decide_eq_true_eq, not_and] at h
  exact h m (mem_everyLink m) hm

/-- A checked write keeps the settings in range and the ranks distinct (R156). -/
theorem StoreSound.withSetting {k : Setting} {v : Nat} (h : StoreSound s) (hv : k.inRange v = true)
    (hr : ∀ m : Link, k.rankOf = some m → s.rankTaken m v = false) :
    StoreSound (s.withSettings (s.settings.set k v)) := by
  obtain ⟨words, segments, settings, ranks⟩ := h
  refine ⟨words, segments, fun j => ?_, fun l m hlm => ?_⟩
  · show j.inRange ((s.settings.set k v).get j) = true
    by_cases hj : j = k
    · subst hj; rwa [Settings.get_set_self]
    · rw [Settings.get_set_ne _ _ hj]; exact settings j
  · show (s.settings.set k v).get (rankSetting l) ≠ (s.settings.set k v).get (rankSetting m)
    by_cases hl : rankSetting l = k
    · have hm : rankSetting m ≠ k := fun hm => hlm (rankSetting_injective (hl.trans hm.symm))
      have hfree := hr l (by rw [← hl, Setting.rankOf_rankSetting])
      rw [Settings.get_set_ne _ _ hm, ← hl, Settings.get_set_self]
      exact (State.rankTaken_eq_false hfree (Ne.symm hlm)).symm
    · rw [Settings.get_set_ne _ _ hl]
      by_cases hm : rankSetting m = k
      · have hfree := hr m (by rw [← hm, Setting.rankOf_rankSetting])
        rw [← hm, Settings.get_set_self]
        exact State.rankTaken_eq_false hfree hlm
      · rw [Settings.get_set_ne _ _ hm]
        exact ranks l m hlm

/-- The reader of a written setting touches no store. -/
theorem State.writeSetting_store (s : State) (k : Setting) (v : Nat) :
    (s.writeSetting k v).store = { s.store with settings := s.settings.set k v } := by
  unfold State.writeSetting State.reportLapse
  cases k.silenceOf with
  | some l => dsimp only; split <;> rfl
  | none => cases k.inputOf <;> rfl

theorem segmentInRange_iff {base limit stride : Nat} :
    segmentInRange base limit stride = true ↔ SegmentEntry.legal ⟨base, limit, stride, false⟩ := by
  simp [segmentInRange, SegmentEntry.legal]

/-- The actions that write no store keep its contents. -/
theorem ActionEffect.storeSound {l : Link} {w : State} (h : ActionEffect l s w) (hs : StoreSound s) : StoreSound w := by
  have framed : Frame s w → StoreSound w := fun k => hs.of_sameContents k.contents
  cases h with
  | claim _ _ => exact framed (State.claimEffect_frame _ _ (Frame.refl s))
  | release _ => exact framed (State.releaseSource_frame _ (Frame.refl s))
  | notch _ _ => exact hs.of_store rfl
  | start _ => exact framed (State.openStart_frame _ _ (Frame.refl s))
  | stop _ =>
    have hm := State.enter_frame .stopped ((Frame.refl s).upd (t := s.withLayupMark false) rfl rfl rfl rfl rfl rfl rfl)
    refine framed ?_
    unfold State.stopEffect
    split
    · exact hm
    · exact State.beginStop_frame _ (Frame.refl s)
    · exact State.beginStop_frame _ (Frame.refl s)
    · exact State.withStopKind_frame _ (Frame.refl s)
  | cancelStart _ => exact framed (State.endStart_frame _ (Frame.refl s))
  | cancelCooldown _ => exact framed (State.enterRunning_frame ((Frame.refl s).upd rfl rfl rfl rfl rfl rfl rfl))
  | isolate on => exact framed (State.judgeIsolation_frame ((Frame.refl s).upd rfl rfl rfl rfl rfl rfl rfl))
  | layup _ _ => exact hs.of_store rfl
  | tripReset _ _ =>
    exact framed (State.enter_frame _ (State.releaseSource_frame _ ((Frame.refl s).upd rfl rfl rfl rfl rfl rfl rfl)))
  | read => exact hs
  | setting hv _ hr => exact (hs.withSetting hv hr).of_store (State.writeSetting_store s _ _)
  | @word n v hn _ =>
    have hw : StoreSound { s with store := { s.store with words := writeWord s.store.words n v } } :=
      ⟨wordsWellFormed_writeWord (Nat.lt_succ_of_le hn) hs.words, hs.segments, hs.settings, hs.ranks⟩
    exact hw.of_sameContents (sameContents_of_clearMarks rfl)
  | @segment g base limit stride hr _ =>
    have hw : StoreSound { s with store := { s.store with segments := s.store.segments.set g ⟨base, limit, stride, false⟩ } } := by
      refine ⟨hs.words, fun h => ?_, hs.settings, hs.ranks⟩
      show ((s.store.segments.set g ⟨base, limit, stride, false⟩).get h).legal
      by_cases hg : h = g
      · subst hg
        rw [PerSegment.get_set_self]
        exact segmentInRange_iff.mp hr
      · rw [PerSegment.get_set_ne _ _ hg]
        exact hs.segments h
    exact hw.of_sameContents (sameContents_of_clearMarks rfl)

theorem StepOutcome.storeSound {t : State} (h : StepOutcome s t) (hs : StoreSound s) : StoreSound t := by
  cases h with
  | calm h => exact hs.of_store h.store
  | event hu _ he => exact (hs.of_store (Calm.of_later hu).store).of_sameContents he.settle_contents
  | @order l as w body _ hrun =>
    have hw := State.runActions_keeps (fun _ _ => ActionEffect.storeSound) hrun hs
    exact (hw.of_sameContents (s.commit_frame as w).contents).of_store rfl
  | update _ _ => exact (hs.of_store rfl).of_sameContents s.updated_frame.contents
  | powerOn after raw levels => exact hs.of_sameContents (sameContents_of_clearMarks rfl)
  | loss after levels => exact hs.of_sameContents (sameContents_of_clearMarks rfl)
  | assertion after _ => exact hs.of_store rfl
  | exit after since raw _ => exact hs.of_store rfl

/-- Settles O53: no outcome of a step writes the stores but an action whose checks keep them sound. -/
theorem storeStaysSound : Obligations.StoreStaysSound := by
  intro s t hs hstep
  obtain ⟨rest, ho⟩ := step_outcome hstep
  exact ho.storeSound (hs.of_store rfl)

end Sys2Proof.Machine
end

section
/-! What the Stepper's part of an event touches, the close of an event after its re-arming, and from them that every
command completes and that the ports stay sound. -/

namespace Sys2Proof.Machine

/-! ## The Stepper's part -/

/-- All but the Stepper, the two loops, the fault marks and a report of a faulting lookup as it was. -/
structure StepperFrame (s t : State) : Prop where
  frame : Frame s t
  arbiter : t.arbiter = s.arbiter
  engine : t.engine = s.engine
  sequencer : t.sequencer = s.sequencer
  idle : t.idle = s.idle
  monitor : sameMonitor s t
  outputs : t.outputs = { s.outputs with governor := t.outputs.governor, excitation := t.outputs.excitation }

theorem StepperFrame.refl (s : State) : StepperFrame s s := ⟨Frame.refl s, rfl, rfl, rfl, rfl, rfl, rfl⟩

theorem StepperFrame.trans {s t u : State} (h : StepperFrame s t) (k : StepperFrame t u) : StepperFrame s u where
  frame := h.frame.trans k.frame
  arbiter := k.arbiter.trans h.arbiter
  engine := k.engine.trans h.engine
  sequencer := k.sequencer.trans h.sequencer
  idle := k.idle.trans h.idle
  monitor := by
    have hm := k.monitor
    rw [sameMonitor, h.monitor] at hm
    exact hm
  outputs := by
    have ho := k.outputs
    rw [h.outputs] at ho
    exact ho

/-- A further change of the Stepper and the loops alone. -/
theorem StepperFrame.upd {u s : State} (h : StepperFrame u s) (p : Stepper) (governor excitation : Nat) :
    StepperFrame u { s with
      stepper := p, outputs := { s.outputs with governor := governor, excitation := excitation } } :=
  h.trans ⟨(Frame.refl s).upd rfl rfl rfl rfl rfl rfl rfl, rfl, rfl, rfl, rfl, rfl, rfl⟩

theorem StepperFrame.stepper {u s : State} (h : StepperFrame u s) (p : Stepper) :
    StepperFrame u { s with stepper := p } := h.upd p s.outputs.governor s.outputs.excitation

section

variable {u s : State}

theorem StepperFrame.lookedUp (h : StepperFrame u s) (ks : List Lookup) : StepperFrame u (s.lookedUp ks) :=
  h.trans ⟨State.lookedUp_frame ks (Frame.refl s), rfl, rfl, rfl, rfl, rfl, rfl⟩

theorem StepperFrame.dropTo (h : StepperFrame u s) (n : Nat) : StepperFrame u (s.dropTo n) := by
  unfold State.dropTo
  split
  · exact h.stepper _
  · exact (h.stepper _).lookedUp _

theorem StepperFrame.formTarget (h : StepperFrame u s) : StepperFrame u s.formTarget := by
  have h1 : StepperFrame u (s.withTarget s.targetNotch) := h.stepper _
  unfold State.formTarget
  dsimp only
  split
  · exact h1.dropTo _
  · exact h1

theorem StepperFrame.formSpeed (h : StepperFrame u s) : StepperFrame u s.formSpeed := by
  unfold State.formSpeed
  dsimp only
  split
  · exact (h.stepper _).lookedUp _
  · exact h.stepper _

theorem StepperFrame.presentLoops (h : StepperFrame u s) : StepperFrame u s.presentLoops := h.upd s.stepper _ _

theorem StepperFrame.stepperAnnounced (before : State) (h : StepperFrame u s) :
    StepperFrame u (before.stepperAnnounced s) := by
  unfold State.stepperAnnounced
  dsimp only
  split
  · exact h
  · split
    · exact h.formTarget.formSpeed.presentLoops
    · exact h.formTarget.presentLoops

theorem StepperFrame.riseStep (h : StepperFrame u s) : StepperFrame u s.riseStep := by
  unfold State.riseStep
  dsimp only
  split
  · exact ((h.lookedUp _).stepper _).lookedUp _
  · exact h.lookedUp _

theorem StepperFrame.loadArithmetic (h : StepperFrame u s) : StepperFrame u s.loadArithmetic :=
  (h.stepper _).lookedUp _

theorem StepperFrame.update (h : StepperFrame u s) : StepperFrame u s.update := by
  unfold State.update
  dsimp only
  split_ifs
  · exact h.formTarget.riseStep.loadArithmetic.formSpeed.presentLoops
  · exact (h.formTarget.riseStep.stepper _).formSpeed.presentLoops
  · exact (h.formTarget.stepper _).formSpeed.presentLoops

end

/-- The state in which an update falls, its next instant set. -/
def State.updateDue (s : State) : State :=
  { s.reach s.stepper.nextUpdate with
    stepper := { s.stepper with nextUpdate := s.stepper.nextUpdate + Config.period } }

theorem State.update_stepperFrame (s : State) : StepperFrame s s.update := (StepperFrame.refl s).update

/-! ## The close of an event -/

/-- The close of an event but for its re-arming and its wake: the onsets put in order, the Stepper, ALERT and the idle
timer. -/
def State.close (before s : State) : State :=
  before.judgeIdle (before.stepperAnnounced (before.orderOnsets s)).setAlert

/-- The part of a settlement that comes before its close: the re-arming, and the wake watch where it judges. -/
def State.rearmed (before : State) (judged : Bool) (s : State) : State :=
  if judged = true ∨ before.presented ≠ s.rearm.presented then s.rearm.judgeWake.rearm else s.rearm

theorem State.settle_eq_close (before : State) (judged : Bool) (s : State) :
    before.settle judged s = before.close (before.rearmed judged s) := rfl

section

variable (before s : State)

theorem State.announced_stepperFrame :
    StepperFrame (before.orderOnsets s) (before.stepperAnnounced (before.orderOnsets s)) :=
  (StepperFrame.refl _).stepperAnnounced before

theorem State.close_frame : Frame s (before.close s) :=
  ((State.orderOnsets_frame before (Frame.refl s)).trans (before.announced_stepperFrame s).frame).upd
    rfl rfl rfl rfl rfl rfl rfl

@[simp] theorem State.close_now : (before.close s).now = s.now := (before.close_frame s).now
@[simp] theorem State.close_resetSince : (before.close s).resetSince = s.resetSince := (before.close_frame s).resetSince
@[simp] theorem State.close_ports : (before.close s).ports = s.ports := (before.close_frame s).ports
@[simp] theorem State.close_frontEnd : (before.close s).frontEnd = s.frontEnd := (before.close_frame s).frontEnd
@[simp] theorem State.close_arbiter : (before.close s).arbiter = s.arbiter := (before.announced_stepperFrame s).arbiter
@[simp] theorem State.close_engine : (before.close s).engine = s.engine := (before.announced_stepperFrame s).engine
@[simp] theorem State.close_sequencer : (before.close s).sequencer = s.sequencer :=
  (before.announced_stepperFrame s).sequencer

/-- The close leaves the Monitor but for the order of the onsets and a report. -/
theorem State.close_monitor : (before.close s).monitor =
    { s.monitor with
      conditions := inChannelOrder before.monitor.conditions s.monitor.conditions
      faultReported := (before.close s).monitor.faultReported } :=
  (before.announced_stepperFrame s).monitor

@[simp] theorem State.close_conditions : (before.close s).monitor.conditions =
    inChannelOrder before.monitor.conditions s.monitor.conditions := by rw [State.close_monitor]

@[simp] theorem State.close_trips : (before.close s).monitor.trips = s.monitor.trips := by rw [State.close_monitor]

@[simp] theorem State.close_latch : (before.close s).monitor.latch = s.monitor.latch := by rw [State.close_monitor]

@[simp] theorem State.close_channel (c : Channel) : (before.close s).channel c = s.channel c := by
  unfold State.channel; rw [State.close_monitor]

/-- The close moves of the outputs the two loops and ALERT. -/
theorem State.close_outputs : (before.close s).outputs =
    { s.outputs with
      alert := (before.close s).alertLevel
      governor := (before.close s).outputs.governor
      excitation := (before.close s).outputs.excitation } :=
  congrArg (fun o : Outputs => { o with alert := (before.close s).alertLevel }) (before.announced_stepperFrame s).outputs

@[simp] theorem State.close_starter : (before.close s).outputs.starter = s.outputs.starter := by
  rw [State.close_outputs]

@[simp] theorem State.close_prelube : (before.close s).outputs.prelube = s.outputs.prelube := by
  rw [State.close_outputs]

@[simp] theorem State.close_fuelRun : (before.close s).outputs.fuelRun = s.outputs.fuelRun := by
  rw [State.close_outputs]

theorem State.close_alert : (before.close s).outputs.alert = (before.close s).alertLevel := by
  rw [State.close_outputs]

@[simp] theorem State.close_entryJudgementDue :
    (before.close s).idle.entryJudgementDue = s.idle.entryJudgementDue := by
  show (before.stepperAnnounced (before.orderOnsets s)).idle.entryJudgementDue = _
  rw [(before.announced_stepperFrame s).idle]
  rfl

end

/-! ## Every command completes -/

section

variable {s t : State}

/-- A Condition List that only lost entries stands as an event's order has it. -/
theorem conditions_of_subset {old now : List Channel} (h : ∀ c ∈ now, c ∈ old) :
    now = now.filter (fun c => old.contains c) ++ Channel.order.filter fun c => now.contains c && !old.contains c :=
  (inChannelOrder_of_subset h).symm

theorem EventOf.pending {u w : State} {judged : Bool} (h : EventOf u judged w) :
    (u.settle judged w).pending = u.pending := by
  obtain ⟨p, f, hw⟩ := h.framed
  exact (State.settle_frame u judged hw).pending

theorem EventOf.now {u w : State} {judged : Bool} (h : EventOf u judged w) : (u.settle judged w).now = u.now := by
  obtain ⟨p, f, hw⟩ := h.framed
  exact (State.settle_frame u judged hw).now

/-- The frame that holds along the working views of an order: the queue of commands and the clock. -/
theorem State.writeSetting_now_pending (s : State) (k : Setting) (v : Nat) :
    (s.writeSetting k v).now = s.now ∧ (s.writeSetting k v).pending = s.pending := by
  unfold State.writeSetting State.reportLapse
  cases k.silenceOf with
  | some l => dsimp only; split <;> exact ⟨rfl, rfl⟩
  | none => cases k.inputOf <;> exact ⟨rfl, rfl⟩

theorem State.stopEffect_frame (s : State) : Frame s s.stopEffect := by
  unfold State.stopEffect
  split
  · exact State.enter_frame _ ((Frame.refl s).upd rfl rfl rfl rfl rfl rfl rfl)
  · exact State.beginStop_frame _ (Frame.refl s)
  · exact State.beginStop_frame _ (Frame.refl s)
  · exact State.withStopKind_frame _ (Frame.refl s)

/-- Every action but a write is framed. -/
theorem ActionEffect.framed_or_write {l : Link} {w : State} (h : ActionEffect l s w) :
    Frame s w ∨ (∃ (k : Setting) (v : Nat), w = s.writeSetting k v) ∨ (∃ v : Store, w =
      ({ s with store := v } : State).clearScheduleFault) := by
  cases h with
  | claim _ _ => exact .inl (State.claimEffect_frame _ _ (Frame.refl s))
  | release _ => exact .inl (State.releaseSource_frame _ (Frame.refl s))
  | notch _ _ => exact .inl ((Frame.refl s).upd rfl rfl rfl rfl rfl rfl rfl)
  | start _ => exact .inl (State.openStart_frame _ _ (Frame.refl s))
  | stop _ => exact .inl s.stopEffect_frame
  | cancelStart _ => exact .inl (State.endStart_frame _ (Frame.refl s))
  | cancelCooldown _ => exact .inl (State.enterRunning_frame ((Frame.refl s).upd rfl rfl rfl rfl rfl rfl rfl))
  | isolate on => exact .inl (State.judgeIsolation_frame ((Frame.refl s).upd rfl rfl rfl rfl rfl rfl rfl))
  | layup _ _ => exact .inl ((Frame.refl s).upd rfl rfl rfl rfl rfl rfl rfl)
  | tripReset _ _ =>
    exact .inl (State.enter_frame _ (State.releaseSource_frame _ ((Frame.refl s).upd rfl rfl rfl rfl rfl rfl rfl)))
  | read => exact .inl (Frame.refl s)
  | setting _ _ _ => exact .inr (.inl ⟨_, _, rfl⟩)
  | word v _ _ => exact .inr (.inr ⟨_, rfl⟩)
  | segment g _ _ => exact .inr (.inr ⟨_, rfl⟩)

theorem ActionEffect.now_pending {l : Link} {w : State} (h : ActionEffect l s w) :
    w.now = s.now ∧ w.pending = s.pending := by
  rcases h.framed_or_write with hf | ⟨k, v, rfl⟩ | ⟨v, rfl⟩
  · exact ⟨hf.now, hf.pending⟩
  · exact s.writeSetting_now_pending k v
  · exact ⟨rfl, rfl⟩

theorem State.runActions_now_pending {l : Link} {as : List Sys2Proof.Action} {w : State}
    (h : State.runActions l 1 0 [] as s = .ok w) : w.now = s.now ∧ w.pending = s.pending := by
  refine State.runActions_keeps (P := fun v => v.now = s.now ∧ v.pending = s.pending) ?_ h ⟨rfl, rfl⟩
  intro v w hw hv
  obtain ⟨hn, hp⟩ := hw.now_pending
  exact ⟨hn.trans hv.1, hp.trans hv.2⟩

theorem State.updated_monitor (s : State) : sameMonitor s s.updated := s.updateDue.update_stepperFrame.monitor

/-- What O2 says of an outcome: the queue, the clock and the place of the onsets. -/
theorem StepOutcome.completes (h : StepOutcome s t) :
    t.pending = s.pending ∧ s.now ≤ t.now ∧
      t.monitor.conditions = inChannelOrder s.monitor.conditions t.monitor.conditions := by
  have same {m : Monitor} (hm : m.conditions = s.monitor.conditions) :
      m.conditions = inChannelOrder s.monitor.conditions m.conditions := by
    rw [hm]
    exact conditions_of_subset fun _ hc => hc
  cases h with
  | calm h => exact ⟨h.pending, h.now, same (by rw [h.monitor])⟩
  | @event u w judged hu _ he =>
    have hc := Calm.of_later hu
    refine ⟨he.pending.trans hc.pending, hc.now.trans_eq he.now.symm, ?_⟩
    rw [← hc.monitor]
    exact State.settle_conditions u judged w
  | @order l as w body _ hrun =>
    obtain ⟨hn, hp⟩ := State.runActions_now_pending hrun
    have hf := s.commit_frame as w
    exact ⟨hf.pending.trans hp, (hf.now.trans hn).ge, State.settle_conditions s _ _⟩
  | update _ _ =>
    have hf := s.updated_frame
    exact ⟨hf.pending, (le_max_left _ _).trans_eq hf.now.symm, same (by rw [s.updated_monitor])⟩
  | powerOn after raw levels => exact ⟨rfl, Nat.le_add_right _ _, conditions_of_subset fun c hc => by cases hc⟩
  | loss after levels => exact ⟨rfl, Nat.le_add_right _ _, conditions_of_subset fun c hc => by cases hc⟩
  | assertion after _ =>
    exact ⟨rfl, Nat.le_add_right _ _, conditions_of_subset fun c hc => (List.mem_filter.mp hc).1⟩
  | exit after since raw _ => exact ⟨rfl, Nat.le_add_right _ _, same rfl⟩

end

/-- Settles O2: no arm of the dispatch faults, and each outcome keeps the queue and orders its onsets. -/
theorem everyCommandCompletes : Obligations.EveryCommandCompletes := by
  intro i s
  obtain ⟨t, ht, ho⟩ := exec_completes i s
  exact ⟨t, ht, ho.completes⟩

/-! ## The ports stay sound -/

section

variable {s t : State}

theorem State.writeSetting_portsSound (k : Setting) (v : Nat) (h : PortsSound s) : PortsSound (s.writeSetting k v) := by
  unfold State.writeSetting State.reportLapse
  cases k.silenceOf with
  | some l =>
    dsimp only
    split
    · exact h.set rfl ((h l).of_same rfl rfl rfl rfl)
    · exact h.of_ports rfl
  | none => cases k.inputOf <;> exact h.of_ports rfl

theorem ActionEffect.portsSound {l : Link} {w : State} (h : ActionEffect l s w) (hs : PortsSound s) : PortsSound w := by
  rcases h.framed_or_write with hf | ⟨k, v, rfl⟩ | ⟨v, rfl⟩
  · exact hs.of_ports hf.ports
  · exact State.writeSetting_portsSound k v hs
  · exact hs.of_ports rfl

theorem State.lapseEffect_portsSound (l : Link) (h : PortsSound s) : PortsSound (s.lapseEffect l) := by
  unfold State.lapseEffect
  split
  · refine h.set (l := l) (p := { s.ports.get l with lapseMark := true }) ?_ ((h l).of_same rfl rfl rfl rfl)
    rw [State.withPort_ports, (State.releaseSource_frame (sourceOf l) (Frame.refl s)).ports]
  · exact h

/-- No event but a lapse moves a port, and that only its marks. -/
theorem EventOf.portsSound {u w : State} {judged : Bool} (h : EventOf u judged w) (hu : PortsSound u) :
    PortsSound (u.settle judged w) := by
  suffices hw : PortsSound w from hw.of_ports (State.settle_frame u judged (Frame.refl w)).ports
  have hports : w.ports = u.ports → PortsSound w := hu.of_ports
  have hdrop : Frame u u.dropPhaseTimer := (Frame.refl u).upd rfl rfl rfl rfl rfl rfl rfl
  cases h with
  | scan raw => exact hports (State.lubeComparison_frame (State.monitorScan_frame (Frame.refl (u.takeScan raw)))).ports
  | measurement =>
    exact hports (State.takeMeasurement_frame _ (State.monitorQuality_frame u.frontEnd.quality (Frame.refl u.measure))).ports
  | filterChange i => exact hports (u.filterChange_frame i).ports
  | lapse l => exact State.lapseEffect_portsSound l (hu.set rfl ((hu l).of_same rfl rfl rfl rfl))
  | faultOnset _ =>
    have hm := (Frame.refl u).upd (t := { u with monitor := { u.monitor with faultReported := false } })
      rfl rfl rfl rfl rfl rfl rfl
    exact hports (State.latchFault_frame hm).ports
  | prelubeEnd _ => exact hports (State.prelubeCheck_frame hdrop).ports
  | crankEnd _ => exact hports (State.failAttempt_frame _ hdrop).ports
  | catchEnd _ => exact hports (State.failAttempt_frame _ hdrop).ports
  | restEnd _ => exact hports (State.restTest_frame hdrop).ports
  | lubeWindowEnd _ => exact hports (State.endStart_frame _ hdrop).ports
  | warmEnd _ => exact hports (State.warmCheck_frame hdrop).ports
  | lockoutEnd => exact hports rfl
  | cooldownEnd _ => exact hports (State.enterRundown_frame (Frame.refl u)).ports
  | rundownEnd _ => exact hports (State.endRundown_frame (Frame.refl u)).ports
  | idleLimit => exact hports (State.layupRequest_frame (Frame.refl u)).ports
  | entryJudgement => exact hports rfl

theorem StepOutcome.portsSound (h : StepOutcome s t) (hs : PortsSound s) : PortsSound t := by
  cases h with
  | calm h => exact h.ports hs
  | event hu _ he => exact he.portsSound ((Calm.of_later hu).ports hs)
  | @order l as w body _ hrun =>
    have hw := State.runActions_keeps (fun _ _ => ActionEffect.portsSound) hrun hs
    exact (State.answer_calm _ l body).ports (hw.of_ports (s.commit_frame as w).ports)
  | update _ _ => exact hs.of_ports s.updated_frame.ports
  | powerOn after raw levels => intro l; cases l <;> exact .fresh _ _
  | loss after levels => intro l; cases l <;> exact .fresh _ _
  | assertion after _ => intro l; cases l <;> exact .of_empty rfl rfl rfl
  | exit after since raw _ => intro l; cases l <;> exact .fresh _ _

end

/-- Settles O54: every write to a port keeps its queue, its FULL answers and its buffer as they are to be. -/
theorem portsStaySound : Obligations.PortsStaySound := by
  intro s t hs hstep
  obtain ⟨rest, ho⟩ := step_outcome hstep
  exact ho.portsSound (hs.of_ports rfl)

end Sys2Proof.Machine
end

section
/-! Which block each operation of the Arbiter and of the Monitor moves, and that alone; and the fields of an entered
state that the entry leaves. -/

namespace Sys2Proof.Machine

/-! ## Operations of the Arbiter -/

/-- The same state but for its Arbiter. -/
def ArbiterOnly (s t : State) : Prop := t = { s with arbiter := t.arbiter }

theorem ArbiterOnly.trans {s t u : State} (h : ArbiterOnly s t) (k : ArbiterOnly t u) : ArbiterOnly s u :=
  Eq.trans k (congrArg (fun v : State => { v with arbiter := u.arbiter }) h)

section

variable {s t : State}

theorem ArbiterOnly.engine (h : ArbiterOnly s t) : t.engine = s.engine := by rw [h]
theorem ArbiterOnly.outputs (h : ArbiterOnly s t) : t.outputs = s.outputs := by rw [h]
theorem ArbiterOnly.sequencer (h : ArbiterOnly s t) : t.sequencer = s.sequencer := by rw [h]
theorem ArbiterOnly.monitor (h : ArbiterOnly s t) : t.monitor = s.monitor := by rw [h]
theorem ArbiterOnly.stepper (h : ArbiterOnly s t) : t.stepper = s.stepper := by rw [h]
theorem ArbiterOnly.store (h : ArbiterOnly s t) : t.store = s.store := by rw [h]
theorem ArbiterOnly.resetSince (h : ArbiterOnly s t) : t.resetSince = s.resetSince := by rw [h]
theorem ArbiterOnly.ports (h : ArbiterOnly s t) : t.ports = s.ports := by rw [h]

theorem State.setTopAside_only (s : State) : ArbiterOnly s s.setTopAside := by
  unfold State.setTopAside
  split <;> rfl

theorem State.pushSource_only (s : State) (x : Source) : ArbiterOnly s (s.pushSource x) :=
  s.setTopAside_only.trans rfl

theorem State.promote_only (s : State) (p : Source) : ArbiterOnly s (s.promote p) :=
  ArbiterOnly.trans (t := s.withWaiting (s.arbiter.waiting.filter (· != p))) rfl (State.pushSource_only _ p)

theorem State.resumeHolder_only (s : State) : ArbiterOnly s s.resumeHolder := by
  unfold State.resumeHolder
  split
  · exact s.promote_only _
  · split
    · exact s.promote_only _
    · rfl
  · rfl
  · rfl

theorem State.releaseSource_only (s : State) (x : Source) : ArbiterOnly s (s.releaseSource x) := by
  unfold State.releaseSource
  split
  · rfl
  · rfl
  · rfl
  · exact ArbiterOnly.trans (t := s.removeSource x) rfl (State.resumeHolder_only _)

theorem State.protectionClaim_only (s : State) : ArbiterOnly s s.protectionClaim := by
  unfold State.protectionClaim
  split
  · rfl
  · exact ArbiterOnly.trans (s := s) (t := s.withEntry .protection _) rfl (State.pushSource_only _ _)

theorem State.claimEffect_only (s : State) (x : Source) (n : Nat) : ArbiterOnly s (s.claimEffect x n) := by
  have hpush : ArbiterOnly s ((s.withEntry x { s.entry x with request := n }).pushSource x) :=
    ArbiterOnly.trans (t := s.withEntry x { s.entry x with request := n }) rfl (State.pushSource_only _ x)
  unfold State.claimEffect
  split
  · exact hpush
  · split
    · exact hpush
    · rfl

end

/-! ## Operations of the Monitor -/

/-- The same state but for its Monitor. -/
def MonitorOnly (s t : State) : Prop := t = { s with monitor := t.monitor }

theorem MonitorOnly.trans {s t u : State} (h : MonitorOnly s t) (k : MonitorOnly t u) : MonitorOnly s u :=
  Eq.trans k (congrArg (fun v : State => { v with monitor := u.monitor }) h)

section

variable {s t : State}

theorem MonitorOnly.engine (h : MonitorOnly s t) : t.engine = s.engine := by rw [h]
theorem MonitorOnly.outputs (h : MonitorOnly s t) : t.outputs = s.outputs := by rw [h]
theorem MonitorOnly.sequencer (h : MonitorOnly s t) : t.sequencer = s.sequencer := by rw [h]
theorem MonitorOnly.arbiter (h : MonitorOnly s t) : t.arbiter = s.arbiter := by rw [h]
theorem MonitorOnly.stepper (h : MonitorOnly s t) : t.stepper = s.stepper := by rw [h]
theorem MonitorOnly.store (h : MonitorOnly s t) : t.store = s.store := by rw [h]
theorem MonitorOnly.idle (h : MonitorOnly s t) : t.idle = s.idle := by rw [h]
theorem MonitorOnly.frontEnd (h : MonitorOnly s t) : t.frontEnd = s.frontEnd := by rw [h]
theorem MonitorOnly.resetSince (h : MonitorOnly s t) : t.resetSince = s.resetSince := by rw [h]
theorem MonitorOnly.ports (h : MonitorOnly s t) : t.ports = s.ports := by rw [h]
theorem MonitorOnly.now (h : MonitorOnly s t) : t.now = s.now := by rw [h]

theorem State.onset_only (s : State) (c : Channel) : MonitorOnly s (s.onset c) := by
  unfold State.onset
  split <;> rfl

theorem State.arm_only (s : State) (c : Channel) : MonitorOnly s (s.arm c) := by
  unfold State.arm
  dsimp only
  split
  · exact MonitorOnly.trans (t := s.withChannel c ⟨true, 0, 0⟩) rfl (State.onset_only _ c)
  · rfl

theorem State.rearmChannel_only (st : EngineState) (s : State) (c : Channel) :
    MonitorOnly s (State.rearmChannel st s c) := by
  unfold State.rearmChannel
  split
  · exact s.arm_only c
  · split <;> rfl

theorem State.evaluate_only (s : State) (c : Channel) : MonitorOnly s (s.evaluate c) := by
  unfold State.evaluate
  dsimp only
  split_ifs <;> first | rfl | exact s.onset_only c

theorem State.latchFault_only (s : State) : MonitorOnly s s.latchFault := by
  unfold State.latchFault
  split
  · rfl
  · exact MonitorOnly.trans (t := { s with monitor := { s.monitor with latch := true } }) rfl (State.onset_only _ _)

theorem State.monitorQuality_only (s : State) (was : SpeedQuality) : MonitorOnly s (s.monitorQuality was) := by
  unfold State.monitorQuality
  split_ifs
  · rfl
  · exact s.onset_only _
  · rfl
  · rfl

theorem MonitorOnly.foldl {α : Type} {f : State → α → State} (hf : ∀ (t : State) (a : α), MonitorOnly t (f t a))
    (xs : List α) (s : State) : MonitorOnly s (xs.foldl f s) := by
  induction xs generalizing s with
  | nil => rfl
  | cons x xs ih => exact (hf s x).trans (ih (f s x))

end

/-- The onsets of a scan move the Monitor and the fault marks. -/
def State.scanOnsets (ks : List Lookup) (s : State) : State :=
  if s.anyFaults ks then ((Channel.thresholds.foldl State.evaluate s).marked ks).latchFault
  else (Channel.thresholds.foldl State.evaluate s).marked ks

theorem State.monitorScan_eq (s : State) : s.monitorScan = s.withTrip (State.scanOnsets s.scanLookups) := rfl

/-- The same state but for its Monitor and the marks of its stores. -/
def MonitorAndMarks (s t : State) : Prop := t = { s with monitor := t.monitor, store := t.store }

theorem State.scanOnsets_only (s : State) (ks : List Lookup) : MonitorAndMarks s (State.scanOnsets ks s) := by
  have hmarked : MonitorAndMarks s ((Channel.thresholds.foldl State.evaluate s).marked ks) := by
    unfold MonitorAndMarks
    rw [MonitorOnly.foldl State.evaluate_only Channel.thresholds s]
    rfl
  unfold State.scanOnsets
  split
  · have hlatch := State.latchFault_only ((Channel.thresholds.foldl State.evaluate s).marked ks)
    unfold MonitorAndMarks at hmarked ⊢
    rw [hlatch, hmarked]
  · exact hmarked

/-! ## What an entry leaves -/

section

variable (s : State) (st : EngineState)

@[simp] theorem State.enter_now : (s.enter st).now = s.now := (State.enter_frame st (Frame.refl s)).now
@[simp] theorem State.enter_supply : (s.enter st).supply = s.supply := (State.enter_frame st (Frame.refl s)).supply
@[simp] theorem State.enter_resetSince : (s.enter st).resetSince = s.resetSince :=
  (State.enter_frame st (Frame.refl s)).resetSince
@[simp] theorem State.enter_ports : (s.enter st).ports = s.ports := (State.enter_frame st (Frame.refl s)).ports
@[simp] theorem State.enter_frontEnd : (s.enter st).frontEnd = s.frontEnd :=
  (State.enter_frame st (Frame.refl s)).frontEnd
@[simp] theorem State.enter_pending : (s.enter st).pending = s.pending := (State.enter_frame st (Frame.refl s)).pending

end

end Sys2Proof.Machine
end

section
/-! What the Engine State Controller and the Start Sequencer leave when they move: the clock, the ports, the Arbiter, the
Front End, the contents of the stores, and the Monitor but for a reported lookup fault. -/

namespace Sys2Proof.Machine

/-- The Stepper through a move of the engine: as it was, or unloaded where the engine leaves RUNNING. -/
structure Unloads (s t : State) : Prop where
  speedRef : t.stepper.speedRef = s.stepper.speedRef
  stepper : t.stepper = s.stepper ∨ t.stepper.target = 0 ∧ t.stepper.granted = 0 ∧ t.stepper.loadTarget = 0 ∧
    t.stepper.loadRef = 0
  outside : (s.engine.state ≠ some .running → s.stepper.granted = 0) →
    t.engine.state ≠ some .running → t.stepper.granted = 0

/-- The same state but for the engine and its start, the Stepper, the judgement that is due, the contactors, and the marks and the
report of lookups. -/
structure Driven (s t : State) : Prop where
  frame : Frame s t
  arbiter : t.arbiter = s.arbiter
  monitor : sameMonitor s t
  awaiting : t.engine.awaitingChoice = s.engine.awaitingChoice
  chosen : s.engine.state ≠ none → t.engine.state ≠ none
  unloads : Unloads s t
  idleSince : t.idle.idleSince = s.idle.idleSince
  outputs : t.outputs = { s.outputs with
    starter := t.outputs.starter, prelube := t.outputs.prelube, fuelRun := t.outputs.fuelRun }

section

variable {u s t : State}

theorem Unloads.refl (s : State) : Unloads s s := ⟨rfl, .inl rfl, id⟩

theorem Unloads.trans (h : Unloads s t) (k : Unloads t u) : Unloads s u := by
  refine ⟨k.speedRef.trans h.speedRef, ?_, fun hs => k.outside (h.outside hs)⟩
  rcases k.stepper with ke | kz
  · rw [ke]
    exact h.stepper
  · exact .inr kz

theorem Driven.refl (s : State) : Driven s s := ⟨Frame.refl s, rfl, rfl, rfl, id, .refl s, rfl, rfl⟩

theorem Driven.trans (h : Driven s t) (k : Driven t u) : Driven s u where
  frame := h.frame.trans k.frame
  arbiter := k.arbiter.trans h.arbiter
  monitor := by
    have hm := k.monitor
    rw [sameMonitor, h.monitor] at hm
    exact hm
  awaiting := k.awaiting.trans h.awaiting
  chosen hs := k.chosen (h.chosen hs)
  unloads := h.unloads.trans k.unloads
  idleSince := k.idleSince.trans h.idleSince
  outputs := by
    have ho := k.outputs
    rw [h.outputs] at ho
    exact ho

theorem Driven.trips (h : Driven s t) : t.monitor.trips = s.monitor.trips := by rw [h.monitor]

theorem Driven.conditions (h : Driven s t) : t.monitor.conditions = s.monitor.conditions := by rw [h.monitor]

theorem Driven.channel (h : Driven s t) (c : Channel) : t.channel c = s.channel c := by
  unfold State.channel; rw [h.monitor]

theorem Driven.latch (h : Driven s t) : t.monitor.latch = s.monitor.latch := by rw [h.monitor]

theorem Driven.entry (h : Driven s t) (x : Source) : t.entry x = s.entry x := by unfold State.entry; rw [h.arbiter]

/-- A further move of the engine in its state, its start, the judgement that is due and the contactors. -/
theorem Driven.upd (h : Driven u s) (e : Engine) (q : Sequencer) (i : IdleReduction) (o : Outputs)
    (he : e.awaitingChoice = s.engine.awaitingChoice) (hs : e.state = s.engine.state)
    (hi : i.idleSince = s.idle.idleSince)
    (ho : o = { s.outputs with starter := o.starter, prelube := o.prelube, fuelRun := o.fuelRun }) :
    Driven u { s with engine := e, sequencer := q, idle := i, outputs := o } :=
  h.trans ⟨(Frame.refl s).upd rfl rfl rfl rfl rfl rfl rfl, rfl, rfl, he, fun k => hs ▸ k,
    ⟨rfl, .inl rfl, fun k => hs ▸ k⟩, hi, ho⟩

theorem Driven.withSequencer (h : Driven u s) (q : Sequencer) : Driven u { s with sequencer := q } :=
  h.upd s.engine q s.idle s.outputs rfl rfl rfl rfl

theorem Driven.withEngine (h : Driven u s) (e : Engine) (he : e.awaitingChoice = s.engine.awaitingChoice)
    (hs : e.state = s.engine.state) : Driven u { s with engine := e } :=
  h.upd e s.sequencer s.idle s.outputs he hs rfl rfl

theorem Driven.lookedUp (h : Driven u s) (ks : List Lookup) : Driven u (s.lookedUp ks) :=
  h.trans ⟨State.lookedUp_frame ks (Frame.refl s), rfl, rfl, rfl, id, ⟨rfl, .inl rfl, id⟩, rfl, rfl⟩

theorem State.enter_unloads (s : State) (st : EngineState) : Unloads s (s.enter st) := by
  have hst := s.enter_stepper st
  split at hst
  · refine ⟨by rw [hst]; rfl, .inr ?_, fun _ _ => ?_⟩
    · rw [hst]
      exact ⟨rfl, rfl, rfl, rfl⟩
    · rw [hst]
      rfl
  · rename_i hn
    refine ⟨by rw [hst], .inl hst, fun hs hne => ?_⟩
    rw [State.enter_engine] at hne
    rw [hst]
    exact hs fun k => hn ⟨k, fun k' => hne (by rw [k'])⟩

theorem Driven.enter (h : Driven u s) (st : EngineState) : Driven u (s.enter st) :=
  h.trans ⟨State.enter_frame st (Frame.refl s), by simp, by simp [sameMonitor], by simp, by simp, s.enter_unloads st,
    by simp, by simp⟩

theorem Driven.withStopKind (h : Driven u s) (k : Option StopKind) : Driven u (s.withStopKind k) := h.withEngine _ rfl rfl

theorem Driven.withLayupMark (h : Driven u s) (b : Bool) : Driven u (s.withLayupMark b) := h.withEngine _ rfl rfl

theorem Driven.dropTimers (h : Driven u s) : Driven u s.dropTimers := h.withEngine _ rfl rfl

theorem Driven.withRecord (h : Driven u s) (f : StartRecord → StartRecord) : Driven u (s.withRecord f) :=
  h.withSequencer _

theorem Driven.enterRunning (h : Driven u s) : Driven u s.enterRunning := h.enter _

theorem Driven.judgeIsolation (h : Driven u s) : Driven u s.judgeIsolation := by
  unfold State.judgeIsolation
  split_ifs
  · exact h.enter _
  · exact h.enter _
  · exact h

theorem Driven.enterRundown (h : Driven u s) : Driven u s.enterRundown := (h.enter _).withEngine _ rfl rfl

theorem Driven.enterCooldown (h : Driven u s) : Driven u s.enterCooldown := (h.enter _).withEngine _ rfl rfl

theorem Driven.beginStop (h : Driven u s) (k : StopKind) : Driven u (s.beginStop k) := by
  unfold State.beginStop
  split
  · exact (h.withStopKind _).enterCooldown
  · exact (h.withStopKind _).enterRundown

theorem Driven.layupRequest (h : Driven u s) : Driven u s.layupRequest := by
  unfold State.layupRequest
  split
  · exact h.beginStop _
  · exact h

theorem Driven.endRundown (h : Driven u s) : Driven u s.endRundown := by
  unfold State.endRundown
  split
  · exact ((((h.dropTimers).withStopKind none).withLayupMark true).enter .laidUp).upd _ _ _ _ rfl rfl rfl rfl
  · exact ((h.dropTimers).withStopKind none).withLayupMark false |>.enter .stopped

theorem Driven.failedStart (h : Driven u s) : Driven u s.failedStart := by
  unfold State.failedStart
  split
  · exact (h.withStopKind _).enterRundown
  · exact h.enter _

theorem Driven.stopEffect (h : Driven u s) : Driven u s.stopEffect := by
  unfold State.stopEffect
  split
  · exact (h.withLayupMark _).enter _
  · exact h.beginStop _
  · exact h.beginStop _
  · exact h.withStopKind _

theorem Driven.cancelCooldown (h : Driven u s) : Driven u s.cancelCooldown := (h.dropTimers.withStopKind _).enterRunning

theorem Driven.isolateEffect (h : Driven u s) (on : Bool) : Driven u (s.isolateEffect on) :=
  (h.withEngine { s.engine with isolateFlag := on } rfl rfl).judgeIsolation

theorem Driven.enterPhase (h : Driven u s) (p : Phase) : Driven u (s.enterPhase p) := by
  have h1 := h.enter (.starting p)
  exact Driven.withRecord (s := (s.enter (.starting p)).withStartOutputs p.outputs.1 p.outputs.2)
    (h1.upd _ _ _ _ rfl rfl rfl rfl) _

theorem Driven.closeStart (h : Driven u s) (o : StartOutcome) : Driven u (s.closeStart o) := by
  have h1 : Driven u { s.withStartOutputs false false with sequencer := s.sequencer.idle } := h.upd _ _ _ _ rfl rfl rfl rfl
  unfold State.closeStart
  dsimp only
  split
  · exact (h1.withRecord _).withSequencer _
  · exact h1.withRecord _

theorem Driven.endStart (h : Driven u s) (o : StartOutcome) : Driven u (s.endStart o) := by
  have h1 := h.closeStart o
  cases o with
  | runningReached => exact h1.enterRunning
  | tripped | reset | inProgress => exact h1
  | noPrelubePressure | startFailed | speedErratic | noOilPressure | cancelled => exact h1.failedStart

theorem Driven.enterCrank (h : Driven u s) : Driven u s.enterCrank := ((h.withSequencer _).withRecord _).enterPhase _

theorem Driven.enterCatch (h : Driven u s) : Driven u s.enterCatch := (h.withSequencer _).enterPhase _

theorem Driven.enterRest (h : Driven u s) : Driven u s.enterRest := (h.withSequencer _).enterPhase _

theorem Driven.enterWarm (h : Driven u s) : Driven u s.enterWarm := ((h.lookedUp _).withSequencer _).enterPhase _

theorem Driven.prelubeCheck (h : Driven u s) : Driven u s.prelubeCheck := by
  unfold State.prelubeCheck
  split
  · exact (h.withSequencer _).enterCrank
  · exact h.endStart _

theorem Driven.timePrelube (h : Driven u s) : Driven u s.timePrelube := by
  have h1 := h.lookedUp [prelubeLookup (coolantBand (s.reading .coolant))]
  unfold State.timePrelube
  dsimp only
  split_ifs
  · exact (h1.withSequencer _).prelubeCheck
  · exact h1.withSequencer _
  · exact h1

theorem Driven.openStart (h : Driven u s) (who : Initiator) (mode : StartMode) : Driven u (s.openStart who mode) := by
  have h1 (first : Phase) : Driven u { s.withLayupMark false with
      sequencer := { s.sequencer with record := some (StartRecord.begun who mode first) } } :=
    (h.withLayupMark false).withSequencer _
  cases mode with
  | full => exact (h1 .prelube).enterPhase .prelube
  | skipPrelube => exact (h1 .crank).enterCrank

theorem Driven.beginFull (h : Driven u s) (who : Initiator) : Driven u (s.beginFull who) :=
  (h.openStart who .full).timePrelube

theorem Driven.completed (h : Driven u s) (as : List Sys2Proof.Action) : Driven u (s.completed as) := by
  unfold State.completed
  split
  · exact h.timePrelube
  · exact h

theorem Driven.judgeWake (h : Driven u s) : Driven u s.judgeWake := by
  unfold State.judgeWake State.takeWake
  split
  · split
    · exact h.beginFull _
    · exact h
  · exact h

theorem Driven.warmCheck (h : Driven u s) : Driven u s.warmCheck := by
  unfold State.warmCheck
  split
  · exact h.endStart _
  · exact h.endStart _

theorem Driven.appendAttempt (h : Driven u s) (why : AttemptReason) : Driven u (s.appendAttempt why) := by
  unfold State.appendAttempt
  split
  · exact h.withRecord _
  · exact h

theorem Driven.failAttempt (h : Driven u s) (why : AttemptReason) : Driven u (s.failAttempt why) := by
  have h1 := h.appendAttempt why
  unfold State.failAttempt
  dsimp only
  split
  · exact h1.enterRest
  · exact h1.endStart _

theorem Driven.raisePeak (h : Driven u s) : Driven u s.raisePeak := h.withSequencer _

theorem Driven.withRun (h : Driven u s) (n : Nat) : Driven u (s.withRun n) := h.withSequencer _

theorem Driven.crankMeasurement (h : Driven u s) (was : SpeedQuality) : Driven u (s.crankMeasurement was) := by
  unfold State.crankMeasurement
  dsimp only
  split_ifs
  · exact h.raisePeak.endStart _
  · exact h.raisePeak.failAttempt _
  · exact h.raisePeak.endStart _
  · exact h.raisePeak.enterCatch
  · exact h.raisePeak.withRun _
  · exact h.raisePeak.withRun _

theorem Driven.catchMeasurement (h : Driven u s) : Driven u s.catchMeasurement := by
  unfold State.catchMeasurement
  dsimp only
  split_ifs
  · exact h.raisePeak.enterWarm
  · exact h.raisePeak.failAttempt _
  · exact h.raisePeak.withRun _
  · exact h.raisePeak.withRun _

theorem Driven.restTest (h : Driven u s) : Driven u s.restTest := by
  unfold State.restTest
  split
  · exact h.enterCrank
  · exact h

theorem Driven.lubeComparison (h : Driven u s) : Driven u s.lubeComparison := by
  unfold State.lubeComparison
  split
  · dsimp only
    split
    · exact (h.withSequencer _).warmCheck
    · exact h.withSequencer _
  · exact h

/-- A measurement of an engine in a chosen state. -/
theorem Driven.takeMeasurement (h : Driven u s) (was : SpeedQuality) (hc : s.engine.awaitingChoice = false) :
    Driven u (s.takeMeasurement was) := by
  unfold State.takeMeasurement
  rw [hc]
  simp only [Bool.false_eq_true, if_false]
  split
  · exact h.crankMeasurement was
  · exact h.catchMeasurement
  · exact h.restTest
  · split
    · exact h.endRundown
    · exact h
  · exact h

end

end Sys2Proof.Machine
end

section
/-! The engine in its state: the contactors, the stop kind, the timers and the phase items that each entry leaves, and from
them that the engine stays sound. -/

namespace Sys2Proof.Machine

/-! ## An engine in a state -/

/-- STARTER and PRELUBE in a state (R56). -/
def EngineState.startOutputs : EngineState → Bool × Bool
  | .starting p => p.outputs
  | _ => (false, false)

/-- STOPPING in either substate, where a stop kind stands (R30). -/
def EngineState.isStopping : EngineState → Bool
  | .cooldown => true
  | .rundown => true
  | _ => false

/-- An engine in the state `st`, with what goes with it. -/
structure Placed (t : State) (st : EngineState) : Prop where
  state : t.engine.state = some st
  fuel : t.outputs.fuelRun = st.fuel
  starter : t.outputs.starter = st.startOutputs.1
  prelube : t.outputs.prelube = st.startOutputs.2
  stopKind : t.engine.stopKind.isSome = st.isStopping
  cooldown : t.engine.cooldownEnd.isSome = (st == .cooldown)
  rundown : t.engine.rundownEnd.isSome = (st == .rundown)
  phaseItems : st.isStarting = false → t.sequencer = t.sequencer.idle

/-- No start in progress: its contactors off and no phase item. -/
structure NoStart (t : State) : Prop where
  starter : t.outputs.starter = false
  prelube : t.outputs.prelube = false
  phaseItems : t.sequencer = t.sequencer.idle

/-- No stop in progress: no stop kind and no timer. -/
structure NoStop (t : State) : Prop where
  stopKind : t.engine.stopKind = none
  cooldown : t.engine.cooldownEnd = none
  rundown : t.engine.rundownEnd = none

section

variable {s t : State} {st : EngineState}

theorem Placed.noStart (h : Placed s st) (hst : st.isStarting = false) : NoStart s where
  starter := h.starter.trans (by cases st <;> first | rfl | cases hst)
  prelube := h.prelube.trans (by cases st <;> first | rfl | cases hst)
  phaseItems := h.phaseItems hst

theorem Placed.noStop (h : Placed s st) (hst : st.isStopping = false) : NoStop s where
  stopKind := Option.not_isSome_iff_eq_none.mp (by simp [h.stopKind, hst])
  cooldown := Option.not_isSome_iff_eq_none.mp (by rw [h.cooldown]; cases st <;> simp_all [EngineState.isStopping])
  rundown := Option.not_isSome_iff_eq_none.mp (by rw [h.rundown]; cases st <;> simp_all [EngineState.isStopping])

/-- What a placed engine is reads the engine, the outputs and the start alone. -/
theorem Placed.of_same (h : Placed s st) (he : t.engine = s.engine) (hf : t.outputs.fuelRun = s.outputs.fuelRun)
    (hs : t.outputs.starter = s.outputs.starter) (hp : t.outputs.prelube = s.outputs.prelube)
    (hq : t.sequencer = s.sequencer) : Placed t st := by
  obtain ⟨h1, h2, h3, h4, h5, h6, h7, h8⟩ := h
  exact ⟨by rw [he, h1], by rw [hf, h2], by rw [hs, h3], by rw [hp, h4], by rw [he, h5], by rw [he, h6], by rw [he, h7],
    by rwa [hq]⟩

/-- The phase items of a start in progress may move. -/
theorem Placed.withSequencer {p : Phase} (h : Placed s (.starting p)) (q : Sequencer) :
    Placed { s with sequencer := q } (.starting p) :=
  ⟨h.state, h.fuel, h.starter, h.prelube, h.stopKind, h.cooldown, h.rundown, fun hp => by cases hp⟩

theorem NoStart.placed_enter (h : NoStart s) (k : NoStop s) (hst : st.isStarting = false) (hsp : st.isStopping = false) :
    Placed (s.enter st) st where
  state := by simp
  fuel := by simp
  starter := by simpa using h.starter.trans (by cases st <;> first | rfl | cases hst)
  prelube := by simpa using h.prelube.trans (by cases st <;> first | rfl | cases hst)
  stopKind := by simp [k.stopKind, hsp]
  cooldown := by simp only [State.enter_engine, k.cooldown]; cases st <;> first | rfl | cases hsp
  rundown := by simp only [State.enter_engine, k.rundown]; cases st <;> first | rfl | cases hsp
  phaseItems _ := by simpa using h.phaseItems

theorem NoStop.placed_enterPhase (k : NoStop s) (p : Phase) : Placed (s.enterPhase p) (.starting p) where
  state := by simp [State.enterPhase]
  fuel := by simp [State.enterPhase]
  starter := rfl
  prelube := rfl
  stopKind := by simp [State.enterPhase, k.stopKind, EngineState.isStopping]
  cooldown := by simp [State.enterPhase, k.cooldown]
  rundown := by simp [State.enterPhase, k.rundown]
  phaseItems h := by cases h

theorem NoStart.placed_enterRundown (h : NoStart s) (hk : s.engine.stopKind.isSome = true) :
    Placed s.enterRundown .rundown where
  state := by simp [State.enterRundown]
  fuel := by simp [State.enterRundown]
  starter := by simpa [State.enterRundown, EngineState.startOutputs] using h.starter
  prelube := by simpa [State.enterRundown, EngineState.startOutputs] using h.prelube
  stopKind := by simpa [State.enterRundown, EngineState.isStopping] using hk
  cooldown := rfl
  rundown := rfl
  phaseItems _ := by simpa [State.enterRundown] using h.phaseItems

theorem NoStart.placed_enterCooldown (h : NoStart s) (hk : s.engine.stopKind.isSome = true)
    (hr : s.engine.rundownEnd = none) : Placed s.enterCooldown .cooldown where
  state := by simp [State.enterCooldown]
  fuel := by simp [State.enterCooldown]
  starter := by simpa [State.enterCooldown, EngineState.startOutputs] using h.starter
  prelube := by simpa [State.enterCooldown, EngineState.startOutputs] using h.prelube
  stopKind := by simpa [State.enterCooldown, EngineState.isStopping] using hk
  cooldown := rfl
  rundown := by simp [State.enterCooldown, hr]
  phaseItems _ := by simpa [State.enterCooldown] using h.phaseItems

/-- An engine placed in another state than TRIPPED. -/
def PlacedUntripped (t : State) : Prop := ∃ st : EngineState, Placed t st ∧ st ≠ .tripped

theorem NoStart.placed_enterRunning (h : NoStart s) (k : NoStop s) : PlacedUntripped s.enterRunning := by
  unfold State.enterRunning
  split
  · exact ⟨_, h.placed_enter k rfl rfl, by decide⟩
  · exact ⟨_, h.placed_enter k rfl rfl, by decide⟩

theorem NoStart.placed_beginStop (h : NoStart s) (k : NoStop s) (kind : StopKind) : PlacedUntripped (s.beginStop kind) := by
  have h1 : NoStart (s.withStopKind (some kind)) := ⟨h.starter, h.prelube, h.phaseItems⟩
  unfold State.beginStop
  split
  · exact ⟨_, h1.placed_enterCooldown rfl k.rundown, by decide⟩
  · exact ⟨_, h1.placed_enterRundown rfl, by decide⟩

theorem NoStart.placed_failedStart (h : NoStart s) (k : NoStop s) : PlacedUntripped s.failedStart := by
  unfold State.failedStart
  split
  · exact ⟨_, NoStart.placed_enterRundown (s := s.withStopKind (some .normal))
      ⟨h.starter, h.prelube, h.phaseItems⟩ rfl, by decide⟩
  · exact ⟨_, h.placed_enter k rfl rfl, by decide⟩

theorem State.closeStart_noStart (s : State) (o : StartOutcome) : NoStart (s.closeStart o) := by
  unfold State.closeStart
  dsimp only
  split <;> exact ⟨rfl, rfl, rfl⟩

theorem State.closeStart_engine (s : State) (o : StartOutcome) : (s.closeStart o).engine = s.engine := by
  unfold State.closeStart
  dsimp only
  split <;> rfl

theorem State.closeStart_fuelRun (s : State) (o : StartOutcome) :
    (s.closeStart o).outputs.fuelRun = s.outputs.fuelRun := by
  unfold State.closeStart
  dsimp only
  split <;> rfl

/-- No stop in progress, as the engine alone says. -/
theorem NoStop.of_engine (h : NoStop s) (he : t.engine = s.engine) : NoStop t := by
  obtain ⟨h1, h2, h3⟩ := h
  exact ⟨by rw [he, h1], by rw [he, h2], by rw [he, h3]⟩

/-- The outcomes with which a start ends by itself or by a CANCEL. -/
def StartOutcome.isEnd : StartOutcome → Bool
  | .runningReached => true
  | .noPrelubePressure => true
  | .startFailed => true
  | .speedErratic => true
  | .noOilPressure => true
  | .cancelled => true
  | .inProgress => false
  | .tripped => false
  | .reset => false

theorem NoStop.placed_endStart (k : NoStop s) {o : StartOutcome} (ho : o.isEnd = true) :
    PlacedUntripped (s.endStart o) := by
  have hq := s.closeStart_noStart o
  have hk := k.of_engine (s.closeStart_engine o)
  cases o with
  | runningReached => exact hq.placed_enterRunning hk
  | noPrelubePressure | startFailed | speedErratic | noOilPressure | cancelled => exact hq.placed_failedStart hk
  | inProgress | tripped | reset => cases ho

theorem NoStop.placed_enterCrank (k : NoStop s) : Placed s.enterCrank (.starting .crank) := by
  apply NoStop.placed_enterPhase
  exact k.of_engine rfl

theorem NoStop.placed_enterCatch (k : NoStop s) : Placed s.enterCatch (.starting .catching) := by
  apply NoStop.placed_enterPhase
  exact k.of_engine rfl

theorem NoStop.placed_enterRest (k : NoStop s) : Placed s.enterRest (.starting .rest) := by
  apply NoStop.placed_enterPhase
  exact k.of_engine rfl

theorem NoStop.placed_enterWarm (k : NoStop s) : Placed s.enterWarm (.starting .warm) := by
  apply NoStop.placed_enterPhase
  exact k.of_engine rfl

theorem NoStop.placed_prelubeCheck (k : NoStop s) : PlacedUntripped s.prelubeCheck := by
  unfold State.prelubeCheck
  split
  · exact ⟨_, NoStop.placed_enterCrank (k.of_engine rfl), by decide⟩
  · exact k.placed_endStart rfl

theorem NoStop.placed_warmCheck (k : NoStop s) : PlacedUntripped s.warmCheck := by
  unfold State.warmCheck
  split
  · exact k.placed_endStart rfl
  · exact k.placed_endStart rfl

theorem State.appendAttempt_engine (s : State) (why : AttemptReason) : (s.appendAttempt why).engine = s.engine := by
  unfold State.appendAttempt
  split <;> rfl

theorem NoStop.placed_failAttempt (k : NoStop s) (why : AttemptReason) : PlacedUntripped (s.failAttempt why) := by
  have hk := k.of_engine (s.appendAttempt_engine why)
  unfold State.failAttempt
  dsimp only
  split
  · exact ⟨_, hk.placed_enterRest, by decide⟩
  · exact hk.placed_endStart rfl

theorem NoStop.placed_openStart (k : NoStop s) (who : Initiator) (mode : StartMode) :
    PlacedUntripped (s.openStart who mode) := by
  have k1 (first : Phase) : NoStop { s.withLayupMark false with
      sequencer := { s.sequencer with record := some (StartRecord.begun who mode first) } } :=
    ⟨k.stopKind, k.cooldown, k.rundown⟩
  cases mode with
  | full => exact ⟨_, (k1 .prelube).placed_enterPhase .prelube, by decide⟩
  | skipPrelube => exact ⟨_, (k1 .crank).placed_enterCrank, by decide⟩

/-- A start's PRELUBE timed: the lookup alone, or the timer, or the check of a prelube of 0 s. -/
theorem PlacedUntripped.timePrelube (h : PlacedUntripped s) : PlacedUntripped s.timePrelube := by
  obtain ⟨st, hp, hne⟩ := h
  rcases s.timePrelube_cases with ⟨-, he⟩ | ⟨hst, -, he⟩ | ⟨hst, -, he⟩ <;> rw [he]
  · exact ⟨st, hp.of_same rfl rfl rfl rfl rfl, hne⟩
  · rw [hp.state] at hst
    cases hst
    exact ⟨_, (hp.of_same (t := s.lookedUp _) rfl rfl rfl rfl rfl).withSequencer _, hne⟩
  · rw [hp.state] at hst
    cases hst
    exact NoStop.placed_prelubeCheck ((hp.noStop rfl).of_engine rfl)

end

/-! ## The measurements and the scan -/

section

variable {s : State}

theorem Placed.crankMeasurement (h : Placed s (.starting .crank)) (was : SpeedQuality) :
    PlacedUntripped (s.crankMeasurement was) := by
  have h1 : Placed s.raisePeak (.starting .crank) := h.withSequencer _
  have k1 := h1.noStop rfl
  unfold State.crankMeasurement
  dsimp only
  split_ifs
  · exact k1.placed_endStart rfl
  · exact k1.placed_failAttempt _
  · exact k1.placed_endStart rfl
  · exact ⟨_, k1.placed_enterCatch, by decide⟩
  · exact ⟨_, h1.withSequencer _, by decide⟩
  · exact ⟨_, h1.withSequencer _, by decide⟩

theorem Placed.catchMeasurement (h : Placed s (.starting .catching)) : PlacedUntripped s.catchMeasurement := by
  have h1 : Placed s.raisePeak (.starting .catching) := h.withSequencer _
  have k1 := h1.noStop rfl
  unfold State.catchMeasurement
  dsimp only
  split_ifs
  · exact ⟨_, k1.placed_enterWarm, by decide⟩
  · exact k1.placed_failAttempt _
  · exact ⟨_, h1.withSequencer _, by decide⟩
  · exact ⟨_, h1.withSequencer _, by decide⟩

theorem Placed.restTest (h : Placed s (.starting .rest)) : PlacedUntripped s.restTest := by
  unfold State.restTest
  split
  · exact ⟨_, (h.noStop rfl).placed_enterCrank, by decide⟩
  · exact ⟨_, h, by decide⟩

theorem Placed.endRundown (h : Placed s .rundown) : PlacedUntripped s.endRundown := by
  have hq : NoStart s := h.noStart rfl
  have hq1 (b : Bool) : NoStart ((s.dropTimers.withStopKind none).withLayupMark b) := ⟨hq.starter, hq.prelube, hq.phaseItems⟩
  have hk1 (b : Bool) : NoStop ((s.dropTimers.withStopKind none).withLayupMark b) := ⟨rfl, rfl, rfl⟩
  unfold State.endRundown
  split
  · refine ⟨.laidUp, ((hq1 true).placed_enter (st := .laidUp) (hk1 true) rfl rfl).of_same ?_ ?_ ?_ ?_ ?_, by decide⟩ <;> rfl
  · exact ⟨.stopped, (hq1 false).placed_enter (hk1 false) rfl rfl, by decide⟩

theorem Placed.lubeComparison {st : EngineState} (h : Placed s st) (hne : st ≠ .tripped) :
    PlacedUntripped s.lubeComparison := by
  unfold State.lubeComparison
  split
  · rename_i hw
    have hst := hw.1
    rw [h.state] at hst
    cases hst
    have h1 := h.withSequencer { s.sequencer with
      lubeSeen := some true, timer := some (s.now + s.sequencer.warmTime.getD 0 * 1000) }
    dsimp only
    split
    · exact (h1.noStop rfl).placed_warmCheck
    · exact ⟨_, h1, hne⟩
  · exact ⟨st, h, hne⟩

end

/-! ## Soundness -/

section

variable {s t u : State} {st : EngineState}

theorem EngineSound.placed (h : EngineSound s) (hc : s.engine.awaitingChoice = false) (hst : s.engine.state = some st) :
    Placed s st where
  state := hst
  fuel := h.fuel st hc hst
  starter := by
    rw [Bool.eq_iff_iff, h.starter, hst]
    cases st with
    | starting p => cases p <;> simp [EngineState.startOutputs, Phase.outputs]
    | _ => simp [EngineState.startOutputs]
  prelube := by
    rw [Bool.eq_iff_iff, h.prelube, hst]
    cases st with
    | starting p => cases p <;> simp [EngineState.startOutputs, Phase.outputs]
    | _ => simp [EngineState.startOutputs]
  stopKind := by
    rw [Bool.eq_iff_iff, h.stopKind, hst]
    cases st <;> simp [EngineState.isStopping]
  cooldown := by
    rw [Bool.eq_iff_iff, h.cooldown, hst]
    simp
  rundown := by
    rw [Bool.eq_iff_iff, h.rundown, hst]
    simp
  phaseItems hs := h.phaseItems fun p hp => by
    rw [hst] at hp
    cases hp
    cases hs

theorem EngineSound.of_placed (h : Placed t st) (ht : t.monitor.trips ≠ [] ↔ st = .tripped)
    (hw : t.engine.awaitingChoice = true → st = .tripped)
    (hr : t.resetSince ≠ none → t.engine.awaitingChoice = true) : EngineSound t where
  waiting ha := .inr (by rw [h.state, hw ha])
  chosen _ := by rw [h.state]; simp
  resetting := hr
  fuel st' _ hst' := by
    rw [h.state] at hst'
    cases hst'
    exact h.fuel
  starter := by
    rw [h.starter, h.state]
    cases st with
    | starting p => cases p <;> simp [EngineState.startOutputs, Phase.outputs]
    | _ => simp [EngineState.startOutputs]
  prelube := by
    rw [h.prelube, h.state]
    cases st with
    | starting p => cases p <;> simp [EngineState.startOutputs, Phase.outputs]
    | _ => simp [EngineState.startOutputs]
  stopKind := by
    rw [h.stopKind, h.state]
    cases st <;> simp [EngineState.isStopping]
  cooldown := by rw [h.cooldown, h.state]; simp
  rundown := by rw [h.rundown, h.state]; simp
  phaseItems hp := h.phaseItems (by
    cases st with
    | starting p => exact absurd h.state (hp p)
    | _ => rfl)
  trips := by rw [ht, h.state]; simp

/-- Soundness of the engine reads the engine, its contactors, its start, the reset and whether a trip is listed. -/
theorem EngineSound.of_same (h : EngineSound s) (he : t.engine = s.engine) (hr : t.resetSince = s.resetSince)
    (hf : t.outputs.fuelRun = s.outputs.fuelRun) (hs : t.outputs.starter = s.outputs.starter)
    (hp : t.outputs.prelube = s.outputs.prelube) (hq : t.sequencer.idle = t.sequencer ↔ s.sequencer.idle = s.sequencer)
    (ht : t.monitor.trips = [] ↔ s.monitor.trips = []) : EngineSound t := by
  obtain ⟨h1, h2, h3, h4, h5, h6, h7, h8, h9, h10, h11⟩ := h
  exact ⟨by rwa [he], by rwa [he], by rwa [hr, he], by rwa [he, hf], by rwa [he, hs], by rwa [he, hp], by rwa [he],
    by rwa [he], by rwa [he], by rw [he]; exact fun k => (hq.mpr (h10 k).symm).symm, by rw [he, ne_eq, ht]; exact h11⟩

theorem EngineSound.of_monitor (h : EngineSound s) (hm : MonitorAndMarks s t)
    (ht : t.monitor.trips = [] ↔ s.monitor.trips = []) : EngineSound t := by
  refine h.of_same ?_ ?_ ?_ ?_ ?_ ?_ ht <;> rw [hm]

/-- An engine whose state the Controller or the Sequencer moved, no trip begun. -/
theorem EngineSound.moved (h : EngineSound s) (hc : s.engine.awaitingChoice = false)
    (hne : s.engine.state ≠ some .tripped) (hd : Driven s t) (hp : PlacedUntripped t) : EngineSound t := by
  obtain ⟨st, hp, hst⟩ := hp
  have htrips : t.monitor.trips = [] := by
    rw [hd.trips]
    exact not_not.mp fun k => hne (h.trips.mp k)
  refine .of_placed hp (by simp [htrips, hst]) (fun ha => ?_) (fun hr => ?_)
  · rw [hd.awaiting, hc] at ha
    cases ha
  · rw [hd.frame.resetSince] at hr
    rw [hd.awaiting]
    exact h.resetting hr

theorem EngineSound.sequencer_noStart (h : EngineSound s) (hst : ∀ p : Phase, s.engine.state ≠ some (.starting p)) :
    NoStart s where
  starter := by
    rw [← Bool.not_eq_true, h.starter]
    exact hst _
  prelube := by
    rw [← Bool.not_eq_true, h.prelube]
    rintro ⟨p, hp, -⟩
    exact hst p hp
  phaseItems := h.phaseItems hst

end

end Sys2Proof.Machine
end

section
/-! The engine through onsets and trips, events, orders, closes and resets: O57. -/

namespace Sys2Proof.Machine

/-! ## Onsets only lengthen the Trip List -/

section

variable {s : State}

theorem State.onset_trips_prefix (s : State) (c : Channel) : s.monitor.trips <+: (s.onset c).monitor.trips := by
  unfold State.onset
  split
  · exact List.prefix_refl _
  · show _ <+: s.tripsAfter c
    unfold State.tripsAfter
    split
    · exact List.prefix_append _ _
    · exact List.prefix_refl _

theorem State.rearmChannel_trips_prefix (st : EngineState) (s : State) (c : Channel) :
    s.monitor.trips <+: (State.rearmChannel st s c).monitor.trips := by
  unfold State.rearmChannel
  split
  · unfold State.arm
    dsimp only
    split
    · exact (s.withChannel c ⟨true, 0, 0⟩).onset_trips_prefix c
    · exact List.prefix_refl _
  · split <;> exact List.prefix_refl _

theorem State.evaluate_trips_prefix (s : State) (c : Channel) : s.monitor.trips <+: (s.evaluate c).monitor.trips := by
  unfold State.evaluate
  dsimp only
  split_ifs <;> first | exact List.prefix_refl _ | exact s.onset_trips_prefix c

/-- SCHEDULE_FAULT is no TRIP channel. -/
theorem State.latchFault_trips (s : State) : s.latchFault.monitor.trips = s.monitor.trips := by
  unfold State.latchFault
  split
  · rfl
  · exact State.onset_trips _ _ (by decide)

theorem State.foldl_trips_prefix {α : Type} {f : State → α → State}
    (hf : ∀ (t : State) (a : α), t.monitor.trips <+: (f t a).monitor.trips) (xs : List α) (s : State) :
    s.monitor.trips <+: (xs.foldl f s).monitor.trips := by
  induction xs generalizing s with
  | nil => exact List.prefix_refl _
  | cons x xs ih => exact (hf s x).trans (ih (f s x))

theorem State.scanOnsets_trips_prefix (ks : List Lookup) (s : State) :
    s.monitor.trips <+: (State.scanOnsets ks s).monitor.trips := by
  have h : s.monitor.trips <+: ((Channel.thresholds.foldl State.evaluate s).marked ks).monitor.trips :=
    State.foldl_trips_prefix State.evaluate_trips_prefix Channel.thresholds s
  unfold State.scanOnsets
  split
  · rwa [State.latchFault_trips]
  · exact h

end

/-! ## The trip -/

section

variable {s t u v : State}

/-- The engine's part of a trip places it in TRIPPED. -/
theorem State.engineTrip_placed (hst : v.engine.state ≠ some .tripped)
    (hq : (∀ p : Phase, v.engine.state ≠ some (.starting p)) → NoStart v) : Placed v.engineTrip .tripped := by
  have hk : NoStop ((v.dropTimers.withStopKind none).withLayupMark false) := ⟨rfl, rfl, rfl⟩
  unfold State.engineTrip
  split
  · exact absurd ‹_› hst
  · have he := State.closeStart_engine (((v.dropTimers.withStopKind none).withLayupMark false).enter .tripped) .tripped
    have hq' := State.closeStart_noStart (((v.dropTimers.withStopKind none).withLayupMark false).enter .tripped) .tripped
    have hf := State.closeStart_fuelRun (((v.dropTimers.withStopKind none).withLayupMark false).enter .tripped) .tripped
    rw [State.enter_engine] at he
    rw [State.enter_outputs] at hf
    exact ⟨congrArg Engine.state he, hf, hq'.starter, hq'.prelube, by rw [State.endStart, he]; rfl,
      by rw [State.endStart, he]; rfl, by rw [State.endStart, he]; rfl, fun _ => hq'.phaseItems⟩
  · rename_i hns
    have hq' := hq fun p hp => hns p hp
    exact NoStart.placed_enter ⟨hq'.starter, hq'.prelube, hq'.phaseItems⟩ hk rfl rfl

theorem State.engineTrip_driven (v : State) : Frame v v.engineTrip ∧ v.engineTrip.monitor = v.monitor ∧
    v.engineTrip.engine.awaitingChoice = v.engine.awaitingChoice ∧ v.engineTrip.arbiter = v.arbiter := by
  have h1 := (((Driven.refl v).dropTimers.withStopKind none).withLayupMark false).enter .tripped
  unfold State.engineTrip
  split
  · exact ⟨Frame.refl v, rfl, rfl, rfl⟩
  · exact ⟨(h1.endStart .tripped).frame, by simp [State.endStart, State.closeStart], (h1.endStart .tripped).awaiting,
      (h1.endStart .tripped).arbiter⟩
  · exact ⟨h1.frame, by simp, h1.awaiting, h1.arbiter⟩

theorem Placed.of_arbiter {st : EngineState} (h : Placed s st) (ha : ArbiterOnly s t) : Placed t st := by
  rw [ha]
  exact h.of_same rfl rfl rfl rfl rfl

/-- Onsets leave the engine sound, their trip with them. -/
theorem EngineSound.withTrip {onsets : State → State} (h : EngineSound s) (hm : MonitorAndMarks s (onsets s))
    (hp : s.monitor.trips <+: (onsets s).monitor.trips) : EngineSound (s.withTrip onsets) := by
  unfold State.withTrip
  dsimp only
  split
  · rename_i hc
    obtain ⟨hnone, hsome⟩ := hc
    have hstate : (onsets s).engine.state = s.engine.state := by rw [hm]
    have hne : (onsets s).engine.state ≠ some .tripped := by
      rw [hstate]
      exact fun k => h.trips.mpr k hnone
    have hplaced : Placed (onsets s).engineTrip .tripped := by
      refine State.engineTrip_placed hne fun hp => ?_
      rw [hstate] at hp
      have hst := h.sequencer_noStart hp
      rw [hm]
      exact ⟨hst.starter, hst.prelube, hst.phaseItems⟩
    obtain ⟨hf, hmon, haw, -⟩ := (onsets s).engineTrip_driven
    have ha := (onsets s).engineTrip.protectionClaim_only
    refine .of_placed (hplaced.of_arbiter ha) ?_ (fun _ => rfl) ?_
    · rw [State.deliverTrip, ha.monitor, hmon]
      simp [hsome]
    · rw [State.deliverTrip, ha.resetSince, ha.engine, hf.resetSince, haw, hm]
      exact h.resetting
  · rename_i hc
    refine h.of_monitor hm ?_
    constructor
    · exact fun k => List.prefix_nil.mp (k ▸ hp)
    · exact fun k => not_not.mp fun k' => hc ⟨k, k'⟩

theorem EngineSound.of_arbiter (h : EngineSound s) (ha : ArbiterOnly s t) : EngineSound t := by
  rw [ha]
  exact h.of_same rfl rfl rfl rfl rfl Iff.rfl Iff.rfl

theorem EngineSound.rearmOnce (h : EngineSound s) : EngineSound s.rearmOnce := by
  unfold State.rearmOnce
  split
  · exact h
  · rename_i st hst
    split
    · exact h
    · refine h.withTrip ?_ (State.foldl_trips_prefix (State.rearmChannel_trips_prefix st) _ s)
      have hm := MonitorOnly.foldl (State.rearmChannel_only st) Channel.order s
      unfold MonitorAndMarks
      rw [hm]

theorem EngineSound.rearm (h : EngineSound s) : EngineSound s.rearm := h.rearmOnce.rearmOnce

theorem EngineSound.judgeWake (h : EngineSound s) : EngineSound s.judgeWake := by
  have hd := (Driven.refl s).judgeWake
  unfold State.judgeWake State.takeWake at hd ⊢
  split
  · rename_i hw
    rw [if_pos hw] at hd
    obtain ⟨hst, -⟩ := hw
    have hc : s.engine.awaitingChoice = false := by
      rw [← Bool.not_eq_true]
      intro ha
      rcases h.waiting ha with k | k <;> simp [hst] at k
    split
    · rename_i hcond
      rw [if_pos hcond] at hd
      have hk := (h.placed hc hst).noStop rfl
      exact h.moved hc (by simp [hst]) hd (hk.placed_openStart _ _).timePrelube
    · exact h
  · exact h

theorem EngineSound.close (before : State) (h : EngineSound s) : EngineSound (before.close s) :=
  h.of_same (by simp) (by simp) (by simp) (by simp) (by simp) (by simp) (by simp)

theorem EngineSound.settle (before : State) (judged : Bool) (h : EngineSound s) :
    EngineSound (before.settle judged s) := by
  rw [State.settle_eq_close]
  apply EngineSound.close
  unfold State.rearmed
  split
  · exact h.rearm.judgeWake.rearm
  · exact h.rearm

end

/-! ## The events -/

section

variable {s u : State}

theorem EngineSound.monitorScan (h : EngineSound s) : EngineSound s.monitorScan := by
  rw [State.monitorScan_eq]
  exact h.withTrip (s.scanOnsets_only _) (State.scanOnsets_trips_prefix _ s)

/-- The engine of a state that is not awaited, in another state than TRIPPED, as the events of the start find it. -/
theorem EngineSound.chosen_of_state {st : EngineState} (h : EngineSound s) (hst : s.engine.state = some st)
    (hne : st ≠ .tripped) : s.engine.awaitingChoice = false ∧ s.engine.state ≠ some .tripped := by
  have hne' : s.engine.state ≠ some .tripped := by
    rw [hst]
    exact fun k => hne (Option.some.inj k)
  refine ⟨?_, hne'⟩
  rw [← Bool.not_eq_true]
  intro ha
  rcases h.waiting ha with k | k
  · rw [hst] at k; cases k
  · exact hne' k

/-- A change of an engine in a state other than TRIPPED. -/
theorem EngineSound.change {t : State} {st : EngineState} (h : EngineSound s) (hst : s.engine.state = some st)
    (hne : st ≠ .tripped) (hd : Driven s t) (hp : Placed s st → PlacedUntripped t) : EngineSound t := by
  obtain ⟨hc, hne'⟩ := h.chosen_of_state hst hne
  exact h.moved hc hne' hd (hp (h.placed hc hst))

theorem EngineSound.lubeComparison (h : EngineSound s) : EngineSound s.lubeComparison := by
  by_cases hw : s.engine.state = some (.starting .warm)
  · exact h.change hw (by decide) (Driven.refl s).lubeComparison fun hp => hp.lubeComparison (by decide)
  · unfold State.lubeComparison
    rwa [if_neg fun k => hw k.1]

theorem EngineSound.chooseState (h : EngineSound s) (ha : s.engine.awaitingChoice = true) (hr : s.resetSince = none) :
    EngineSound s.chooseState := by
  have hf : Frame s s.chooseState := State.chooseState_frame (Frame.refl s)
  have hq0 := h.sequencer_noStart fun p hp => by rcases h.waiting ha with k | k <;> simp [hp] at k
  have hq : NoStart { s with engine := { s.engine with awaitingChoice := false } } :=
    ⟨hq0.starter, hq0.prelube, hq0.phaseItems⟩
  have hk : NoStop { s with engine := { s.engine with awaitingChoice := false } } := by
    refine ⟨Option.not_isSome_iff_eq_none.mp ?_, Option.not_isSome_iff_eq_none.mp ?_, Option.not_isSome_iff_eq_none.mp ?_⟩
    · rw [h.stopKind]; rcases h.waiting ha with k | k <;> simp [k]
    · rw [h.cooldown]; rcases h.waiting ha with k | k <;> simp [k]
    · rw [h.rundown]; rcases h.waiting ha with k | k <;> simp [k]
  have hreset : s.chooseState.resetSince ≠ none → s.chooseState.engine.awaitingChoice = true := by
    rw [hf.resetSince, hr]
    exact fun k => absurd rfl k
  have hrundown (k : StopKind) : PlacedUntripped
      (State.enterRundown (({ s with engine := { s.engine with awaitingChoice := false } } : State).withStopKind (some k))) :=
    ⟨_, NoStart.placed_enterRundown ⟨hq.starter, hq.prelube, hq.phaseItems⟩ rfl, by decide⟩
  by_cases ht : s.monitor.trips = []
  · have hun : PlacedUntripped s.chooseState ∧ s.chooseState.engine.awaitingChoice = false ∧
        s.chooseState.monitor.trips = s.monitor.trips := by
      unfold State.chooseState
      simp only [ht, ne_eq, not_true_eq_false, if_false]
      split_ifs
      · exact ⟨hq.placed_enterRunning hk, by simp [State.enterRunning], by simp [State.enterRunning, ht]⟩
      · exact ⟨hrundown .normal, by simp [State.enterRundown], by simp [State.enterRundown, ht]⟩
      · exact ⟨hrundown .layup, by simp [State.enterRundown], by simp [State.enterRundown, ht]⟩
      · exact ⟨hrundown .normal, by simp [State.enterRundown], by simp [State.enterRundown, ht]⟩
      · exact ⟨⟨.laidUp, (hq.placed_enter (st := .laidUp) hk rfl rfl).of_same rfl rfl rfl rfl rfl, by decide⟩,
          by simp, by simp [ht]⟩
      · exact ⟨⟨.stopped, hq.placed_enter hk rfl rfl, by decide⟩, by simp, by simp [ht]⟩
    obtain ⟨⟨st, hp, hne⟩, haw, htr⟩ := hun
    exact .of_placed hp (by simp [htr, ht, hne]) (by simp [haw]) hreset
  · have he : s.chooseState =
        ({ s with engine := { s.engine with awaitingChoice := false } } : State).enter .tripped := by
      unfold State.chooseState
      simp [ht]
    rw [he] at hreset ⊢
    exact .of_placed (hq.placed_enter (st := .tripped) hk rfl rfl) (by simp [ht]) (fun _ => rfl) hreset

theorem EngineSound.takeMeasurement (h : EngineSound s) (was : SpeedQuality) (hr : s.resetSince = none) :
    EngineSound (s.takeMeasurement was) := by
  cases ha : s.engine.awaitingChoice with
  | true =>
    unfold State.takeMeasurement
    rw [if_pos ha]
    exact h.chooseState ha hr
  | false =>
    have hd := (Driven.refl s).takeMeasurement was ha
    unfold State.takeMeasurement at hd ⊢
    rw [ha] at hd ⊢
    simp only [Bool.false_eq_true, if_false] at hd ⊢
    split <;> rename_i hst <;> simp only [hst] at hd
    · exact h.change hst (by decide) hd fun hp => hp.crankMeasurement was
    · exact h.change hst (by decide) hd fun hp => hp.catchMeasurement
    · exact h.change hst (by decide) hd fun hp => hp.restTest
    · split
      · rw [if_pos ‹_›] at hd
        exact h.change hst (by decide) hd fun hp => hp.endRundown
      · exact h
    · exact h

theorem EngineSound.monitorQuality (h : EngineSound s) (was : SpeedQuality) : EngineSound (s.monitorQuality was) := by
  have hm := s.monitorQuality_only was
  have ht : (s.monitorQuality was).monitor.trips = s.monitor.trips := by
    unfold State.monitorQuality
    split_ifs
    · rfl
    · exact s.onset_trips _ (by decide)
    · rfl
    · rfl
  exact h.of_monitor (by unfold MonitorAndMarks; rw [hm]) (by rw [ht])

theorem EngineSound.monitorInput (h : EngineSound s) (i : Input) : EngineSound (s.monitorInput i) := by
  unfold State.monitorInput
  split
  · exact h
  · rename_i c _
    split_ifs
    · exact h
    · exact h.withTrip (by unfold MonitorAndMarks; rw [s.onset_only c]) (s.onset_trips_prefix c)
    · exact h.of_same rfl rfl rfl rfl rfl Iff.rfl Iff.rfl
    · exact h

theorem EngineSound.judgeIsolation (h : EngineSound s) : EngineSound s.judgeIsolation := by
  have hd := (Driven.refl s).judgeIsolation
  unfold State.judgeIsolation at hd ⊢
  split_ifs with h1 h2
  · rw [if_pos h1] at hd
    exact h.change h1.1 (by decide) hd fun hp => ⟨_, (hp.noStart rfl).placed_enter (hp.noStop rfl) rfl rfl, by decide⟩
  · rw [if_neg h1, if_pos h2] at hd
    exact h.change h2.1 (by decide) hd fun hp => ⟨_, (hp.noStart rfl).placed_enter (hp.noStop rfl) rfl rfl, by decide⟩
  · exact h

theorem EngineSound.layupRequest (h : EngineSound s) : EngineSound s.layupRequest := by
  have hd := (Driven.refl s).layupRequest
  unfold State.layupRequest at hd ⊢
  split
  · rename_i hr
    rw [if_pos hr] at hd
    rcases (by simpa [State.runs] using hr : s.engine.state = some .running ∨ s.engine.state = some .isolated) with k | k
    · exact h.change k (by decide) hd fun hp => (hp.noStart rfl).placed_beginStop (hp.noStop rfl) _
    · exact h.change k (by decide) hd fun hp => (hp.noStart rfl).placed_beginStop (hp.noStop rfl) _
  · exact h

theorem EngineSound.latchFault (h : EngineSound s) : EngineSound s.latchFault :=
  h.of_monitor (by unfold MonitorAndMarks; rw [s.latchFault_only]) (by rw [s.latchFault_trips])

theorem EventOf.engineSound {w : State} {judged : Bool} (he : EventOf u judged w) (h : EngineSound u)
    (hr : u.resetSince = none) : EngineSound w := by
  have hdrop : Driven u u.dropPhaseTimer := (Driven.refl u).withSequencer _
  have hk {p : Phase} (hp : Placed u (.starting p)) : NoStop u.dropPhaseTimer := (hp.noStop rfl).of_engine rfl
  cases he with
  | scan raw =>
    exact (h.of_same (t := u.takeScan raw) rfl rfl rfl rfl rfl Iff.rfl Iff.rfl).monitorScan.lubeComparison
  | measurement =>
    have hm : EngineSound u.measure := h.of_same rfl rfl rfl rfl rfl Iff.rfl Iff.rfl
    refine (hm.monitorQuality _).takeMeasurement _ ?_
    rw [(u.measure.monitorQuality_only _).resetSince]
    exact hr
  | filterChange i =>
    have hi : EngineSound (u.withInput i (u.frontEnd.inputs.get i).settleFilter) :=
      h.of_same rfl rfl rfl rfl rfl Iff.rfl Iff.rfl
    unfold State.filterChange
    dsimp only
    split
    · exact (hi.monitorInput i).judgeIsolation
    · exact hi.monitorInput i
  | lapse l =>
    have hl : EngineSound (u.takeReport l) := h.of_same rfl rfl rfl rfl rfl Iff.rfl Iff.rfl
    unfold State.lapseEffect
    split
    · exact (hl.of_arbiter (State.releaseSource_only _ _)).of_same rfl rfl rfl rfl rfl Iff.rfl Iff.rfl
    · exact hl
  | faultOnset _ => exact EngineSound.latchFault (h.of_same rfl rfl rfl rfl rfl Iff.rfl Iff.rfl)
  | prelubeEnd hst => exact h.change hst (by decide) hdrop.prelubeCheck fun hp => (hk hp).placed_prelubeCheck
  | crankEnd hst => exact h.change hst (by decide) (hdrop.failAttempt _) fun hp => (hk hp).placed_failAttempt _
  | catchEnd hst => exact h.change hst (by decide) (hdrop.failAttempt _) fun hp => (hk hp).placed_failAttempt _
  | restEnd hst =>
    exact h.change hst (by decide) hdrop.restTest fun hp => Placed.restTest (s := u.dropPhaseTimer) (hp.withSequencer _)
  | lubeWindowEnd hst => exact h.change hst (by decide) (hdrop.endStart _) fun hp => (hk hp).placed_endStart rfl
  | warmEnd hst => exact h.change hst (by decide) hdrop.warmCheck fun hp => (hk hp).placed_warmCheck
  | lockoutEnd => exact h.of_same rfl rfl rfl rfl rfl (by cases u.sequencer; simp [Sequencer.idle]) Iff.rfl
  | cooldownEnd hst =>
    refine h.change hst (by decide) (Driven.refl u).enterRundown fun hp => ⟨.rundown, ?_, by decide⟩
    exact (hp.noStart rfl).placed_enterRundown hp.stopKind
  | rundownEnd hst => exact h.change hst (by decide) (Driven.refl u).endRundown fun hp => hp.endRundown
  | idleLimit => exact h.layupRequest
  | entryJudgement => exact h.of_same rfl rfl rfl rfl rfl Iff.rfl Iff.rfl

end

/-! ## The orders -/

section

variable {s : State}

theorem State.startRefusal_none {mode : StartMode} (h : s.startRefusal mode = none) :
    s.engine.state = some .stopped ∨ s.engine.state = some .laidUp ∨ s.engine.state = none := by
  unfold State.startRefusal at h
  split at h
  · cases h
  · cases hst : s.engine.state with
    | none => exact .inr (.inr rfl)
    | some st => cases st <;> simp [hst] at h ⊢

theorem State.stopRefusal_none (h : s.stopRefusal = none) :
    s.engine.state = some .running ∨ s.engine.state = some .isolated ∨ s.engine.state = some .cooldown ∨
      s.engine.state = some .rundown ∨ s.engine.state = some .laidUp ∨ s.engine.state = none := by
  unfold State.stopRefusal at h
  cases hst : s.engine.state with
  | none => simp
  | some st => cases st <;> simp [hst] at h ⊢

theorem State.writeSetting_blocks (s : State) (k : Setting) (v : Nat) :
    (s.writeSetting k v).engine = s.engine ∧ (s.writeSetting k v).outputs = s.outputs ∧
      (s.writeSetting k v).sequencer = s.sequencer ∧ (s.writeSetting k v).monitor = s.monitor ∧
      (s.writeSetting k v).resetSince = s.resetSince ∧ (s.writeSetting k v).arbiter = s.arbiter ∧
      (s.writeSetting k v).stepper = s.stepper ∧ (s.writeSetting k v).idle = s.idle := by
  unfold State.writeSetting State.reportLapse
  cases k.silenceOf with
  | some l => dsimp only; split <;> exact ⟨rfl, rfl, rfl, rfl, rfl, rfl, rfl, rfl⟩
  | none => cases k.inputOf <;> exact ⟨rfl, rfl, rfl, rfl, rfl, rfl, rfl, rfl⟩

theorem EngineSound.stopEffect (h : EngineSound s) (hc : s.engine.awaitingChoice = false) (hr : s.stopRefusal = none) :
    EngineSound s.stopEffect := by
  have hd := (Driven.refl s).stopEffect
  have hstopping {st : EngineState} (hst : s.engine.state = some st) (hs : st.isStopping = true) (hne : st ≠ .tripped) :
      Driven s (s.withStopKind (some .normal)) → EngineSound (s.withStopKind (some .normal)) := fun hd =>
    h.change hst hne hd fun hp => ⟨st, ⟨hp.state, hp.fuel, hp.starter, hp.prelube, hs.symm, hp.cooldown, hp.rundown,
      hp.phaseItems⟩, hne⟩
  unfold State.stopEffect at hd ⊢
  rcases State.stopRefusal_none hr with k | k | k | k | k | k
  · simp only [k] at hd ⊢
    exact h.change k (by decide) hd fun hp => (hp.noStart rfl).placed_beginStop (hp.noStop rfl) _
  · simp only [k] at hd ⊢
    exact h.change k (by decide) hd fun hp => (hp.noStart rfl).placed_beginStop (hp.noStop rfl) _
  · simp only [k] at hd ⊢
    exact hstopping k rfl (by decide) hd
  · simp only [k] at hd ⊢
    exact hstopping k rfl (by decide) hd
  · simp only [k] at hd ⊢
    refine h.change k (by decide) hd fun hp => ⟨.stopped, NoStart.placed_enter ?_ ?_ rfl rfl, by decide⟩
    · exact ⟨(hp.noStart rfl).starter, (hp.noStart rfl).prelube, (hp.noStart rfl).phaseItems⟩
    · exact ⟨(hp.noStop rfl).stopKind, (hp.noStop rfl).cooldown, (hp.noStop rfl).rundown⟩
  · exact absurd k (h.chosen hc)

/-- Every accepted action leaves the engine sound, in a chosen state and out of a reset. -/
theorem ActionEffect.engineSound {l : Link} {w : State} (ha : ActionEffect l s w)
    (h : EngineSound s ∧ s.engine.awaitingChoice = false ∧ s.resetSince = none) :
    EngineSound w ∧ w.engine.awaitingChoice = false ∧ w.resetSince = none := by
  obtain ⟨h, hc, hr⟩ := h
  have hdriven {w : State} (hd : Driven s w) (hw : EngineSound w) :
      EngineSound w ∧ w.engine.awaitingChoice = false ∧ w.resetSince = none :=
    ⟨hw, hd.awaiting.trans hc, hd.frame.resetSince.trans hr⟩
  have harb {w : State} (hw : ArbiterOnly s w) :
      EngineSound w ∧ w.engine.awaitingChoice = false ∧ w.resetSince = none :=
    ⟨h.of_arbiter hw, by rw [hw.engine, hc], by rw [hw.resetSince, hr]⟩
  cases ha with
  | claim _ _ => exact harb (s.claimEffect_only _ _)
  | release _ => exact harb (s.releaseSource_only _)
  | notch _ _ => exact harb rfl
  | @start mode hn =>
    have hd := (Driven.refl s).openStart (.source (sourceOf l)) mode
    refine hdriven hd ?_
    rcases State.startRefusal_none hn with k | k | k
    · exact h.change k (by decide) hd fun hp => (hp.noStop rfl).placed_openStart _ _
    · exact h.change k (by decide) hd fun hp => (hp.noStop rfl).placed_openStart _ _
    · exact absurd k (h.chosen hc)
  | stop hn => exact hdriven (Driven.refl s).stopEffect (h.stopEffect hc hn)
  | cancelStart hst =>
    have hd := (Driven.refl s).endStart .cancelled
    exact hdriven hd (h.change hst (by simp) hd fun hp => (hp.noStop rfl).placed_endStart rfl)
  | cancelCooldown hst =>
    have hd := (Driven.refl s).cancelCooldown
    refine hdriven hd (h.change hst (by decide) hd fun hp => NoStart.placed_enterRunning ?_ ⟨rfl, rfl, rfl⟩)
    exact ⟨(hp.noStart rfl).starter, (hp.noStart rfl).prelube, (hp.noStart rfl).phaseItems⟩
  | isolate on =>
    refine hdriven ((Driven.refl s).isolateEffect on) (EngineSound.judgeIsolation ?_)
    obtain ⟨h1, h2, h3, h4, h5, h6, h7, h8, h9, h10, h11⟩ := h
    exact ⟨h1, h2, h3, h4, h5, h6, h7, h8, h9, h10, h11⟩
  | layup _ _ => exact harb rfl
  | tripReset ht _ =>
    have hp := h.placed hc (h.trips.mp ht)
    have ho := State.releaseSource_only { s with monitor := { s.monitor with trips := [] } } .protection
    have hp' : Placed (State.releaseSource { s with monitor := { s.monitor with trips := [] } } .protection) .tripped :=
      (hp.of_same (t := { s with monitor := { s.monitor with trips := [] } }) rfl rfl rfl rfl rfl).of_arbiter ho
    have haw : s.tripResetEffect.engine.awaitingChoice = false := by
      rw [State.tripResetEffect, State.enter_engine, ho.engine]
      exact hc
    have hrs : s.tripResetEffect.resetSince = none := by
      rw [State.tripResetEffect, State.enter_resetSince, ho.resetSince]
      exact hr
    refine ⟨.of_placed ((hp'.noStart rfl).placed_enter (st := .stopped) (hp'.noStop rfl) rfl rfl) ?_ ?_ ?_, haw, hrs⟩
    · rw [State.tripResetEffect, State.enter_monitor, ho.monitor]
      simp
    · exact fun k => absurd (haw.symm.trans k) (by decide)
    · exact fun k => absurd hrs k
  | read => exact ⟨h, hc, hr⟩
  | @setting k v _ _ _ =>
    obtain ⟨he, ho, hq, hm, hrs, -⟩ := s.writeSetting_blocks k v
    exact ⟨h.of_same he hrs (by rw [ho]) (by rw [ho]) (by rw [ho]) (by rw [hq]) (by rw [hm]), by rw [he, hc], by rw [hrs, hr]⟩
  | word v _ _ => exact ⟨h.of_same rfl rfl rfl rfl rfl Iff.rfl Iff.rfl, hc, hr⟩
  | segment g _ _ => exact ⟨h.of_same rfl rfl rfl rfl rfl Iff.rfl Iff.rfl, hc, hr⟩

theorem EngineSound.completed (h : EngineSound s) (hc : s.engine.awaitingChoice = false)
    (as : List Sys2Proof.Action) : EngineSound (s.completed as) := by
  unfold State.completed
  split
  · cases hst : s.engine.state with
    | none => exact absurd hst (h.chosen hc)
    | some st =>
      by_cases ht : st = .tripped
      · rcases s.timePrelube_cases with ⟨-, he⟩ | ⟨hst', -, -⟩ | ⟨hst', -, -⟩
        · rw [he]
          exact h.of_same rfl rfl rfl rfl rfl Iff.rfl Iff.rfl
        · simp [hst, ht] at hst'
        · simp [hst, ht] at hst'
      · exact h.change hst ht (Driven.refl s).timePrelube fun hp => PlacedUntripped.timePrelube ⟨st, hp, ht⟩
  · exact h

end

/-! ## The resets and the steps -/

theorem State.live_iff (s : State) : s.live = true ↔ s.supply = true ∧ s.resetSince = none := by
  simp [State.live]

theorem State.orderUnitOpen_iff (s : State) :
    s.orderUnitOpen = true ↔ s.live = true ∧ s.engine.awaitingChoice = false := by
  simp [State.orderUnitOpen]

section

variable {s t : State}

theorem EngineSound.assertReset (h : EngineSound s) : EngineSound s.assertReset := by
  have hstate : s.assertReset.engine.state = if s.engine.state = some .tripped then some .tripped else none := rfl
  have htrips : s.assertReset.monitor.trips = s.monitor.trips := rfl
  refine ⟨fun _ => ?_, fun ha => (by cases ha), fun _ => rfl, fun _ ha => (by cases ha), ?_, ?_, ?_, ?_, ?_, ?_, ?_⟩
  · rw [hstate]
    split
    · exact .inr rfl
    · exact .inl rfl
  · rw [hstate]
    show false = true ↔ _
    split <;> simp
  · rw [hstate]
    show false = true ↔ _
    split <;> simp
  · rw [hstate]
    show false = true ↔ _
    split <;> simp
  · rw [hstate]
    show false = true ↔ _
    split <;> simp
  · rw [hstate]
    show false = true ↔ _
    split <;> simp
  · intro _
    show s.sequencer.asserted s.startRuns = (s.sequencer.asserted s.startRuns).idle
    unfold Sequencer.asserted
    split <;> rfl
  · rw [hstate, htrips, h.trips]
    split <;> simp_all

theorem StepOutcome.engineSound (ho : StepOutcome s t) (h : EngineSound s) : EngineSound t := by
  have hlater {u : State} (hu : Later s u) : EngineSound u := by
    rw [hu.1]
    exact h.of_same rfl rfl rfl rfl rfl Iff.rfl Iff.rfl
  have hreset {v : State} (hv : v = State.poweredUp v.now v.store v.frontEnd.inputs v.pending) : EngineSound v := by
    rw [hv]
    constructor <;> simp [State.poweredUp, Engine.reset, Sequencer.reset, Sequencer.idle, Outputs.reset, Monitor.reset]
  cases ho with
  | calm hc =>
    refine h.of_same hc.engine hc.resetSince (by rw [hc.outputs]) (by rw [hc.outputs]) (by rw [hc.outputs]) ?_
      (by rw [hc.monitor])
    rw [hc.sequencer]
    cases s.sequencer
    simp [Sequencer.idle]
  | event hu hlive he =>
    refine EngineSound.settle _ _ (he.engineSound (hlater hu) ?_)
    rw [hu.1]
    exact (s.live_iff.mp hlive).2
  | @order l as w body hopen hrun =>
    obtain ⟨hlive, hchosen⟩ := s.orderUnitOpen_iff.mp hopen
    obtain ⟨hw, hc, -⟩ := State.runActions_keeps (fun _ _ => ActionEffect.engineSound) hrun ⟨h, hchosen, (s.live_iff.mp hlive).2⟩
    exact ((hw.completed hc as).settle s _).of_same rfl rfl rfl rfl rfl Iff.rfl Iff.rfl
  | update _ _ =>
    have hf := s.updateDue.update_stepperFrame
    refine h.of_same hf.engine hf.frame.resetSince ?_ ?_ ?_ ?_ ?_
    · exact (congrArg Outputs.fuelRun hf.outputs :)
    · exact (congrArg Outputs.starter hf.outputs :)
    · exact (congrArg Outputs.prelube hf.outputs :)
    · rw [show s.updated.sequencer = s.sequencer from hf.sequencer]
    · rw [s.updated_monitor]
  | powerOn after raw levels =>
    constructor <;> simp [State.powerOnValues, State.poweredUp, Engine.reset, Sequencer.reset, Sequencer.idle,
      Outputs.reset, Monitor.reset]
  | loss after levels =>
    constructor <;> simp [State.powerOnValues, State.poweredUp, Engine.reset, Sequencer.reset, Sequencer.idle,
      Outputs.reset, Monitor.reset]
  | assertion after _ => exact EngineSound.assertReset (hlater (s.elapse_later after))
  | exit after since raw hs =>
    obtain ⟨h1, h2, h3, h4, h5, h6, h7, h8, h9, h10, h11⟩ := h
    refine ⟨h1, h2, fun k => absurd rfl k, h4, h5, h6, h7, h8, h9, fun k => ?_, h11⟩
    show ({ s.sequencer with lockoutEnd := _, creditEnd := _ } : Sequencer) = _
    have hq := h10 k
    rw [hq]
    rfl

end

/-- Settles O57: every entry leaves the contactors, the timers and the stop kind of its state, and a trip is delivered in
the event of its first onset. -/
theorem engineStaysSound : Obligations.EngineStaysSound := by
  intro s t hs hstep
  obtain ⟨rest, ho⟩ := step_outcome hstep
  exact ho.engineSound (hs.of_same rfl rfl rfl rfl rfl Iff.rfl Iff.rfl)

end Sys2Proof.Machine
end

section
/-! The Authority Table and the two collections through each operation of the Arbiter: who is seated where, with or without
a holder, and what a push, an insertion, a removal and a gain make of it. -/

namespace Sys2Proof.Machine

/-! ## Entries -/

/-- An entry as it is to be by itself (R2, R4, R8, R10). -/
structure Entry.Sound (e : Entry) : Prop where
  out : e.place = .out → e = Entry.reset
  matched : e.mtch.isSome = true ↔ e.place = .holding
  held : e.held.isSome = true ↔ e.mtch = some .matching
  matching : ∀ h : Nat, e.held = some h → h < e.request
  request : e.request ≤ 8

theorem Entry.reset_sound : Entry.reset.Sound := by
  constructor <;> simp [Entry.reset]

theorem Entry.gain_sound {e : Entry} (granted : Nat) (h : e.request ≤ 8) : (e.gain granted).Sound := by
  obtain ⟨hp, hr, -, ⟨-, hm, hh⟩ | ⟨hlt, hm, hh⟩⟩ := e.gain_spec granted
  · constructor <;> simp [hp, hm, hh, hr, h]
  · refine ⟨by simp [hp], by simp [hp, hm], by simp [hm, hh], fun n hn => ?_, by rwa [hr]⟩
    rw [hh] at hn
    cases hn
    rwa [hr]

theorem Entry.setAside_sound {e : Entry} (h : e.request ≤ 8) : e.setAside.Sound := by
  constructor <;> simp [Entry.setAside, h]

theorem Entry.Sound.showNotch {e : Entry} (h : e.Sound) (hin : e.place ≠ .out) {n : Nat} (hn : n ≤ 8) :
    (e.showNotch n).Sound := by
  unfold Entry.showNotch
  split
  · rename_i hc
    have hhold : e.place = .holding := h.matched.mp (by rw [hc.1]; rfl)
    constructor <;> simp [hhold, hn]
  · rename_i hc
    refine ⟨fun k => absurd k hin, h.matched, h.held, fun m hm => ?_, hn⟩
    by_contra hle
    have hmt : e.mtch = some .matching := h.held.mp (by rw [show e.held = some m from hm]; rfl)
    exact hc ⟨hmt, by rw [show e.held = some m from hm]; exact Nat.not_lt.mp hle⟩

theorem Entry.Sound.withPermission {e : Entry} (h : e.Sound) (hin : e.place ≠ .out) (p : Permission) :
    ({ e with permission := p } : Entry).Sound :=
  ⟨fun k => absurd k hin, h.matched, h.held, h.matching, h.request⟩

/-! ## Seats -/

/-- The source `x` in the table and in the collections, where `h` holds. -/
structure SeatedAt (s : State) (h : Option Source) (x : Source) : Prop where
  sound : (s.entry x).Sound
  holding : (s.entry x).place = .holding ↔ h = some x
  suspended : (s.entry x).place = .suspended ↔ x ∈ s.arbiter.stack ∧ h ≠ some x
  pending : (s.entry x).place = .pending ↔ x ∈ s.arbiter.waiting
  apart : x ∈ s.arbiter.waiting → x ∉ s.arbiter.stack
  link : x = .protection → x ∉ s.arbiter.waiting ∧ (s.entry x).request = 0 ∧ (s.entry x).permission = .forbid

/-- Both collections in strict rank order, and the top of the stack or nobody holding. -/
structure Ordered (s : State) (h : Option Source) : Prop where
  top : h = none ∨ h = s.holder
  stackOrder : s.arbiter.stack.Pairwise fun a b => s.rank a < s.rank b
  waitingOrder : s.arbiter.waiting.Pairwise fun a b => s.rank a < s.rank b

/-- The table and the collections in agreement, where `h` holds. -/
structure Seats (s : State) (h : Option Source) : Prop extends Ordered s h where
  seated : ∀ x : Source, SeatedAt s h x

section

variable {s t : State} {h h' : Option Source} {x y : Source}

theorem SeatedAt.of_same (k : SeatedAt s h y) (he : t.entry y = s.entry y)
    (hst : y ∈ t.arbiter.stack ↔ y ∈ s.arbiter.stack) (hw : y ∈ t.arbiter.waiting ↔ y ∈ s.arbiter.waiting)
    (hh : h' = some y ↔ h = some y) : SeatedAt t h' y := by
  obtain ⟨h1, h2, h3, h4, h5, h6⟩ := k
  exact ⟨by rwa [he], by rwa [he, hh], by rwa [he, hst, ne_eq, hh], by rwa [he, hw], by rwa [hw, hst], by rwa [he, hw]⟩

theorem State.rank_of_settings (hs : t.settings = s.settings) (y : Source) : t.rank y = s.rank y := by
  cases y <;> simp [State.rank, hs]

theorem Ordered.of_lists (k : Ordered s h) (hs : t.settings = s.settings) (hst : t.arbiter.stack = s.arbiter.stack)
    (hw : t.arbiter.waiting = s.arbiter.waiting) : Ordered t h := by
  have hr : t.rank = s.rank := funext (State.rank_of_settings hs)
  obtain ⟨h1, h2, h3⟩ := k
  exact ⟨by unfold State.holder; rwa [hst], by rwa [hst, hr], by rwa [hw, hr]⟩

/-- The table and the collections in agreement reads the Arbiter and the ranks alone. -/
theorem Seats.of_same (k : Seats s h) (ha : t.arbiter = s.arbiter) (hs : t.settings = s.settings) : Seats t h :=
  ⟨k.toOrdered.of_lists hs (by rw [ha]) (by rw [ha]), fun y => (k.seated y).of_same (by unfold State.entry; rw [ha])
    (by rw [ha]) (by rw [ha]) Iff.rfl⟩

theorem Ordered.nodup (k : Ordered s h) : s.arbiter.stack.Nodup :=
  k.stackOrder.imp fun hlt he => by rw [he] at hlt; exact lt_irrefl _ hlt

/-- An entry moved, its source keeping its place. -/
theorem Seats.withEntry (k : Seats s h) (e : Entry) (he : e.Sound) (hp : e.place = (s.entry x).place)
    (hx : x = .protection → e.request = 0 ∧ e.permission = .forbid) : Seats (s.withEntry x e) h := by
  refine ⟨k.toOrdered.of_lists rfl rfl rfl, fun y => ?_⟩
  by_cases hy : y = x
  · subst hy
    have hself : (s.withEntry y e).entry y = e := PerSource.get_set_self _ _ _
    obtain ⟨-, h2, h3, h4, h5, h6⟩ := k.seated y
    refine ⟨by rwa [hself], by rwa [hself, hp], by rwa [hself, hp], by rwa [hself, hp], h5, fun hq => ?_⟩
    rw [hself]
    exact ⟨(h6 hq).1, hx hq⟩
  · exact (k.seated y).of_same (PerSource.get_set_ne _ _ hy) Iff.rfl Iff.rfl Iff.rfl

theorem AuthoritySound.seats (k : AuthoritySound s) : Seats s s.holder where
  top := .inr rfl
  stackOrder := k.stackOrder
  waitingOrder := k.waitingOrder
  seated x :=
    { sound := ⟨k.out x, k.matched x, k.held x, k.matching x, k.requests x⟩
      holding := k.holding x
      suspended := by
        have hnodup : s.arbiter.stack.Nodup :=
          k.stackOrder.imp fun hlt he => by rw [he] at hlt; exact lt_irrefl _ hlt
        rw [k.suspended x]
        unfold State.holder
        cases hst : s.arbiter.stack with
        | nil => simp
        | cons a l =>
          rw [hst, List.nodup_cons] at hnodup
          simp only [List.tail_cons, List.head?_cons, List.mem_cons, ne_eq, Option.some.injEq]
          constructor
          · exact fun hm => ⟨.inr hm, fun he => hnodup.1 (he ▸ hm)⟩
          · rintro ⟨rfl | hm, hne⟩
            · exact absurd rfl hne
            · exact hm
      pending := k.pending x
      apart := k.apart x
      link := fun hx => hx ▸ ⟨k.links, k.protection⟩ }

theorem Seats.authoritySound (k : Seats s s.holder) (hu : s.arbiter.stack = [] → s.arbiter.waiting = []) :
    AuthoritySound s where
  holding x := (k.seated x).holding
  suspended x := by
    have hnodup := k.nodup
    rw [(k.seated x).suspended]
    unfold State.holder
    cases hst : s.arbiter.stack with
    | nil => simp
    | cons a l =>
      rw [hst, List.nodup_cons] at hnodup
      simp only [List.tail_cons, List.head?_cons, List.mem_cons, ne_eq, Option.some.injEq]
      constructor
      · rintro ⟨rfl | hm, hne⟩
        · exact absurd rfl hne
        · exact hm
      · exact fun hm => ⟨.inr hm, fun he => hnodup.1 (he ▸ hm)⟩
  pending x := (k.seated x).pending
  out x := (k.seated x).sound.out
  stackOrder := k.stackOrder
  waitingOrder := k.waitingOrder
  links := ((k.seated .protection).link rfl).1
  apart x := (k.seated x).apart
  unheld := hu
  matched x := (k.seated x).sound.matched
  held x := (k.seated x).sound.held
  matching x := (k.seated x).sound.matching
  requests x := (k.seated x).sound.request
  protection := ((k.seated .protection).link rfl).2

/-! ## A push -/

theorem State.setTopAside_entry (s : State) (y : Source) :
    s.setTopAside.entry y = if s.holder = some y then (s.entry y).setAside else s.entry y := by
  unfold State.setTopAside
  split
  · rename_i hn
    simp [hn]
  · rename_i z hz
    rw [hz]
    by_cases hy : y = z
    · subst hy
      rw [if_pos rfl]
      exact PerSource.get_set_self _ _ _
    · rw [if_neg fun k => hy (Option.some.inj k).symm]
      exact PerSource.get_set_ne _ _ hy

theorem State.pushSource_entry_self (hx : s.holder ≠ some x) :
    (s.pushSource x).entry x = (s.entry x).gain s.stepper.granted := by
  have h1 : (s.pushSource x).entry x = (s.setTopAside.entry x).gain s.setTopAside.stepper.granted :=
    PerSource.get_set_self _ _ _
  rw [h1, State.setTopAside_entry, if_neg hx, s.setTopAside_only.stepper]

theorem State.pushSource_entry_ne (hy : y ≠ x) :
    (s.pushSource x).entry y = if s.holder = some y then (s.entry y).setAside else s.entry y := by
  have h1 : (s.pushSource x).entry y = s.setTopAside.entry y := PerSource.get_set_ne _ _ hy
  rw [h1, State.setTopAside_entry]

/-- A source that may be pushed: outside both collections, of higher rank than all of the stack, its entry fit to gain. -/
structure MayPush (s : State) (x : Source) : Prop where
  stack : x ∉ s.arbiter.stack
  waiting : x ∉ s.arbiter.waiting
  rank : ∀ y ∈ s.arbiter.stack, s.rank x < s.rank y
  request : (s.entry x).request ≤ 8
  link : x = .protection → (s.entry x).request = 0 ∧ (s.entry x).permission = .forbid

theorem mem_of_holder (hx : s.holder = some x) : x ∈ s.arbiter.stack := List.mem_of_mem_head? hx

theorem MayPush.seats (hp : MayPush s x) (k : Ordered s h) (hs : ∀ y ≠ x, SeatedAt s h y) :
    Seats (s.pushSource x) (some x) ∧ (s.pushSource x).holder = some x := by
  obtain ⟨hst, hw⟩ := s.pushSource_stack x
  have hrank : (s.pushSource x).rank = s.rank :=
    funext (State.rank_of_settings (congrArg Store.settings (s.pushSource_only x).store))
  have hnotop : s.holder ≠ some x := fun he => hp.stack (mem_of_holder he)
  have hself := State.pushSource_entry_self hnotop
  obtain ⟨hpl, hrq, hpm, -⟩ := (s.entry x).gain_spec s.stepper.granted
  have hholder : (s.pushSource x).holder = some x := by unfold State.holder; rw [hst]; rfl
  refine ⟨⟨⟨.inr hholder.symm, ?_, ?_⟩, fun y => ?_⟩, hholder⟩
  · rw [hst, hrank]
    exact List.pairwise_cons.mpr ⟨hp.rank, k.stackOrder⟩
  · rw [hw, hrank]
    exact k.waitingOrder
  by_cases hy : y = x
  · subst hy
    refine ⟨?_, ?_, ?_, ?_, ?_, fun hq => ?_⟩
    · rw [hself]
      exact Entry.gain_sound _ hp.request
    · rw [hself, hpl]
      simp
    · rw [hself, hpl]
      simp
    · rw [hself, hpl, hw]
      simpa using hp.waiting
    · rw [hw]
      exact fun hm => absurd hm hp.waiting
    · rw [hself, hrq, hpm, hw]
      exact ⟨hp.waiting, hp.link hq⟩
  · have hmem : y ∈ (s.pushSource x).arbiter.stack ↔ y ∈ s.arbiter.stack := by
      rw [hst, List.mem_cons]
      exact or_iff_right hy
    have hxy : some x ≠ some y := fun he => hy (Option.some.inj he).symm
    by_cases htop : s.holder = some y
    · have he : (s.pushSource x).entry y = (s.entry y).setAside := by
        rw [State.pushSource_entry_ne hy, if_pos htop]
      have hin := mem_of_holder htop
      have hnw : y ∉ s.arbiter.waiting := fun hm => (hs y hy).apart hm hin
      refine ⟨?_, ?_, ?_, ?_, ?_, fun hq => ?_⟩
      · rw [he]
        exact Entry.setAside_sound (hs y hy).sound.request
      · rw [he]
        simp [Entry.setAside, hxy]
      · rw [he, hmem]
        simp [Entry.setAside, hin, hxy]
      · rw [he, hw]
        simp [Entry.setAside, hnw]
      · rw [hw]
        exact fun hm => absurd hm hnw
      · rw [he, hw]
        exact (hs y hy).link hq
    · refine (hs y hy).of_same ?_ hmem (by rw [hw]) ?_
      · rw [State.pushSource_entry_ne hy, if_neg htop]
      · constructor
        · exact fun he => absurd he hxy
        · rintro rfl
          rcases k.top with he | he
          · cases he
          · exact absurd he.symm htop

/-! ## An insertion and a removal -/

theorem State.mem_insertByRank (s : State) (x y : Source) (l : List Source) :
    y ∈ s.insertByRank x l ↔ y = x ∨ y ∈ l := by
  induction l with
  | nil => simp [State.insertByRank]
  | cons z rest ih =>
    unfold State.insertByRank
    split
    · simp
    · simp only [List.mem_cons, ih]
      tauto

theorem State.insertByRank_pairwise (s : State) (x : Source) {l : List Source} (hne : ∀ y ∈ l, s.rank y ≠ s.rank x)
    (hl : l.Pairwise fun a b => s.rank a < s.rank b) :
    (s.insertByRank x l).Pairwise fun a b => s.rank a < s.rank b := by
  induction l with
  | nil => simp [State.insertByRank]
  | cons z rest ih =>
    obtain ⟨hz, hrest⟩ := List.pairwise_cons.mp hl
    unfold State.insertByRank
    split
    · rename_i hlt
      have hlt' : s.rank x < s.rank z := by simpa [State.outranks] using hlt
      refine List.pairwise_cons.mpr ⟨fun y hy => ?_, hl⟩
      rcases List.mem_cons.mp hy with rfl | hm
      · exact hlt'
      · exact hlt'.trans (hz y hm)
    · rename_i hle
      have hlt : s.rank z < s.rank x := by
        have h1 : ¬ s.rank x < s.rank z := by simpa [State.outranks] using hle
        have h2 := hne z List.mem_cons_self
        omega
      refine List.pairwise_cons.mpr ⟨fun y hy => ?_, ih (fun y hy => hne y (List.mem_cons_of_mem _ hy)) hrest⟩
      rcases (s.mem_insertByRank x y rest).mp hy with rfl | hm
      · exact hlt
      · exact hz y hm

/-- A source joins the Pending List with its request set. -/
theorem Seats.pend (k : Seats s h) (hx : x ≠ .protection) (hout : (s.entry x).place = .out) {n : Nat} (hn : n ≤ 8)
    (hne : ∀ y ∈ s.arbiter.waiting, s.rank y ≠ s.rank x) :
    Seats ((s.withEntry x { s.entry x with request := n }).pend x) h := by
  have hreset := (k.seated x).sound.out hout
  have hnstack : x ∉ s.arbiter.stack := fun hm => by
    by_cases hh : h = some x
    · rw [(k.seated x).holding.mpr hh] at hout; cases hout
    · rw [(k.seated x).suspended.mpr ⟨hm, hh⟩] at hout; cases hout
  have hnh : h ≠ some x := fun hh => by rw [(k.seated x).holding.mpr hh] at hout; cases hout
  have hself : ((s.withEntry x { s.entry x with request := n }).pend x).entry x = ⟨.pending, n, none, none, .forbid⟩ := by
    have h1 : ((s.withEntry x { s.entry x with request := n }).pend x).entry x =
        { (s.withEntry x { s.entry x with request := n }).entry x with place := .pending } := PerSource.get_set_self _ _ _
    have h2 : (s.withEntry x { s.entry x with request := n }).entry x = { s.entry x with request := n } :=
      PerSource.get_set_self _ _ _
    rw [h1, h2, hreset]
    rfl
  have hmem (y : Source) : y ∈ ((s.withEntry x { s.entry x with request := n }).pend x).arbiter.waiting ↔
      y = x ∨ y ∈ s.arbiter.waiting := State.mem_insertByRank _ x y _
  refine ⟨⟨k.top, k.stackOrder, State.insertByRank_pairwise (s.withEntry x _) x hne k.waitingOrder⟩, fun y => ?_⟩
  by_cases hy : y = x
  · subst hy
    refine ⟨?_, ?_, ?_, ?_, fun _ => hnstack, fun hq => absurd hq hx⟩
    · rw [hself]
      constructor <;> simp [hn]
    · rw [hself]
      simpa using hnh
    · rw [hself]
      exact ⟨fun hc => (by cases hc), fun hc => absurd hc.1 hnstack⟩
    · rw [hself, hmem]
      simp
  · refine (k.seated y).of_same ?_ Iff.rfl (by rw [hmem, or_iff_right hy]) Iff.rfl
    exact (PerSource.get_set_ne _ _ hy).trans (PerSource.get_set_ne _ _ hy)

/-- A source taken out of both collections; it holds no more. -/
theorem Seats.removeSource (k : Seats s h) (x : Source) (hh : h = some x → h' = none) (hh' : h ≠ some x → h' = h) :
    Seats (s.removeSource x) h' := by
  have hself : (s.removeSource x).entry x = Entry.reset := PerSource.get_set_self _ _ _
  have hnx : h' ≠ some x := by
    by_cases hx : h = some x
    · rw [hh hx]; simp
    · rwa [hh' hx]
  have hstack : (s.removeSource x).arbiter.stack = s.arbiter.stack.filter (· != x) := rfl
  have hwait : (s.removeSource x).arbiter.waiting = s.arbiter.waiting.filter (· != x) := rfl
  refine ⟨⟨?_, ?_, ?_⟩, fun y => ?_⟩
  · by_cases hx : h = some x
    · exact .inl (hh hx)
    · rw [hh' hx]
      refine k.top.imp id fun htop => ?_
      unfold State.holder at htop ⊢
      rw [hstack, htop]
      cases hs : s.arbiter.stack with
      | nil => rfl
      | cons a l =>
        rw [hs] at htop
        have hax : a ≠ x := fun he => hx (by rw [htop, he]; rfl)
        simp [hax]
  · rw [hstack]
    exact k.stackOrder.filter _
  · rw [hwait]
    exact k.waitingOrder.filter _
  · by_cases hy : y = x
    · subst hy
      refine ⟨?_, ?_, ?_, ?_, ?_, fun hq => ?_⟩
      · rw [hself]
        exact Entry.reset_sound
      · rw [hself]
        simpa [Entry.reset] using hnx
      · rw [hself, hstack]
        simp [Entry.reset]
      · rw [hself, hwait]
        simp [Entry.reset]
      · rw [hwait]
        simp
      · rw [hself, hwait]
        simp [Entry.reset]
    · refine (k.seated y).of_same (PerSource.get_set_ne _ _ hy) (by rw [hstack]; simp [hy]) (by rw [hwait]; simp [hy]) ?_
      by_cases hx : h = some x
      · rw [hh hx, hx]
        simp [Ne.symm hy]
      · rw [hh' hx]

/-- The new top gains authority. -/
theorem Seats.gain (k : Seats s none) (hx : s.holder = some x) : Seats (s.gain x) (some x) ∧ (s.gain x).holder = some x := by
  have hself : (s.gain x).entry x = (s.entry x).gain s.stepper.granted := PerSource.get_set_self _ _ _
  obtain ⟨hpl, hrq, hpm, -⟩ := (s.entry x).gain_spec s.stepper.granted
  have hin := mem_of_holder hx
  have hnw : x ∉ s.arbiter.waiting := fun hm => (k.seated x).apart hm hin
  refine ⟨⟨⟨.inr hx.symm, k.stackOrder, k.waitingOrder⟩, fun y => ?_⟩, hx⟩
  by_cases hy : y = x
  · subst hy
    refine ⟨?_, ?_, ?_, ?_, (k.seated y).apart, fun hq => ?_⟩
    · rw [hself]
      exact Entry.gain_sound _ (k.seated y).sound.request
    · rw [hself, hpl]
      simp
    · rw [hself, hpl]
      simp
    · rw [hself, hpl]
      exact ⟨fun hc => (by cases hc), fun hm => absurd hm hnw⟩
    · rw [hself, hrq, hpm]
      exact (k.seated y).link hq
  · refine (k.seated y).of_same (PerSource.get_set_ne _ _ hy) Iff.rfl Iff.rfl ?_
    simp [Ne.symm hy]

theorem Seats.rank_head (k : Ordered s h) (hx : s.holder = some x) (hy : y ∈ s.arbiter.stack) :
    y = x ∨ s.rank x < s.rank y := by
  unfold State.holder at hx
  have ho := k.stackOrder
  cases hs : s.arbiter.stack with
  | nil => rw [hs] at hx; cases hx
  | cons a l =>
    rw [hs] at hx ho hy
    cases hx
    exact (List.mem_cons.mp hy).imp id ((List.pairwise_cons.mp ho).1 y)

/-- The highest pending source is promoted over a top that it outranks, or onto an empty stack. -/
theorem Seats.promote (k : Seats s none) {p : Source} (hp : p ∈ s.arbiter.waiting)
    (hr : ∀ t : Source, s.holder = some t → s.rank p < s.rank t) :
    Seats (s.promote p) (some p) ∧ (s.promote p).holder = some p := by
  have hentry := k.seated p
  have hlink : p ≠ .protection := fun hq => (hentry.link hq).1 hp
  have hfilter {y : Source} (hy : y ≠ p) : y ∈ s.arbiter.waiting.filter (· != p) ↔ y ∈ s.arbiter.waiting := by simp [hy]
  refine MayPush.seats (s := s.withWaiting (s.arbiter.waiting.filter (· != p))) (h := none)
    ⟨hentry.apart hp, ?_, fun y hy => ?_, hentry.sound.request, fun hq => absurd hq hlink⟩
    ⟨.inl rfl, k.stackOrder, k.waitingOrder.filter _⟩
    fun y hy => (k.seated y).of_same rfl Iff.rfl (hfilter hy) Iff.rfl
  · simp
  · change y ∈ s.arbiter.stack at hy
    cases hh : s.holder with
    | none =>
      unfold State.holder at hh
      rw [List.head?_eq_none_iff.mp hh] at hy
      cases hy
    | some t =>
      rcases Seats.rank_head k.toOrdered hh hy with rfl | hlt
      · exact hr y hh
      · exact (hr t hh).trans hlt

/-- After the holder has gone, the rule of resumption seats the next one (R20). -/
theorem Seats.resumeHolder (k : Seats s none) :
    Seats s.resumeHolder s.resumeHolder.holder ∧
      (s.resumeHolder.arbiter.stack = [] → s.resumeHolder.arbiter.waiting = []) := by
  have held {t : State} {x : Source} (ht : Seats t (some x) ∧ t.holder = some x) :
      Seats t t.holder ∧ (t.arbiter.stack = [] → t.arbiter.waiting = []) := by
    refine ⟨ht.2.symm ▸ ht.1, fun hn => ?_⟩
    have := mem_of_holder ht.2
    rw [hn] at this
    cases this
  unfold State.resumeHolder
  split
  · rename_i p hp ht
    exact held (k.promote (List.mem_of_mem_head? hp) fun t hh => by rw [State.holder, ht] at hh; cases hh)
  · rename_i p t hp ht
    split
    · rename_i ho
      refine held (k.promote (List.mem_of_mem_head? hp) fun t' hh => ?_)
      rw [State.holder, ht] at hh
      cases hh
      simpa [State.outranks] using ho
    · exact held (k.gain ht)
  · rename_i t hp ht
    exact held (k.gain ht)
  · rename_i hp ht
    exact ⟨by rw [State.holder, ht]; exact k, fun _ => List.head?_eq_none_iff.mp hp⟩

end

end Sys2Proof.Machine
end

section
/-! The Arbiter through claims, releases, lapses and trips, whatever command is taken: O55, and PROTECTION with the Trip
List: O56. -/

namespace Sys2Proof.Machine

/-! ## Ranks -/

section

variable {s t : State} {x y : Source}

theorem Source.exists_link {x : Source} (h : x ≠ .protection) : ∃ l : Link, x = sourceOf l := by
  cases x with
  | cab => exact ⟨.cab, rfl⟩
  | consist => exact ⟨.consist, rfl⟩
  | remote => exact ⟨.remote, rfl⟩
  | shop => exact ⟨.shop, rfl⟩
  | protection => exact absurd rfl h

theorem State.rank_sourceOf (s : State) (l : Link) : s.rank (sourceOf l) = s.settings.get (rankSetting l) := by
  cases l <;> rfl

theorem Setting.inRange_rank {l : Link} {v : Nat} (h : (rankSetting l).inRange v = true) : 1 ≤ v ∧ v ≤ 6 := by
  cases l <;> simpa [rankSetting, Setting.inRange] using h

theorem StoreSound.rank_pos (h : StoreSound s) (hx : x ≠ .protection) : 0 < s.rank x := by
  obtain ⟨l, rfl⟩ := Source.exists_link hx
  rw [State.rank_sourceOf]
  exact (Setting.inRange_rank (h.settings (rankSetting l))).1

theorem StoreSound.rank_ne (h : StoreSound s) (hxy : x ≠ y) : s.rank x ≠ s.rank y := by
  by_cases hx : x = .protection
  · subst hx
    exact (h.rank_pos (Ne.symm hxy)).ne
  · by_cases hy : y = .protection
    · subst hy
      exact (h.rank_pos hx).ne'
    · obtain ⟨l, rfl⟩ := Source.exists_link hx
      obtain ⟨m, rfl⟩ := Source.exists_link hy
      rw [State.rank_sourceOf, State.rank_sourceOf]
      exact h.ranks l m fun hlm => hxy (by rw [hlm])

/-- The Arbiter and the stores sound. -/
structure Governed (s : State) : Prop where
  authority : AuthoritySound s
  store : StoreSound s

/-- PROTECTION in the stack is its top: no source outranks it. -/
theorem Governed.protection_mem (h : Governed s) :
    Source.protection ∈ s.arbiter.stack ↔ s.holder = some .protection := by
  refine ⟨fun hm => ?_, mem_of_holder⟩
  cases hh : s.holder with
  | none =>
    rw [List.head?_eq_none_iff.mp hh] at hm
    cases hm
  | some x =>
    rcases Seats.rank_head h.authority.seats.toOrdered hh hm with he | hlt
    · rw [he]
    · exact absurd hlt (by simp [State.rank])

theorem Governed.holdsTrips_iff (h : Governed s) :
    ProtectionHoldsTrips s ↔ (s.monitor.trips ≠ [] ↔ Source.protection ∈ s.arbiter.stack) := by
  unfold ProtectionHoldsTrips
  rw [h.protection_mem]

theorem AuthoritySound.not_mem_of_out (h : AuthoritySound s) (ho : (s.entry x).place = .out) :
    x ∉ s.arbiter.stack ∧ x ∉ s.arbiter.waiting := by
  have hx := h.seats.seated x
  constructor
  · intro hm
    by_cases hh : s.holder = some x
    · rw [hx.holding.mpr hh] at ho; cases ho
    · rw [hx.suspended.mpr ⟨hm, hh⟩] at ho; cases ho
  · intro hm
    rw [hx.pending.mpr hm] at ho
    cases ho

/-! ## A claim -/

theorem AuthoritySound.of_held (h : Seats t (some x) ∧ t.holder = some x) : AuthoritySound t := by
  obtain ⟨hs, hh⟩ := h
  refine Seats.authoritySound (hh.symm ▸ hs) fun hn => ?_
  have := mem_of_holder hh
  rw [hn] at this
  cases this

theorem Governed.claimEffect (h : Governed s) (hx : x ≠ .protection) (ho : (s.entry x).place = .out) {n : Nat}
    (hn : n ≤ 8) : AuthoritySound (s.claimEffect x n) ∧
      (Source.protection ∈ (s.claimEffect x n).arbiter.stack ↔ Source.protection ∈ s.arbiter.stack) := by
  obtain ⟨hns, hnw⟩ := h.authority.not_mem_of_out ho
  have k := h.authority.seats
  have hpush (hr : ∀ y ∈ s.arbiter.stack, s.rank x < s.rank y) :
      AuthoritySound ((s.withEntry x { s.entry x with request := n }).pushSource x) ∧
        (Source.protection ∈ ((s.withEntry x { s.entry x with request := n }).pushSource x).arbiter.stack ↔
          Source.protection ∈ s.arbiter.stack) := by
    constructor
    · refine AuthoritySound.of_held (MayPush.seats (h := s.holder) ⟨hns, hnw, hr, ?_, fun hq => absurd hq hx⟩ ?_
        fun y hy => (k.seated y).of_same (PerSource.get_set_ne _ _ hy) Iff.rfl Iff.rfl Iff.rfl)
      · rw [show (s.withEntry x { s.entry x with request := n }).entry x = { s.entry x with request := n } from
          PerSource.get_set_self _ _ _]
        exact hn
      · exact k.toOrdered.of_lists rfl rfl rfl
    · rw [(State.pushSource_stack _ x).1, List.mem_cons]
      exact or_iff_right (Ne.symm hx)
  unfold State.claimEffect
  split
  · rename_i hh
    refine hpush fun y hy => ?_
    rw [List.head?_eq_none_iff.mp hh] at hy
    cases hy
  · rename_i top hh
    split
    · rename_i hlt
      refine hpush fun y hy => ?_
      have hlt' : s.rank x < s.rank top := by simpa [State.outranks] using hlt
      rcases Seats.rank_head k.toOrdered hh hy with rfl | hlt''
      · exact hlt'
      · exact hlt'.trans hlt''
    · refine ⟨Seats.authoritySound (k.pend hx ho hn fun y hy => ?_) fun hst => ?_, Iff.rfl⟩
      · exact h.store.rank_ne fun he => hnw (he ▸ hy)
      · have hm := mem_of_holder hh
        rw [show s.arbiter.stack = [] from hst] at hm
        cases hm

/-! ## A release -/

theorem State.resumeHolder_mem (hy : y ∉ s.arbiter.waiting) :
    y ∈ s.resumeHolder.arbiter.stack ↔ y ∈ s.arbiter.stack := by
  have hpromote {p : Source} (hp : s.arbiter.waiting.head? = some p) :
      y ∈ (s.promote p).arbiter.stack ↔ y ∈ s.arbiter.stack := by
    have hne : y ≠ p := fun he => hy (he ▸ List.mem_of_mem_head? hp)
    rw [State.promote, (State.pushSource_stack _ p).1, List.mem_cons]
    exact or_iff_right hne
  unfold State.resumeHolder
  split
  · exact hpromote ‹_›
  · split
    · exact hpromote ‹_›
    · exact Iff.rfl
  · exact Iff.rfl
  · exact Iff.rfl

theorem AuthoritySound.releaseSource (h : AuthoritySound s) (x : Source) :
    AuthoritySound (s.releaseSource x) ∧
      (Source.protection ∈ (s.releaseSource x).arbiter.stack ↔
        Source.protection ∈ s.arbiter.stack ∧ x ≠ .protection) := by
  have k := h.seats
  have hstack : (s.removeSource x).arbiter.stack = s.arbiter.stack.filter (· != x) := rfl
  have hmem : Source.protection ∈ (s.removeSource x).arbiter.stack ↔
      Source.protection ∈ s.arbiter.stack ∧ x ≠ .protection := by
    rw [hstack, List.mem_filter, bne_iff_ne]
    exact and_congr_right fun _ => ne_comm
  have hleave (hn : s.holder ≠ some x) : AuthoritySound (s.removeSource x) := by
    have hr := k.removeSource (h' := s.holder) x (fun he => absurd he hn) fun _ => rfl
    have hholder : (s.removeSource x).holder = s.holder := by
      unfold State.holder at hn ⊢
      rw [hstack]
      cases hs : s.arbiter.stack with
      | nil => rfl
      | cons a l =>
        rw [hs] at hn
        have hax : a ≠ x := fun he => hn (by rw [he]; rfl)
        simp [hax]
    refine Seats.authoritySound (hholder.symm ▸ hr) fun hnil => ?_
    have hnone : s.holder = none := by rw [← hholder, State.holder, hnil]; rfl
    have hw := h.unheld (List.head?_eq_none_iff.mp hnone)
    show s.arbiter.waiting.filter _ = []
    rw [hw]
    rfl
  unfold State.releaseSource
  split <;> rename_i hpl
  · refine ⟨h, ?_⟩
    obtain ⟨hns, -⟩ := h.not_mem_of_out hpl
    exact ⟨fun hm => ⟨hm, fun he => hns (he ▸ hm)⟩, And.left⟩
  · exact ⟨hleave fun he => (by rw [(h.holding x).mpr he] at hpl; cases hpl), hmem⟩
  · exact ⟨hleave fun he => (by rw [(h.holding x).mpr he] at hpl; cases hpl), hmem⟩
  · have hr := k.removeSource (h' := none) x (fun _ => rfl) fun hn => absurd ((h.holding x).mp hpl) hn
    obtain ⟨hs, hu⟩ := hr.resumeHolder
    refine ⟨hs.authoritySound hu, ?_⟩
    rw [State.resumeHolder_mem ((hr.seated .protection).link rfl).1, hmem]

/-! ## PROTECTION's claim -/

theorem Governed.protectionClaim (h : Governed s) :
    AuthoritySound s.protectionClaim ∧ Source.protection ∈ s.protectionClaim.arbiter.stack := by
  unfold State.protectionClaim
  split
  · rename_i hp
    exact ⟨h.authority, mem_of_holder ((h.authority.holding _).mp hp)⟩
  · rename_i hp
    have k := h.authority.seats
    have hns : Source.protection ∉ s.arbiter.stack := fun hm =>
      hp ((h.authority.holding _).mpr (h.protection_mem.mp hm))
    refine ⟨AuthoritySound.of_held (x := .protection) (MayPush.seats (h := s.holder) ⟨hns, h.authority.links, ?_, ?_, ?_⟩
      (k.toOrdered.of_lists rfl rfl rfl) fun y hy => (k.seated y).of_same (PerSource.get_set_ne _ _ hy) Iff.rfl Iff.rfl
        Iff.rfl), ?_⟩
    · exact fun y hy => h.store.rank_pos fun he => hns (he ▸ hy)
    · exact Nat.zero_le _
    · exact fun _ => ⟨rfl, rfl⟩
    · rw [(State.pushSource_stack _ _).1]
      exact List.mem_cons_self

end

/-! ## What a change keeps -/

section

variable {s t u v : State}

/-- A change keeps the Arbiter and the stores sound, and PROTECTION with the Trip List. -/
def Keeps (s t : State) : Prop := Governed s → Governed t ∧ (ProtectionHoldsTrips s → ProtectionHoldsTrips t)

theorem Keeps.trans (h : Keeps s t) (k : Keeps t u) : Keeps s u := fun hs =>
  ⟨(k (h hs).1).1, fun hp => (k (h hs).1).2 ((h hs).2 hp)⟩

/-- A change of the Arbiter that leaves PROTECTION where it stands. -/
theorem Keeps.of_authority (hc : Governed s → sameContents s t) (ha : Governed s → AuthoritySound t)
    (hp : Governed s → (Source.protection ∈ t.arbiter.stack ↔ Source.protection ∈ s.arbiter.stack))
    (ht : t.monitor.trips = [] ↔ s.monitor.trips = []) : Keeps s t := fun hs => by
  have hg : Governed t := ⟨ha hs, hs.store.of_sameContents (hc hs)⟩
  refine ⟨hg, fun hh => ?_⟩
  rw [hg.holdsTrips_iff, hp hs, ne_eq, ht]
  exact hs.holdsTrips_iff.mp hh

theorem AuthoritySound.of_same (h : AuthoritySound s) (ha : t.arbiter = s.arbiter) (hs : t.settings = s.settings) :
    AuthoritySound t := by
  refine Seats.authoritySound ?_ (by rw [ha]; exact h.unheld)
  rw [show t.holder = s.holder by unfold State.holder; rw [ha]]
  exact h.seats.of_same ha hs

/-- A change that leaves the Arbiter, the contents of the stores and whether a trip is listed. -/
theorem Keeps.of_same (ha : t.arbiter = s.arbiter) (hc : sameContents s t)
    (ht : t.monitor.trips = [] ↔ s.monitor.trips = []) : Keeps s t :=
  .of_authority (fun _ => hc) (fun h => h.authority.of_same ha hc.2.1) (fun _ => by rw [ha]) ht

theorem Keeps.refl (s : State) : Keeps s s := fun h => ⟨h, id⟩

theorem Keeps.of_driven (h : Driven s t) : Keeps s t := .of_same h.arbiter h.frame.contents (by rw [h.trips])

/-- Onsets with their trip: where they begin one, PROTECTION claims. -/
theorem Keeps.withTrip {onsets : State → State} (hm : MonitorAndMarks s (onsets s)) (hf : Frame s (onsets s))
    (hp : s.monitor.trips <+: (onsets s).monitor.trips) : Keeps s (s.withTrip onsets) := by
  unfold State.withTrip
  dsimp only
  split
  · rename_i hc
    intro hs
    obtain ⟨hfe, hmon, -, harb⟩ := (onsets s).engineTrip_driven
    have ha1 : (onsets s).engineTrip.arbiter = s.arbiter := by rw [harb, hm]
    have hg1 : Governed (onsets s).engineTrip :=
      ⟨hs.authority.of_same ha1 (hf.trans hfe).settings, hs.store.of_sameContents (hf.trans hfe).contents⟩
    obtain ⟨hauth, hmem⟩ := hg1.protectionClaim
    have hg : Governed (onsets s).deliverTrip :=
      ⟨hauth, hs.store.of_sameContents (State.deliverTrip_frame hf).contents⟩
    refine ⟨hg, fun _ => hg.holdsTrips_iff.mpr ⟨fun _ => hmem, fun _ => ?_⟩⟩
    rw [State.deliverTrip, (State.protectionClaim_only _).monitor, hmon]
    exact hc.2
  · rename_i hc
    refine .of_same (by rw [hm]) hf.contents ⟨fun k => List.prefix_nil.mp (k ▸ hp), fun k => ?_⟩
    exact not_not.mp fun k' => hc ⟨k, k'⟩

theorem Keeps.rearmOnce (s : State) : Keeps s s.rearmOnce := by
  unfold State.rearmOnce
  split
  · exact .refl s
  · rename_i st hst
    split
    · exact .refl s
    · have hm := MonitorOnly.foldl (State.rearmChannel_only st) Channel.order s
      refine .withTrip ?_ ?_ (State.foldl_trips_prefix (State.rearmChannel_trips_prefix st) _ s)
      · unfold MonitorAndMarks
        rw [hm]
      · exact Frame.foldl (fun v c k => State.rearmChannel_frame st c k) _ (Frame.refl s)

theorem Keeps.rearm (s : State) : Keeps s s.rearm := (Keeps.rearmOnce s).trans (Keeps.rearmOnce _)

theorem Keeps.close (before s : State) : Keeps s (before.close s) :=
  .of_same (by simp) (before.close_frame s).contents (by simp)

theorem Keeps.settle (before : State) (judged : Bool) (s : State) : Keeps s (before.settle judged s) := by
  rw [State.settle_eq_close]
  refine Keeps.trans ?_ (Keeps.close before _)
  unfold State.rearmed
  split
  · exact ((Keeps.rearm s).trans (.of_driven (Driven.refl _).judgeWake)).trans (Keeps.rearm _)
  · exact Keeps.rearm s

theorem Keeps.releaseLink (s : State) (l : Link) : Keeps s (s.releaseSource (sourceOf l)) :=
  .of_authority (fun _ => (State.releaseSource_frame _ (Frame.refl s)).contents)
    (fun h => (h.authority.releaseSource _).1)
    (fun h => by rw [(h.authority.releaseSource _).2]; exact and_iff_left (sourceOf_ne_protection l))
    (by rw [(s.releaseSource_only _).monitor])

theorem Keeps.monitorScan (s : State) : Keeps s s.monitorScan := by
  rw [State.monitorScan_eq]
  refine .withTrip (s.scanOnsets_only _) ?_ (State.scanOnsets_trips_prefix _ s)
  have h1 : Frame s ((Channel.thresholds.foldl State.evaluate s).marked s.scanLookups) :=
    State.marked_frame _ (Frame.foldl (fun v c k => State.evaluate_frame c k) _ (Frame.refl s))
  unfold State.scanOnsets
  split
  · exact State.latchFault_frame h1
  · exact h1

theorem Keeps.monitorQuality (s : State) (was : SpeedQuality) : Keeps s (s.monitorQuality was) := by
  have hm := s.monitorQuality_only was
  refine .of_same hm.arbiter (State.monitorQuality_frame was (Frame.refl s)).contents ?_
  unfold State.monitorQuality
  split_ifs
  · exact Iff.rfl
  · rw [s.onset_trips _ (by decide)]
  · exact Iff.rfl
  · exact Iff.rfl

theorem Keeps.monitorInput (s : State) (i : Input) : Keeps s (s.monitorInput i) := by
  unfold State.monitorInput
  split
  · exact .refl s
  · rename_i c _
    split_ifs
    · exact .refl s
    · exact .withTrip (by unfold MonitorAndMarks; rw [s.onset_only c]) (State.onset_frame c (Frame.refl s))
        (s.onset_trips_prefix c)
    · exact .of_same rfl (sameContents_refl s) Iff.rfl
    · exact .refl s

theorem State.chooseState_stands (s : State) :
    s.chooseState.arbiter = s.arbiter ∧ s.chooseState.monitor = s.monitor := by
  unfold State.chooseState
  dsimp only
  split_ifs <;> simp [State.enterRunning, State.enterRundown]

theorem Keeps.takeMeasurement (s : State) (was : SpeedQuality) : Keeps s (s.takeMeasurement was) := by
  cases ha : s.engine.awaitingChoice with
  | true =>
    obtain ⟨harb, hmon⟩ := s.chooseState_stands
    unfold State.takeMeasurement
    rw [if_pos ha]
    exact .of_same harb (State.chooseState_frame (Frame.refl s)).contents (by rw [hmon])
  | false => exact .of_driven ((Driven.refl s).takeMeasurement was ha)

theorem EventOf.keeps {w : State} {judged : Bool} (he : EventOf u judged w) : Keeps u w := by
  have hdrop : Driven u u.dropPhaseTimer := (Driven.refl u).withSequencer _
  have hsame {t : State} (ha : t.arbiter = u.arbiter) (hs : t.store = u.store) (hm : t.monitor.trips = u.monitor.trips) :
      Keeps u t := .of_same ha (sameContents_of_store hs) (by rw [hm])
  cases he with
  | scan raw =>
    exact ((hsame (t := u.takeScan raw) rfl rfl rfl).trans (Keeps.monitorScan _)).trans
      (.of_driven (Driven.refl _).lubeComparison)
  | measurement =>
    exact ((hsame (t := u.measure) rfl rfl rfl).trans (Keeps.monitorQuality _ _)).trans (Keeps.takeMeasurement _ _)
  | filterChange i =>
    have h1 := (hsame (t := u.withInput i (u.frontEnd.inputs.get i).settleFilter) rfl rfl rfl).trans (Keeps.monitorInput _ i)
    unfold State.filterChange
    dsimp only
    split
    · exact h1.trans (.of_driven (Driven.refl _).judgeIsolation)
    · exact h1
  | lapse l =>
    have h1 := hsame (t := u.takeReport l) rfl rfl rfl
    unfold State.lapseEffect
    split
    · exact (h1.trans (Keeps.releaseLink _ l)).trans (.of_same rfl (sameContents_refl _) Iff.rfl)
    · exact h1
  | faultOnset _ =>
    refine (hsame (t := { u with monitor := { u.monitor with faultReported := false } }) rfl rfl rfl).trans ?_
    exact .of_same (State.latchFault_only _).arbiter (State.latchFault_frame (Frame.refl _)).contents
      (by rw [State.latchFault_trips])
  | prelubeEnd _ => exact .of_driven hdrop.prelubeCheck
  | crankEnd _ => exact .of_driven (hdrop.failAttempt _)
  | catchEnd _ => exact .of_driven (hdrop.failAttempt _)
  | restEnd _ => exact .of_driven hdrop.restTest
  | lubeWindowEnd _ => exact .of_driven (hdrop.endStart _)
  | warmEnd _ => exact .of_driven hdrop.warmCheck
  | lockoutEnd => exact hsame rfl rfl rfl
  | cooldownEnd _ => exact .of_driven (Driven.refl u).enterRundown
  | rundownEnd _ => exact .of_driven (Driven.refl u).endRundown
  | idleLimit => exact .of_driven (Driven.refl u).layupRequest
  | entryJudgement => exact hsame rfl rfl rfl

/-! ## The orders -/

/-- A rank is written only while SHOP is alone in the collections, which are then in order under any ranks. -/
theorem Governed.shopAlone_lists (h : Governed s) (hh : s.holder = some .shop) (ha : s.shopAlone = true) :
    s.arbiter.stack = [.shop] ∧ s.arbiter.waiting = [] := by
  have hout := (s.shopAlone_iff).mp ha
  have hshop {x : Source} (hx : x ∈ s.arbiter.stack ∨ x ∈ s.arbiter.waiting) (hne : x ≠ .protection) : x = .shop := by
    obtain ⟨l, rfl⟩ := Source.exists_link hne
    by_contra hl
    have hls : l ≠ .shop := fun he => hl (by rw [he]; rfl)
    rcases hx with hx | hx
    · exact (hout l hls).1 hx
    · exact (hout l hls).2 hx
  have hnp : Source.protection ∉ s.arbiter.stack := fun hm => by
    have := h.protection_mem.mp hm
    rw [hh] at this
    cases this
  have hnodup := h.authority.seats.nodup
  constructor
  · unfold State.holder at hh
    cases hs : s.arbiter.stack with
    | nil => rw [hs] at hh; cases hh
    | cons a l =>
      rw [hs] at hh hnodup
      cases hh
      congr 1
      refine List.eq_nil_iff_forall_not_mem.mpr fun x hx => ?_
      have hin : x ∈ s.arbiter.stack := by rw [hs]; exact List.mem_cons_of_mem _ hx
      have := hshop (.inl hin) fun he => hnp (he ▸ hin)
      exact (List.nodup_cons.mp hnodup).1 (this ▸ hx)
  · refine List.eq_nil_iff_forall_not_mem.mpr fun x hx => ?_
    have hxs := hshop (.inr hx) fun he => h.authority.links (he ▸ hx)
    exact h.authority.apart x hx (hxs ▸ mem_of_holder hh)

theorem State.writeAdmitted_link {l : Link} (ha : s.writeAdmitted l .link = true) :
    s.holder = some .shop ∧ s.shopAlone = true := by
  simp only [State.writeAdmitted, Bool.and_eq_true, decide_eq_true_eq] at ha
  exact ⟨ha.1.2, ha.2⟩

theorem Setting.group_rankSetting (m : Link) : (rankSetting m).group = .link := by cases m <;> rfl

/-- A write of a setting leaves the Arbiter; one of a rank finds SHOP alone. -/
theorem Governed.writeSetting (h : Governed s) {k : Setting} {n : Nat} {l : Link}
    (ha : s.writeAdmitted l k.group = true) : AuthoritySound (s.writeSetting k n) := by
  obtain ⟨-, -, -, -, -, harb, -, -⟩ := s.writeSetting_blocks k n
  have hset : (s.writeSetting k n).settings = s.settings.set k n := by
    show (s.writeSetting k n).store.settings = _
    rw [s.writeSetting_store k n]
  by_cases hk : ∃ m : Link, k = rankSetting m
  · obtain ⟨m, rfl⟩ := hk
    rw [Setting.group_rankSetting] at ha
    obtain ⟨hh, hal⟩ := State.writeAdmitted_link ha
    obtain ⟨hst, hw⟩ := h.shopAlone_lists hh hal
    have hholder : (s.writeSetting (rankSetting m) n).holder = s.holder := by unfold State.holder; rw [harb]
    refine Seats.authoritySound ⟨⟨.inr rfl, ?_, ?_⟩, fun y => ?_⟩ (by rw [harb]; exact h.authority.unheld)
    · rw [harb, hst]
      exact List.pairwise_singleton _ _
    · rw [harb, hw]
      exact List.Pairwise.nil
    · rw [hholder]
      exact (h.authority.seats.seated y).of_same (by unfold State.entry; rw [harb]) (by rw [harb]) (by rw [harb]) Iff.rfl
  · have hrank : (s.writeSetting k n).rank = s.rank := by
      funext y
      by_cases hy : y = .protection
      · rw [hy]; rfl
      · obtain ⟨m, rfl⟩ := Source.exists_link hy
        rw [State.rank_sourceOf, State.rank_sourceOf, hset]
        exact Settings.get_set_ne _ _ fun he => hk ⟨m, he.symm⟩
    have hholder : (s.writeSetting k n).holder = s.holder := by unfold State.holder; rw [harb]
    refine Seats.authoritySound ⟨⟨.inr rfl, ?_, ?_⟩, fun y => ?_⟩ (by rw [harb]; exact h.authority.unheld)
    · rw [harb, hrank]
      exact h.authority.stackOrder
    · rw [harb, hrank]
      exact h.authority.waitingOrder
    · rw [hholder]
      exact (h.authority.seats.seated y).of_same (by unfold State.entry; rw [harb]) (by rw [harb]) (by rw [harb]) Iff.rfl

/-- An entry of a link in the collections moved, its place kept. -/
theorem Governed.withEntry (h : Governed s) (l : Link) {e : Entry} (he : e.Sound)
    (hp : e.place = (s.entry (sourceOf l)).place) : AuthoritySound (s.withEntry (sourceOf l) e) :=
  Seats.authoritySound (h.authority.seats.withEntry e he hp fun hq => absurd hq (sourceOf_ne_protection l))
    h.authority.unheld

theorem Entry.showNotch_place (e : Entry) (n : Nat) : (e.showNotch n).place = e.place := by
  unfold Entry.showNotch
  split <;> rfl

theorem ActionEffect.keeps {l : Link} {w : State} (ha : ActionEffect l s w) : Keeps s w := by
  cases ha with
  | claim hn ho =>
    exact .of_authority (fun _ => (State.claimEffect_frame _ _ (Frame.refl s)).contents)
      (fun h => (h.claimEffect (sourceOf_ne_protection l) ho hn).1)
      (fun h => (h.claimEffect (sourceOf_ne_protection l) ho hn).2) (by rw [(s.claimEffect_only _ _).monitor])
  | release _ => exact Keeps.releaseLink s l
  | notch hn hin =>
    exact .of_authority (fun _ => sameContents_refl s)
      (fun h => h.withEntry l (((h.authority.seats.seated _).sound).showNotch hin hn) (Entry.showNotch_place _ _))
      (fun _ => Iff.rfl) Iff.rfl
  | start _ => exact .of_driven ((Driven.refl s).openStart _ _)
  | stop _ => exact .of_driven (Driven.refl s).stopEffect
  | cancelStart _ => exact .of_driven ((Driven.refl s).endStart _)
  | cancelCooldown _ => exact .of_driven (Driven.refl s).cancelCooldown
  | isolate on => exact .of_driven ((Driven.refl s).isolateEffect on)
  | layup p hin =>
    exact .of_authority (fun _ => sameContents_refl s)
      (fun h => h.withEntry l ((h.authority.seats.seated _).sound.withPermission hin p) rfl) (fun _ => Iff.rfl) Iff.rfl
  | tripReset ht _ =>
    intro h
    have h1 : Governed { s with monitor := { s.monitor with trips := [] } } :=
      ⟨h.authority.of_same rfl rfl, h.store.of_store rfl⟩
    obtain ⟨hauth, hmem⟩ := h1.authority.releaseSource .protection
    have ho := State.releaseSource_only { s with monitor := { s.monitor with trips := [] } } .protection
    have hg1 : Governed (State.releaseSource { s with monitor := { s.monitor with trips := [] } } .protection) :=
      ⟨hauth, h1.store.of_store ho.store⟩
    obtain ⟨hg, hk⟩ := Keeps.of_driven ((Driven.refl _).enter .stopped) hg1
    refine ⟨hg, fun _ => hk (hg1.holdsTrips_iff.mpr ?_)⟩
    rw [ho.monitor, hmem]
    simp
  | read => exact .refl s
  | @setting k n hv haw hr =>
    intro h
    obtain ⟨-, -, -, hmon, -, harb, -, -⟩ := s.writeSetting_blocks k n
    have hg : Governed (s.writeSetting k n) :=
      ⟨h.writeSetting haw, (ActionEffect.setting hv haw hr).storeSound h.store⟩
    refine ⟨hg, fun hp => ?_⟩
    rw [hg.holdsTrips_iff, hmon, harb]
    exact h.holdsTrips_iff.mp hp
  | @word n v hn haw =>
    intro h
    have hg : Governed (s.writeWordAt n v) := ⟨h.authority.of_same rfl rfl, (ActionEffect.word v hn haw).storeSound h.store⟩
    exact ⟨hg, fun hp => hg.holdsTrips_iff.mpr (h.holdsTrips_iff.mp hp)⟩
  | segment g hr haw =>
    intro h
    have hg : Governed (s.writeSegment g _ _ _) :=
      ⟨h.authority.of_same rfl rfl, (ActionEffect.segment g hr haw).storeSound h.store⟩
    exact ⟨hg, fun hp => hg.holdsTrips_iff.mpr (h.holdsTrips_iff.mp hp)⟩

theorem State.runActions_keep {l : Link} {as : List Sys2Proof.Action} {w : State}
    (h : State.runActions l 1 0 [] as s = .ok w) : Keeps s w :=
  State.runActions_keeps (P := Keeps s) (fun _ _ ha hk => hk.trans ha.keeps) h (.refl s)

/-! ## The resets and the steps -/

/-- Nobody in the collections: the Arbiter as after POWER-ON. -/
theorem AuthoritySound.of_reset (ha : t.arbiter = Arbiter.reset) : AuthoritySound t := by
  have he (x : Source) : t.entry x = Entry.reset := by unfold State.entry; rw [ha]; exact PerSource.get_all _ _
  have hh : t.holder = none := by unfold State.holder; rw [ha]; rfl
  constructor <;> intros <;> simp_all [Arbiter.reset, Entry.reset]

/-- PROTECTION alone holds after an assertion over a Trip List that is not empty. -/
theorem AuthoritySound.of_asserted (ha : t.arbiter = Arbiter.asserted true) : AuthoritySound t := by
  have hp : t.entry .protection = { Entry.reset with place := .holding, mtch := some .matched } := by
    unfold State.entry; rw [ha]; rfl
  have he {x : Source} (hx : x ≠ .protection) : t.entry x = Entry.reset := by
    unfold State.entry; rw [ha]; exact (PerSource.get_set_ne _ _ hx).trans (PerSource.get_all _ _)
  have hst : t.arbiter.stack = [.protection] := by rw [ha]; rfl
  have hw : t.arbiter.waiting = [] := by rw [ha]; rfl
  have hh : t.holder = some .protection := by unfold State.holder; rw [hst]; rfl
  refine Seats.authoritySound ⟨⟨.inr rfl, by simp [hst], by simp [hw]⟩, fun x => ?_⟩ (by simp [hw])
  by_cases hx : x = .protection
  · subst hx
    refine ⟨?_, by simp [hp, hh], by simp [hp, hh], by simp [hp, hw], by simp [hw], fun _ => by simp [hw, hp, Entry.reset]⟩
    rw [hp]
    constructor <;> simp [Entry.reset]
  · refine ⟨?_, ?_, ?_, ?_, by simp [hw], fun hq => absurd hq hx⟩
    · rw [he hx]
      exact Entry.reset_sound
    · simp [he hx, Entry.reset, hh, Ne.symm hx]
    · simp [he hx, Entry.reset, hst, hx]
    · simp [he hx, Entry.reset, hw]

theorem StepOutcome.keeps (ho : StepOutcome s t) : Keeps s t := by
  have hlater {u : State} (hu : Later s u) : Keeps s u := by
    rw [hu.1]
    exact .of_same rfl (sameContents_refl s) Iff.rfl
  have hpower (levels : PerInput Bool) (raw : PerAnalog Int) {v : State} (hv : Later s v) {w : State}
      (ha : w.arbiter = Arbiter.reset) (hs : w.store = v.store.clearMarks) (ht : w.monitor.trips = []) : Keeps s w := by
    intro h
    have hst : w.store = s.store.clearMarks := by rw [hs, hv.1]
    have hg : Governed w := ⟨.of_reset ha, h.store.of_sameContents (sameContents_of_clearMarks hst)⟩
    refine ⟨hg, fun _ => hg.holdsTrips_iff.mpr ?_⟩
    rw [ht, ha]
    simp [Arbiter.reset]
  cases ho with
  | calm hc => exact .of_same hc.arbiter (sameContents_of_store hc.store) (by rw [hc.monitor])
  | event hu _ he => exact ((hlater hu).trans he.keeps).trans (Keeps.settle _ _ _)
  | @order l as w body _ hrun =>
    refine ((State.runActions_keep hrun).trans (.of_driven ((Driven.refl w).completed as))).trans ?_
    exact (Keeps.settle s _ _).trans (.of_same rfl (sameContents_refl _) Iff.rfl)
  | update _ _ =>
    have hf := s.updateDue.update_stepperFrame
    exact .of_same hf.arbiter hf.frame.contents (by rw [s.updated_monitor])
  | powerOn after raw levels => exact hpower levels raw (s.elapse_later after) rfl rfl rfl
  | loss after levels => exact hpower levels (PerAnalog.mk 0 0 0 0 0 0 0) (s.elapse_later after) rfl rfl rfl
  | assertion after _ =>
    intro h
    have htr : (s.elapse after).assertReset.monitor.trips = s.monitor.trips := rfl
    have harb : (s.elapse after).assertReset.arbiter = Arbiter.asserted (!s.monitor.trips.isEmpty) := rfl
    have hst : StoreSound (s.elapse after).assertReset := h.store.of_store rfl
    by_cases ht : s.monitor.trips = []
    · rw [ht] at harb
      have hg : Governed (s.elapse after).assertReset := ⟨.of_reset harb, hst⟩
      refine ⟨hg, fun _ => hg.holdsTrips_iff.mpr ?_⟩
      rw [htr, harb, ht]
      simp [Arbiter.asserted, Arbiter.reset]
    · have harb' : (s.elapse after).assertReset.arbiter = Arbiter.asserted true := by
        rw [harb]
        cases hs : s.monitor.trips with
        | nil => exact absurd hs ht
        | cons a l => rfl
      have hg : Governed (s.elapse after).assertReset := ⟨.of_asserted harb', hst⟩
      refine ⟨hg, fun _ => hg.holdsTrips_iff.mpr ?_⟩
      rw [htr, harb']
      simp [Arbiter.asserted, ht]
  | exit after since raw _ => exact .of_same rfl (sameContents_refl _) Iff.rfl

end

/-- Settles O55: every operation of the Arbiter seats the sources as the table and both collections have them. -/
theorem authorityStaysSound : Obligations.AuthorityStaysSound := by
  intro s t ha hs hstep
  obtain ⟨rest, ho⟩ := step_outcome hstep
  exact (ho.keeps ⟨ha.of_same rfl rfl, hs.of_store rfl⟩).1.authority

/-- Settles O56: PROTECTION claims in the event of a first trip onset, and leaves with the Trip List. -/
theorem protectionStaysWithTrips : Obligations.ProtectionStaysWithTrips := by
  intro s t hp hs ha _ hstep
  obtain ⟨rest, ho⟩ := step_outcome hstep
  exact (ho.keeps ⟨ha.of_same rfl rfl, hs.of_store rfl⟩).2 hp

end Sys2Proof.Machine
end

section
/-! The Condition Monitor through onsets, clearings, evaluations and re-armings: the lists, the counts and the latch, and
the channels armed as the state asks after every close: O58. -/

namespace Sys2Proof.Machine

/-! ## The lists and the counts -/

/-- The Condition List, the latch and the counts as they are to be, whatever the state asks to be armed. -/
structure Listed (m : Monitor) : Prop where
  armed : ∀ c : Channel, c ∈ m.conditions → (m.channels.get c).armed = true
  once : m.conditions.Nodup
  latch : m.latch = true ↔ Channel.scheduleFault ∈ m.conditions
  onsetCounts : ∀ c : Channel, (m.channels.get c).onset ≤ 2
  clearCounts : ∀ c : Channel, (m.channels.get c).clear ≤ 19

section

variable {s t : State} {m : Monitor} {c d : Channel}

/-- A channel whose counts move, its arming kept. -/
theorem Listed.withChannel (h : Listed m) (v : ChannelState) (hv : v.armed = (m.channels.get c).armed ∨ c ∉ m.conditions)
    (ho : v.onset ≤ 2) (hc : v.clear ≤ 19) : Listed { m with channels := m.channels.set c v } := by
  refine ⟨fun d hd => ?_, h.once, h.latch, fun d => ?_, fun d => ?_⟩ <;> by_cases hdc : d = c
  · subst hdc
    rw [PerChannel.get_set_self]
    rcases hv with hv | hv
    · rw [hv]
      exact h.armed d hd
    · exact absurd hd hv
  · rw [PerChannel.get_set_ne _ _ hdc]
    exact h.armed d hd
  · subst hdc
    rwa [PerChannel.get_set_self]
  · rw [PerChannel.get_set_ne _ _ hdc]
    exact h.onsetCounts d
  · subst hdc
    rwa [PerChannel.get_set_self]
  · rw [PerChannel.get_set_ne _ _ hdc]
    exact h.clearCounts d

theorem Listed.of_trips (h : Listed m) (trips : List TripEntry) (r : Bool) :
    Listed { m with trips := trips, faultReported := r } := ⟨h.armed, h.once, h.latch, h.onsetCounts, h.clearCounts⟩

/-- The arming of a channel after an onset: as it was. -/
theorem State.onset_armed (s : State) (c d : Channel) : ((s.onset c).channel d).armed = (s.channel d).armed := by
  unfold State.onset
  split
  · rfl
  · show ((s.monitor.channels.set c _).get d).armed = _
    by_cases hd : d = c
    · subst hd
      rw [PerChannel.get_set_self]
    · rw [PerChannel.get_set_ne _ _ hd]
      rfl

/-- An onset of an armed channel other than SCHEDULE_FAULT. -/
theorem Listed.onset (h : Listed s.monitor) (ha : (s.channel c).armed = true) (hc : c ≠ .scheduleFault) :
    Listed (s.onset c).monitor := by
  unfold State.onset
  split
  · exact h
  · rename_i hn
    have hn' : c ∉ s.monitor.conditions := by simpa [State.active] using hn
    have h1 : Listed { s.monitor with channels := s.monitor.channels.set c { s.channel c with onset := 0, clear := 0 } } :=
      h.withChannel _ (.inl rfl) (Nat.zero_le _) (Nat.zero_le _)
    refine ⟨fun d hd => ?_, ?_, ?_, h1.onsetCounts, h1.clearCounts⟩
    · rcases List.mem_append.mp hd with hd | hd
      · exact h1.armed d hd
      · rw [List.mem_singleton.mp hd]
        exact (congrArg ChannelState.armed (PerChannel.get_set_self _ _ _)).trans ha
    · exact h.once.append (List.nodup_singleton c) (by simpa using hn')
    · show s.monitor.latch = true ↔ _ ∈ s.monitor.conditions ++ [c]
      rw [h.latch]
      simp [Ne.symm hc]

/-- SCHEDULE_FAULT's onset, its channel armed, sets the latch with the entry. -/
theorem Listed.latchFault (h : Listed s.monitor) (ha : (s.channel .scheduleFault).armed = true) :
    Listed s.latchFault.monitor := by
  unfold State.latchFault
  split
  · exact h
  · rename_i hl
    have hn : Channel.scheduleFault ∉ s.monitor.conditions := fun hm => hl (h.latch.mpr hm)
    have hact : ({ s with monitor := { s.monitor with latch := true } } : State).active .scheduleFault = false := by
      simpa [State.active] using hn
    rw [State.onset, if_neg (by rw [hact]; decide)]
    have h1 : Listed { s.monitor with
        channels := s.monitor.channels.set .scheduleFault { s.channel .scheduleFault with onset := 0, clear := 0 } } :=
      h.withChannel _ (.inl rfl) (Nat.zero_le _) (Nat.zero_le _)
    refine ⟨fun d hd => ?_, ?_, ?_, h1.onsetCounts, h1.clearCounts⟩
    · rcases List.mem_append.mp hd with hd | hd
      · exact h1.armed d hd
      · rw [List.mem_singleton.mp hd]
        exact (congrArg ChannelState.armed (PerChannel.get_set_self s.monitor.channels .scheduleFault _)).trans ha
    · exact h.once.append (List.nodup_singleton _) (by simpa using hn)
    · show true = true ↔ _ ∈ s.monitor.conditions ++ [_]
      simp

theorem State.latchFault_armed (s : State) (d : Channel) : (s.latchFault.channel d).armed = (s.channel d).armed := by
  unfold State.latchFault
  split
  · rfl
  · exact State.onset_armed _ _ _

theorem State.clearCondition_armed (s : State) (c d : Channel) :
    ((s.clearCondition c).channel d).armed = (s.channel d).armed := by
  show ((s.monitor.channels.set c _).get d).armed = _
  by_cases hd : d = c
  · subst hd
    rw [PerChannel.get_set_self]
  · rw [PerChannel.get_set_ne _ _ hd]
    rfl

theorem Listed.clearCondition (h : Listed s.monitor) (hc : c ≠ .scheduleFault) : Listed (s.clearCondition c).monitor := by
  have h1 : Listed { s.monitor with channels := s.monitor.channels.set c { s.channel c with onset := 0, clear := 0 } } :=
    h.withChannel _ (.inl rfl) (Nat.zero_le _) (Nat.zero_le _)
  refine ⟨fun d hd => h1.armed d (List.mem_filter.mp hd).1, h.once.filter _, ?_, h1.onsetCounts, h1.clearCounts⟩
  show s.monitor.latch = true ↔ _ ∈ s.monitor.conditions.filter (· != c)
  rw [h.latch]
  simp [Ne.symm hc]

theorem Listed.clearScheduleFault (h : Listed s.monitor) : Listed s.clearScheduleFault.monitor := by
  have h1 : Listed { s.monitor with
      channels := s.monitor.channels.set .scheduleFault { s.channel .scheduleFault with onset := 0, clear := 0 } } :=
    h.withChannel _ (.inl rfl) (Nat.zero_le _) (Nat.zero_le _)
  refine ⟨fun d hd => h1.armed d (List.mem_filter.mp hd).1, h.once.filter _, ?_, h1.onsetCounts, h1.clearCounts⟩
  show false = true ↔ _ ∈ s.monitor.conditions.filter (· != .scheduleFault)
  simp

/-! ## The evaluation -/

theorem State.evaluate_armed (s : State) (c d : Channel) : ((s.evaluate c).channel d).armed = (s.channel d).armed := by
  have hwith (v : ChannelState) (hv : v.armed = (s.channel c).armed) :
      ((s.withChannel c v).channel d).armed = (s.channel d).armed := by
    show ((s.monitor.channels.set c v).get d).armed = _
    by_cases hd : d = c
    · subst hd
      rw [PerChannel.get_set_self, hv]
    · rw [PerChannel.get_set_ne _ _ hd]
      rfl
  unfold State.evaluate
  dsimp only
  split_ifs
  · rfl
  · exact s.clearCondition_armed c d
  · exact hwith _ rfl
  · exact hwith _ rfl
  · exact s.onset_armed c d
  · exact hwith _ rfl
  · exact hwith _ rfl

theorem Listed.evaluate (h : Listed s.monitor) (hc : c ≠ .scheduleFault) : Listed (s.evaluate c).monitor := by
  have hon := h.onsetCounts c
  have hcl := h.clearCounts c
  unfold State.evaluate
  dsimp only
  split_ifs with ha _ _ h20 _ h3
  · exact h
  · exact h.clearCondition hc
  · exact h.withChannel _ (.inl rfl) hon (Nat.le_of_lt_succ (Nat.not_le.mp h20))
  · exact h.withChannel _ (.inl rfl) hon (Nat.zero_le _)
  · exact h.onset (Bool.not_eq_false _ ▸ ha) hc
  · exact h.withChannel _ (.inl rfl) (Nat.le_of_lt_succ (Nat.not_le.mp h3)) hcl
  · exact h.withChannel _ (.inl rfl) (Nat.zero_le _) hcl

theorem Listed.foldl_evaluate {cs : List Channel} (hcs : ∀ c ∈ cs, c ≠ .scheduleFault) (h : Listed s.monitor) :
    Listed (cs.foldl State.evaluate s).monitor := by
  induction cs generalizing s with
  | nil => exact h
  | cons c cs ih =>
    exact ih (fun d hd => hcs d (List.mem_cons_of_mem _ hd)) (h.evaluate (hcs c List.mem_cons_self))

theorem State.foldl_evaluate_armed (cs : List Channel) (s : State) (d : Channel) :
    ((cs.foldl State.evaluate s).channel d).armed = (s.channel d).armed := by
  induction cs generalizing s with
  | nil => rfl
  | cons c cs ih => rw [List.foldl_cons, ih, State.evaluate_armed]

/-! ## The re-arming -/

theorem State.rearmChannel_armed (st : EngineState) (s : State) (c d : Channel) :
    ((State.rearmChannel st s c).channel d).armed = if d = c then c.armedIn st else (s.channel d).armed := by
  have hset (v : ChannelState) : ((s.monitor.channels.set c v).get d).armed =
      if d = c then v.armed else (s.channel d).armed := by
    by_cases hd : d = c
    · subst hd
      rw [PerChannel.get_set_self, if_pos rfl]
    · rw [PerChannel.get_set_ne _ _ hd, if_neg hd]
      rfl
  have harm : ((s.arm c).channel d).armed = if d = c then true else (s.channel d).armed := by
    unfold State.arm
    dsimp only
    split
    · exact (State.onset_armed _ _ _).trans (hset ⟨true, 0, 0⟩)
    · exact hset ⟨true, 0, 0⟩
  unfold State.rearmChannel
  split
  · rename_i h1
    rw [harm, h1.1]
  · split
    · rename_i h2
      rw [h2.1]
      exact hset ChannelState.reset
    · rename_i h1 h2
      split
      · subst_vars
        cases ha : d.armedIn st <;> cases hb : (s.channel d).armed <;> simp_all
      · rfl

theorem Listed.rearmChannel (h : Listed s.monitor) (st : EngineState) (c : Channel) :
    Listed (State.rearmChannel st s c).monitor := by
  unfold State.rearmChannel
  split_ifs with h1 h2
  · have hn : c ∉ s.monitor.conditions := fun hm => by
      have := h.armed c hm
      rw [show (s.monitor.channels.get c).armed = false from h1.2] at this
      cases this
    have h1' : Listed (s.withChannel c ⟨true, 0, 0⟩).monitor := h.withChannel _ (.inr hn) (Nat.zero_le _) (Nat.zero_le _)
    unfold State.arm
    dsimp only
    split
    · rename_i hon
      refine h1'.onset ?_ ?_
      · exact congrArg ChannelState.armed (PerChannel.get_set_self _ _ _)
      · rintro rfl
        cases hon
    · exact h1'
  · have hc : c ≠ .scheduleFault := by
      rintro rfl
      cases h2.1
    refine ⟨fun d hd => ?_, h.once.filter _, ?_, fun d => ?_, fun d => ?_⟩
    · obtain ⟨hd1, hd2⟩ := List.mem_filter.mp hd
      rw [show (s.disarm c).monitor.channels = s.monitor.channels.set c ChannelState.reset from rfl,
        PerChannel.get_set_ne _ _ (by simpa using hd2)]
      exact h.armed d hd1
    · show s.monitor.latch = true ↔ _ ∈ s.monitor.conditions.filter (· != c)
      rw [h.latch]
      simp [Ne.symm hc]
    · show ((s.monitor.channels.set c ChannelState.reset).get d).onset ≤ 2
      by_cases hd : d = c
      · subst hd
        rw [PerChannel.get_set_self]
        exact Nat.zero_le _
      · rw [PerChannel.get_set_ne _ _ hd]
        exact h.onsetCounts d
    · show ((s.monitor.channels.set c ChannelState.reset).get d).clear ≤ 19
      by_cases hd : d = c
      · subst hd
        rw [PerChannel.get_set_self]
        exact Nat.zero_le _
      · rw [PerChannel.get_set_ne _ _ hd]
        exact h.clearCounts d
  · exact h

theorem Listed.foldl_rearmChannel (h : Listed s.monitor) (st : EngineState) (cs : List Channel) :
    Listed (cs.foldl (State.rearmChannel st) s).monitor := by
  induction cs generalizing s with
  | nil => exact h
  | cons c cs ih => exact ih (h.rearmChannel st c)

theorem State.foldl_rearmChannel_armed (st : EngineState) (cs : List Channel) (s : State) (d : Channel) :
    ((cs.foldl (State.rearmChannel st) s).channel d).armed = if d ∈ cs then d.armedIn st else (s.channel d).armed := by
  induction cs generalizing s with
  | nil => rfl
  | cons c cs ih =>
    rw [List.foldl_cons, ih, State.rearmChannel_armed]
    by_cases hd : d = c
    · subst hd
      simp
    · simp [hd]

/-- All channels re-armed for the state `st`. -/
def State.rearmAll (st : EngineState) (s : State) : State := Channel.order.foldl (State.rearmChannel st) s

theorem State.rearmAll_armed (st : EngineState) (s : State) (d : Channel) :
    ((s.rearmAll st).channel d).armed = d.armedIn st := by
  rw [State.rearmAll, State.foldl_rearmChannel_armed, if_pos (Channel.mem_order d)]

theorem State.rearmAll_only (st : EngineState) (s : State) : MonitorOnly s (s.rearmAll st) :=
  MonitorOnly.foldl (State.rearmChannel_only st) Channel.order s

theorem State.rearmOnce_of_chosen {st : EngineState} (hst : s.engine.state = some st)
    (hc : s.engine.awaitingChoice = false) : s.rearmOnce = s.withTrip (State.rearmAll st) := by
  unfold State.rearmOnce
  rw [hst]
  simp only [hc, Bool.false_eq_true, if_false]
  rfl

theorem State.rearm_of_waiting (h : s.engine.awaitingChoice = true ∨ s.engine.state = none) : s.rearm = s := by
  have honce : s.rearmOnce = s := by
    unfold State.rearmOnce
    split
    · rfl
    · rename_i st hst
      rcases h with h | h
      · rw [if_pos h]
      · rw [hst] at h
        cases h
  unfold State.rearm
  rw [honce, honce]

/-- Re-arming again for the state that the channels are armed for changes nothing. -/
theorem State.rearmAll_of_armsAgree {st : EngineState} (hst : s.engine.state = some st) (h : s.armsAgree) :
    s.rearmAll st = s := by
  have hfold (cs : List Channel) : cs.foldl (State.rearmChannel st) s = s := by
    induction cs with
    | nil => rfl
    | cons c cs ih =>
      have hc := h c
      rw [hst] at hc
      rw [List.foldl_cons, State.rearmChannel_of_agree st s c hc, ih]
  exact hfold _

theorem State.armsAgree_of {st : EngineState} (hst : s.engine.state = some st)
    (h : ∀ c : Channel, (s.channel c).armed = c.armedIn st) : s.armsAgree := fun c => by
  rw [hst]
  exact h c

theorem State.withTrip_of_quiet {onsets : State → State} (h : onsets s = s) : s.withTrip onsets = s := by
  rw [State.withTrip_quiet, h]
  rw [h]
  by_cases ht : s.monitor.trips = []
  · exact .inr ht
  · exact .inl ht

/-- Re-arming for a chosen state: with no new trip the channels are re-armed for it once and stand; a trip is delivered and
they are re-armed for TRIPPED (R122, R127). -/
theorem State.rearm_cases {st : EngineState} (hst : s.engine.state = some st) (hc : s.engine.awaitingChoice = false) :
    ((s.monitor.trips ≠ [] ∨ (s.rearmAll st).monitor.trips = []) ∧ s.rearm = s.rearmAll st) ∨
    (s.monitor.trips = [] ∧ (s.rearmAll st).monitor.trips ≠ [] ∧
      s.rearm = ((s.rearmAll st).deliverTrip).rearmOnce) := by
  have hm := s.rearmAll_only st
  by_cases hq : s.monitor.trips ≠ [] ∨ (s.rearmAll st).monitor.trips = []
  · refine .inl ⟨hq, ?_⟩
    have h1 : s.rearmOnce = s.rearmAll st := by
      rw [State.rearmOnce_of_chosen hst hc, State.withTrip_quiet s _ hq]
    have hst' : (s.rearmAll st).engine.state = some st := by rw [hm.engine, hst]
    unfold State.rearm
    rw [h1, State.rearmOnce_of_chosen hst' (by rw [hm.engine, hc])]
    exact State.withTrip_of_quiet (State.rearmAll_of_armsAgree hst' (State.armsAgree_of hst' (s.rearmAll_armed st)))
  · simp only [not_or, not_not] at hq
    refine .inr ⟨hq.1, hq.2, ?_⟩
    unfold State.rearm
    rw [State.rearmOnce_of_chosen hst hc]
    unfold State.withTrip
    rw [if_pos hq]

end

/-! ## The Monitor along an event -/

/-- The Monitor between the beginning and the close of an event: sound but for the arming that the state asks. -/
structure Watched (s : State) : Prop where
  listed : Listed s.monitor
  fault : ∀ c : Channel, (s.channel c).armed = true → (s.channel .scheduleFault).armed = true
  waiting : s.engine.awaitingChoice = true → ∀ c : Channel, c ≠ .scheduleFault → (s.channel c).armed = false
  unchosen : s.engine.awaitingChoice = false → s.engine.state = none → ∀ c : Channel, (s.channel c).armed = false

section

variable {s t u : State}

theorem MonitorSound.watched (h : MonitorSound s) : Watched s where
  listed := ⟨h.listed, h.once, h.latch, h.onsetCounts, h.clearCounts⟩
  fault c hc := by
    cases ha : s.engine.awaitingChoice with
    | true =>
      by_cases hsf : c = .scheduleFault
      · rwa [← hsf]
      · rw [h.waiting ha c hsf] at hc
        cases hc
    | false =>
      have hag := h.armed ha
      rw [hag c] at hc
      rw [hag]
      cases hst : s.engine.state with
      | none => rw [hst] at hc; cases hc
      | some st => rfl
  waiting := h.waiting
  unchosen ha hn c := by rw [h.armed ha c, hn]; rfl

/-- A change that leaves every channel's arming and no state unchosen that was chosen. -/
theorem Watched.of_armed (h : Watched s) (hl : Listed t.monitor) (ha : ∀ c : Channel, (t.channel c).armed = (s.channel c).armed)
    (hw : t.engine.awaitingChoice = s.engine.awaitingChoice) (hs : s.engine.state ≠ none → t.engine.state ≠ none) :
    Watched t where
  listed := hl
  fault c hc := by
    rw [ha] at hc ⊢
    exact h.fault c hc
  waiting hwt c hc := by
    rw [hw] at hwt
    rw [ha]
    exact h.waiting hwt c hc
  unchosen hwt hn c := by
    rw [hw] at hwt
    rw [ha]
    exact h.unchosen hwt (not_not.mp fun k => hs k hn) c

theorem Watched.of_driven (h : Watched s) (hd : Driven s t) : Watched t := by
  refine h.of_armed ?_ (fun c => by rw [hd.channel]) hd.awaiting hd.chosen
  rw [hd.monitor]
  exact h.listed.of_trips _ _

theorem Watched.of_monitor (h : Watched s) (hm : MonitorAndMarks s t) (hl : Listed t.monitor)
    (ha : ∀ c : Channel, (t.channel c).armed = (s.channel c).armed) : Watched t :=
  h.of_armed hl ha (by rw [hm]) (by rw [hm]; exact id)

theorem Watched.of_same (h : Watched s) (he : t.engine = s.engine) (hm : t.monitor = s.monitor) : Watched t :=
  h.of_armed (hm ▸ h.listed) (fun c => by unfold State.channel; rw [hm]) (by rw [he]) (by rw [he]; exact id)

theorem State.engineTrip_state (s : State) : s.engineTrip.engine.state = some .tripped := by
  unfold State.engineTrip
  split
  · assumption
  · rw [State.endStart, State.closeStart_engine, State.enter_engine]
  · rw [State.enter_engine]

theorem State.deliverTrip_stands (s : State) : s.deliverTrip.monitor = s.monitor ∧
    s.deliverTrip.engine.state = some .tripped ∧
    s.deliverTrip.engine.awaitingChoice = s.engine.awaitingChoice := by
  obtain ⟨-, hmon, haw, -⟩ := s.engineTrip_driven
  have ho := s.engineTrip.protectionClaim_only
  exact ⟨by rw [State.deliverTrip, ho.monitor, hmon], by rw [State.deliverTrip, ho.engine, State.engineTrip_state],
    by rw [State.deliverTrip, ho.engine, haw]⟩

theorem Watched.deliverTrip (h : Watched s) : Watched s.deliverTrip := by
  obtain ⟨hmon, hst, haw⟩ := s.deliverTrip_stands
  refine h.of_armed (hmon ▸ h.listed) (fun c => ?_) haw fun _ => by rw [hst]; simp
  unfold State.channel
  rw [hmon]

theorem Watched.withTrip {onsets : State → State} (h : Watched (onsets s)) : Watched (s.withTrip onsets) := by
  unfold State.withTrip
  dsimp only
  split
  · exact h.deliverTrip
  · exact h

theorem Watched.rearmAll (h : Watched s) {st : EngineState} (hst : s.engine.state = some st)
    (hc : s.engine.awaitingChoice = false) :
    Watched (s.rearmAll st) ∧ (s.rearmAll st).armsAgree ∧ (s.rearmAll st).engine = s.engine := by
  have hm := s.rearmAll_only st
  have hst' : (s.rearmAll st).engine.state = some st := by rw [hm.engine, hst]
  refine ⟨⟨h.listed.foldl_rearmChannel st _, fun c _ => ?_, fun k => ?_, fun _ k => ?_⟩,
    State.armsAgree_of hst' (s.rearmAll_armed st), hm.engine⟩
  · rw [State.rearmAll_armed]
    rfl
  · rw [hm.engine, hc] at k
    cases k
  · rw [hst'] at k
    cases k

/-- After a re-arming the channels are armed as the state asks. -/
theorem Watched.rearm (h : Watched s) : Watched s.rearm ∧ (s.rearm.engine.awaitingChoice = false → s.rearm.armsAgree) := by
  cases hc : s.engine.awaitingChoice with
  | true =>
    rw [State.rearm_of_waiting (.inl hc)]
    exact ⟨h, fun k => by rw [hc] at k; cases k⟩
  | false =>
    cases hst : s.engine.state with
    | none =>
      rw [State.rearm_of_waiting (.inr hst)]
      exact ⟨h, fun _ c => by rw [h.unchosen hc hst c, hst]; rfl⟩
    | some st =>
      obtain ⟨hw, hag, he⟩ := h.rearmAll hst hc
      rcases State.rearm_cases hst hc with ⟨-, hr⟩ | ⟨-, hne, hr⟩
      · rw [hr]
        exact ⟨hw, fun _ => hag⟩
      · obtain ⟨hmon, hst', haw⟩ := (s.rearmAll st).deliverTrip_stands
        have hc' : (s.rearmAll st).deliverTrip.engine.awaitingChoice = false := by rw [haw, he, hc]
        obtain ⟨hw', hag', -⟩ := hw.deliverTrip.rearmAll hst' hc'
        rw [hr, State.rearmOnce_of_chosen hst' hc', State.withTrip_quiet _ _ (.inl (by rw [hmon]; exact hne))]
        exact ⟨hw', fun _ => hag'⟩

theorem Watched.rearmed (before : State) (judged : Bool) (h : Watched s) :
    Watched (before.rearmed judged s) ∧
      ((before.rearmed judged s).engine.awaitingChoice = false → (before.rearmed judged s).armsAgree) := by
  unfold State.rearmed
  split
  · exact (h.rearm.1.of_driven (Driven.refl _).judgeWake).rearm
  · exact h.rearm

theorem Watched.close (before : State) (h : Watched s) (ha : s.engine.awaitingChoice = false → s.armsAgree) :
    MonitorSound (before.close s) where
  armed k c := by
    rw [State.close_engine] at k ⊢
    rw [State.close_channel]
    exact ha k c
  waiting k c hc := by
    rw [State.close_engine] at k
    rw [State.close_channel]
    exact h.waiting k c hc
  listed c hc := by
    rw [State.close_conditions, mem_inChannelOrder] at hc
    rw [State.close_channel]
    exact h.listed.armed c hc
  once := by
    rw [State.close_conditions]
    exact inChannelOrder_nodup _ h.listed.once
  latch := by
    rw [State.close_latch, State.close_conditions, mem_inChannelOrder]
    exact h.listed.latch
  alert := before.close_alert s
  onsetCounts c := by
    rw [State.close_channel]
    exact h.listed.onsetCounts c
  clearCounts c := by
    rw [State.close_channel]
    exact h.listed.clearCounts c

theorem Watched.settle (before : State) (judged : Bool) (h : Watched s) : MonitorSound (before.settle judged s) := by
  obtain ⟨hw, ha⟩ := h.rearmed before judged
  rw [State.settle_eq_close]
  exact hw.close before ha

/-! ## The events -/

theorem State.scanLookups_ne_nil (h : s.anyFaults s.scanLookups = true) : ∃ c : Channel, (s.channel c).armed = true := by
  simp only [State.anyFaults, State.scanLookups, List.any_map, List.any_eq_true, List.mem_filter] at h
  obtain ⟨c, ⟨-, hc⟩, -⟩ := h
  exact ⟨c, hc⟩

theorem Watched.monitorScan (h : Watched s) : Watched s.monitorScan := by
  have h1 : Listed (Channel.thresholds.foldl State.evaluate s).monitor := h.listed.foldl_evaluate (by decide)
  have ha := State.foldl_evaluate_armed Channel.thresholds s
  rw [State.monitorScan_eq]
  refine Watched.withTrip (h.of_monitor (s.scanOnsets_only _) ?_ fun c => ?_)
  · unfold State.scanOnsets
    split
    · rename_i hf
      obtain ⟨c, hc⟩ := State.scanLookups_ne_nil hf
      exact Listed.latchFault h1 ((ha .scheduleFault).trans (h.fault c hc))
    · exact h1
  · unfold State.scanOnsets
    split
    · exact (State.latchFault_armed _ c).trans (ha c)
    · exact ha c

theorem Watched.monitorQuality (h : Watched s) (was : SpeedQuality) : Watched (s.monitorQuality was) := by
  refine h.of_monitor (by unfold MonitorAndMarks; rw [s.monitorQuality_only was]) ?_ fun c => ?_
  · unfold State.monitorQuality
    split_ifs with ha
    · exact h.listed
    · exact h.listed.onset (Bool.not_eq_false _ ▸ ha) (by decide)
    · exact h.listed.clearCondition (by decide)
    · exact h.listed
  · unfold State.monitorQuality
    split_ifs
    · rfl
    · exact s.onset_armed _ c
    · exact s.clearCondition_armed _ c
    · rfl

theorem channelOf_ne_scheduleFault {i : Input} {c : Channel} (h : channelOf i = some c) : c ≠ .scheduleFault := by
  rintro rfl
  cases i <;> cases h

theorem Watched.monitorInput (h : Watched s) (i : Input) : Watched (s.monitorInput i) := by
  unfold State.monitorInput
  split
  · exact h
  · rename_i c hc
    have hne := channelOf_ne_scheduleFault hc
    split_ifs with ha
    · exact h
    · exact Watched.withTrip (h.of_monitor (by unfold MonitorAndMarks; rw [s.onset_only c])
        (h.listed.onset (Bool.not_eq_false _ ▸ ha) hne) (s.onset_armed c))
    · exact h.of_monitor rfl (h.listed.clearCondition hne) (s.clearCondition_armed c)
    · exact h

theorem Watched.takeMeasurement (h : Watched s) (was : SpeedQuality) : Watched (s.takeMeasurement was) := by
  cases ha : s.engine.awaitingChoice with
  | false => exact h.of_driven ((Driven.refl s).takeMeasurement was ha)
  | true =>
    obtain ⟨-, hmon⟩ := s.chooseState_stands
    have hst : s.chooseState.engine.awaitingChoice = false ∧ s.chooseState.engine.state ≠ none := by
      unfold State.chooseState
      dsimp only
      split_ifs <;> simp [State.enterRunning, State.enterRundown]
    unfold State.takeMeasurement
    rw [if_pos ha]
    refine ⟨hmon ▸ h.listed, fun c hc => ?_, fun k => ?_, fun _ k => absurd k hst.2⟩
    · unfold State.channel at hc ⊢
      rw [hmon] at hc ⊢
      exact h.fault c hc
    · rw [hst.1] at k
      cases k

theorem EventOf.watched {w : State} {judged : Bool} (he : EventOf u judged w) (h : Watched u) : Watched w := by
  have hdrop : Driven u u.dropPhaseTimer := (Driven.refl u).withSequencer _
  cases he with
  | scan raw => exact (h.of_same (t := u.takeScan raw) rfl rfl).monitorScan.of_driven (Driven.refl _).lubeComparison
  | measurement => exact ((h.of_same (t := u.measure) rfl rfl).monitorQuality _).takeMeasurement _
  | filterChange i =>
    have h1 := (h.of_same (t := u.withInput i (u.frontEnd.inputs.get i).settleFilter) rfl rfl).monitorInput i
    unfold State.filterChange
    dsimp only
    split
    · exact h1.of_driven (Driven.refl _).judgeIsolation
    · exact h1
  | lapse l =>
    unfold State.lapseEffect
    have ho := (u.takeReport l).releaseSource_only (sourceOf l)
    split
    · exact h.of_same ho.engine ho.monitor
    · exact h.of_same rfl rfl
  | faultOnset ha =>
    have h1 : Listed ({ u with monitor := { u.monitor with faultReported := false } } : State).monitor :=
      h.listed.of_trips _ _
    exact h.of_monitor (by unfold MonitorAndMarks; rw [State.latchFault_only]) (Listed.latchFault h1 ha)
      fun c => State.latchFault_armed _ c
  | prelubeEnd _ => exact h.of_driven hdrop.prelubeCheck
  | crankEnd _ => exact h.of_driven (hdrop.failAttempt _)
  | catchEnd _ => exact h.of_driven (hdrop.failAttempt _)
  | restEnd _ => exact h.of_driven hdrop.restTest
  | lubeWindowEnd _ => exact h.of_driven (hdrop.endStart _)
  | warmEnd _ => exact h.of_driven hdrop.warmCheck
  | lockoutEnd => exact h.of_same rfl rfl
  | cooldownEnd _ => exact h.of_driven (Driven.refl u).enterRundown
  | rundownEnd _ => exact h.of_driven (Driven.refl u).endRundown
  | idleLimit => exact h.of_driven (Driven.refl u).layupRequest
  | entryJudgement => exact h.of_same rfl rfl

theorem ActionEffect.watched {l : Link} {w : State} (ha : ActionEffect l s w) (h : Watched s) : Watched w := by
  have harb {w : State} (ho : ArbiterOnly s w) : Watched w := h.of_same ho.engine ho.monitor
  have hclear (v : Store) : Watched ({ s with store := v } : State).clearScheduleFault :=
    h.of_armed (Listed.clearScheduleFault (s := { s with store := v }) h.listed)
      (fun c => State.clearCondition_armed { s with store := v } .scheduleFault c) rfl id
  cases ha with
  | claim _ _ => exact harb (s.claimEffect_only _ _)
  | release _ => exact harb (s.releaseSource_only _)
  | notch _ _ => exact harb rfl
  | start _ => exact h.of_driven ((Driven.refl s).openStart _ _)
  | stop _ => exact h.of_driven (Driven.refl s).stopEffect
  | cancelStart _ => exact h.of_driven ((Driven.refl s).endStart _)
  | cancelCooldown _ => exact h.of_driven (Driven.refl s).cancelCooldown
  | isolate on => exact h.of_driven ((Driven.refl s).isolateEffect on)
  | layup _ _ => exact harb rfl
  | tripReset _ _ =>
    have ho := State.releaseSource_only { s with monitor := { s.monitor with trips := [] } } .protection
    have h1 : Watched { s with monitor := { s.monitor with trips := [] } } :=
      h.of_armed (h.listed.of_trips [] _) (fun _ => rfl) rfl id
    exact (h1.of_same ho.engine ho.monitor).of_driven ((Driven.refl _).enter .stopped)
  | read => exact h
  | @setting k v _ _ _ =>
    obtain ⟨he, -, -, hm, -⟩ := s.writeSetting_blocks k v
    exact h.of_same he hm
  | word _ _ _ => exact hclear _
  | segment _ _ _ => exact hclear _

/-! ## The resets and the steps -/

/-- Soundness of the Monitor reads the Monitor, ALERT and the engine's state and choice. -/
theorem MonitorSound.of_same (h : MonitorSound s) (he : t.engine = s.engine) (hm : sameMonitor s t)
    (ha : t.outputs.alert = s.outputs.alert) : MonitorSound t := by
  have hch (c : Channel) : t.channel c = s.channel c := by unfold State.channel; rw [hm]
  have hco : t.monitor.conditions = s.monitor.conditions := by rw [hm]
  have hag : s.armsAgree → t.armsAgree := fun k c => by rw [hch, he]; exact k c
  obtain ⟨h1, h2, h3, h4, h5, h6, h7, h8⟩ := h
  refine ⟨fun k => hag (h1 (he ▸ k)), fun k c hc => ?_, fun c hc => ?_, by rwa [hco], ?_, ?_, fun c => ?_, fun c => ?_⟩
  · rw [hch]
    exact h2 (he ▸ k) c hc
  · rw [hch]
    exact h3 c (hco ▸ hc)
  · rw [hco, ← h5, hm]
  · rw [ha, h6]
    unfold State.alertLevel
    rw [hm]
  · rw [hch]
    exact h7 c
  · rw [hch]
    exact h8 c

theorem MonitorSound.of_reset (he : t.engine.awaitingChoice = true) (hm : t.monitor = Monitor.reset)
    (ha : t.outputs.alert = false) : MonitorSound t := by
  have hch (c : Channel) : t.channel c = ChannelState.reset := by
    unfold State.channel
    rw [hm]
    exact PerChannel.get_all _ c
  refine ⟨fun k => ?_, fun _ c _ => ?_, fun c hc => ?_, ?_, ?_, ?_, fun c => ?_, fun c => ?_⟩
  · rw [he] at k
    cases k
  · rw [hch]
    rfl
  · rw [hm] at hc
    cases hc
  · rw [hm]
    exact List.nodup_nil
  · rw [hm]
    simp [Monitor.reset]
  · rw [ha]
    unfold State.alertLevel
    rw [hm]
    rfl
  · rw [hch]
    exact Nat.zero_le _
  · rw [hch]
    exact Nat.zero_le _

theorem MonitorSound.assertReset (h : MonitorSound s) : MonitorSound s.assertReset := by
  have hsf : s.assertReset.channel .scheduleFault = s.channel .scheduleFault := rfl
  have hch {c : Channel} (hc : c ≠ .scheduleFault) : s.assertReset.channel c = ChannelState.reset :=
    (PerChannel.get_set_ne _ _ hc).trans (PerChannel.get_all _ c)
  have hco : s.assertReset.monitor.conditions = s.monitor.conditions.filter (· == .scheduleFault) := rfl
  refine ⟨fun k => (by cases k), fun _ c hc => ?_, fun c hc => ?_, h.once.filter _, ?_, rfl, fun c => ?_, fun c => ?_⟩
  · rw [hch hc]
    rfl
  · rw [hco, List.mem_filter, beq_iff_eq] at hc
    obtain ⟨hin, rfl⟩ := hc
    exact h.listed _ hin
  · show s.monitor.latch = true ↔ _
    rw [hco, h.latch]
    simp
  · by_cases hc : c = .scheduleFault
    · subst hc
      rw [hsf]
      exact h.onsetCounts _
    · rw [hch hc]
      exact Nat.zero_le _
  · by_cases hc : c = .scheduleFault
    · subst hc
      rw [hsf]
      exact h.clearCounts _
    · rw [hch hc]
      exact Nat.zero_le _

theorem StepOutcome.monitorSound (ho : StepOutcome s t) (h : MonitorSound s) : MonitorSound t := by
  have hlater {u : State} (hu : Later s u) : MonitorSound u := by
    rw [hu.1]
    exact h.of_same rfl rfl rfl
  cases ho with
  | calm hc => exact h.of_same hc.engine (by rw [sameMonitor, hc.monitor]) (by rw [hc.outputs])
  | event hu _ he => exact (he.watched (hlater hu).watched).settle _ _
  | @order l as w body _ hrun =>
    have hw := State.runActions_keeps (fun _ _ => ActionEffect.watched) hrun h.watched
    exact ((hw.of_driven ((Driven.refl w).completed as)).settle s _).of_same rfl rfl rfl
  | update _ _ =>
    have hf := s.updateDue.update_stepperFrame
    exact h.of_same hf.engine s.updated_monitor (congrArg Outputs.alert hf.outputs :)
  | powerOn after raw levels => exact .of_reset rfl rfl rfl
  | loss after levels => exact .of_reset rfl rfl rfl
  | assertion after _ => exact (hlater (s.elapse_later after)).assertReset
  | exit after since raw _ => exact h.of_same rfl rfl rfl

end

/-- Settles O58: every event closes with the channels armed as its state asks, and an entry comes and goes with its counts
and the latch. -/
theorem monitorStaysSound : Obligations.MonitorStaysSound := by
  intro s t hs hstep
  obtain ⟨rest, ho⟩ := step_outcome hstep
  exact ho.monitorSound (hs.of_same rfl rfl rfl)

end Sys2Proof.Machine
end

section
/-! The Stepper's operations, said once: the target and the drop, the rise, the load arithmetic and the speed reference,
with the bounds that each keeps; and the idle timer at the close of every event: O60. -/

namespace Sys2Proof.Machine

section

variable {s t u : State}

/-! ## What the Stepper reads -/

theorem State.targetNotch_of_same (he : t.engine.state = s.engine.state) (ha : t.arbiter = s.arbiter)
    (hc : ceilingOf t.monitor.conditions = ceilingOf s.monitor.conditions) : t.targetNotch = s.targetNotch := by
  have hn : t.authorityNotch = s.authorityNotch := by
    unfold State.authorityNotch State.holder State.entry
    rw [ha]
  unfold State.targetNotch State.ceilingNotch
  rw [he, hn, hc]

theorem StepperFrame.conditions (h : StepperFrame s t) : t.monitor.conditions = s.monitor.conditions := by rw [h.monitor]

theorem StepperFrame.targetNotch (h : StepperFrame s t) : t.targetNotch = s.targetNotch :=
  State.targetNotch_of_same (by rw [h.engine]) h.arbiter (by rw [h.conditions])

theorem State.targetNotch_not_running (h : s.engine.state ≠ some .running) : s.targetNotch = 0 := by
  unfold State.targetNotch
  rw [if_neg h]

/-- The same value found by every lookup. -/
def sameLooks (s t : State) : Prop := ∀ k : Lookup, t.store.look k = s.store.look k

theorem Frame.looks (h : Frame s t) : sameLooks s t := h.look

theorem sameLooks.trans (h : sameLooks s t) (k : sameLooks t u) : sameLooks s u := fun l => (k l).trans (h l)

theorem sameLooks.loadCeiling (h : sameLooks s t) (n : Nat) : t.store.loadCeiling n = s.store.loadCeiling n := by
  unfold Store.loadCeiling
  rw [h]

theorem sameLooks.scheduledSpeed (h : sameLooks s t) (n : Nat) : t.store.scheduledSpeed n = s.store.scheduledSpeed n := by
  unfold Store.scheduledSpeed
  rw [h]

theorem State.speedNotch_of_same (he : t.engine.state = s.engine.state) (hg : t.stepper.granted = s.stepper.granted) :
    t.speedNotch = s.speedNotch := by
  unfold State.speedNotch
  rw [he, hg]

theorem State.formedSpeed_of_same (he : t.engine.state = s.engine.state) (hg : t.stepper.granted = s.stepper.granted)
    (hl : s.speedNotch ≠ none → sameLooks s t) : t.formedSpeed = s.formedSpeed := by
  unfold State.formedSpeed
  rw [State.speedNotch_of_same he hg]
  cases hn : s.speedNotch with
  | none => rfl
  | some n => exact (hl (by simp [hn])).scheduledSpeed n

/-! ## The bounds -/

/-- Both loads within the load ceiling of the granted notch, and 0 with it. -/
structure LoadsWithin (s : State) : Prop where
  loadTarget : s.stepper.loadTarget ≤ s.store.loadCeiling s.stepper.granted
  loadRef : s.stepper.loadRef ≤ s.store.loadCeiling s.stepper.granted
  unloaded : s.stepper.granted = 0 → s.stepper.loadTarget = 0 ∧ s.stepper.loadRef = 0

theorem LoadsWithin.of_zero (ht : s.stepper.loadTarget = 0) (hr : s.stepper.loadRef = 0) : LoadsWithin s :=
  ⟨by rw [ht]; exact Nat.zero_le _, by rw [hr]; exact Nat.zero_le _, fun _ => ⟨ht, hr⟩⟩

theorem LoadsWithin.of_same (h : LoadsWithin s) (hg : t.stepper.granted = s.stepper.granted)
    (ht : t.stepper.loadTarget = s.stepper.loadTarget) (hr : t.stepper.loadRef = s.stepper.loadRef)
    (hl : sameLooks s t) : LoadsWithin t := by
  obtain ⟨h1, h2, h3⟩ := h
  exact ⟨by rwa [ht, hg, hl.loadCeiling], by rwa [hr, hg, hl.loadCeiling], by rwa [hg, ht, hr]⟩

theorem LoadsWithin.lookedUp (h : LoadsWithin s) (ks : List Lookup) : LoadsWithin (s.lookedUp ks) :=
  h.of_same rfl rfl rfl (Store.look_markFaults _ ks)

/-! ## The target and the drop -/

/-- The target formed, the granted notch lowered to it, the loads within the ceiling of the notch that results. -/
theorem State.formTarget_stepper (s : State) :
    s.formTarget.stepper.target = s.targetNotch ∧
      s.formTarget.stepper.granted = min s.stepper.granted s.targetNotch ∧
      s.formTarget.stepper.speedRef = s.stepper.speedRef ∧ (LoadsWithin s → LoadsWithin s.formTarget) ∧
      (s.stepper.granted ≤ s.targetNotch → s.formTarget = s.withTarget s.targetNotch) := by
  unfold State.formTarget
  dsimp only
  split
  · rename_i hlt
    unfold State.dropTo
    split
    · rename_i hz
      refine ⟨rfl, ?_, rfl, fun _ => .of_zero rfl rfl, fun h => absurd hlt (Nat.not_lt.mpr h)⟩
      rw [hz]
      exact (Nat.min_zero _).symm
    · rename_i hz
      refine ⟨rfl, (min_eq_right hlt.le).symm, rfl, fun _ => LoadsWithin.lookedUp ⟨min_le_right _ _, min_le_right _ _, ?_⟩ _,
        fun h => absurd hlt (Nat.not_lt.mpr h)⟩
      exact fun k => absurd k hz
  · rename_i hge
    exact ⟨rfl, (min_eq_left (Nat.not_lt.mp hge)).symm, rfl, fun h => ⟨h.loadTarget, h.loadRef, h.unloaded⟩, fun _ => rfl⟩

/-! ## The speed reference -/

/-- The speed reference formed anew is that of the state that results. -/
theorem State.formSpeed_stepper (s : State) :
    s.formSpeed.stepper = { s.stepper with speedRef := s.formedSpeed } ∧ s.formSpeed.formedSpeed = s.formedSpeed := by
  have hf : StepperFrame s s.formSpeed := (StepperFrame.refl s).formSpeed
  have hst : s.formSpeed.stepper = { s.stepper with speedRef := s.formedSpeed } := by
    unfold State.formSpeed
    dsimp only
    split <;> rfl
  exact ⟨hst, State.formedSpeed_of_same (by rw [hf.engine]) (by rw [hst]) fun _ => hf.frame.looks⟩

/-- The Stepper's part of an event that ends in a chosen state. -/
theorem State.stepperAnnounced_stepper (before : State) (hc : s.engine.awaitingChoice = false) :
    (before.stepperAnnounced s).stepper.target = s.targetNotch ∧
      (before.stepperAnnounced s).stepper.granted = min s.stepper.granted s.targetNotch ∧
      (LoadsWithin s → LoadsWithin (before.stepperAnnounced s)) ∧
      ((before.stepperAnnounced s).stepper.speedRef = (before.stepperAnnounced s).formedSpeed ∨
        before.engine.state = s.engine.state ∧ before.engine.awaitingChoice = s.engine.awaitingChoice ∧
          before.stepper.granted = min s.stepper.granted s.targetNotch ∧
          (before.stepperAnnounced s).stepper.speedRef = s.stepper.speedRef) ∧
      (before.stepperAnnounced s).outputs.governor = (before.stepperAnnounced s).stepper.speedRef ∧
      (before.stepperAnnounced s).outputs.excitation = (before.stepperAnnounced s).stepper.loadRef := by
  obtain ⟨h1, h2, h3, h4, -⟩ := s.formTarget_stepper
  have hf : StepperFrame s s.formTarget := (StepperFrame.refl s).formTarget
  have hf' : StepperFrame s.formTarget s.formTarget.formSpeed := (StepperFrame.refl _).formSpeed
  obtain ⟨k1, k2⟩ := s.formTarget.formSpeed_stepper
  unfold State.stepperAnnounced
  rw [hc]
  simp only [Bool.false_eq_true, if_false]
  split
  · refine ⟨?_, ?_, fun h => ?_, .inl ?_, rfl, rfl⟩
    · show s.formTarget.formSpeed.stepper.target = _
      rw [k1]
      exact h1
    · show s.formTarget.formSpeed.stepper.granted = _
      rw [k1]
      exact h2
    · have h5 := (h4 h).of_same (t := s.formTarget.formSpeed) (by rw [k1]) (by rw [k1]) (by rw [k1]) hf'.frame.looks
      exact h5.of_same rfl rfl rfl fun _ => rfl
    · show s.formTarget.formSpeed.stepper.speedRef = s.formTarget.formSpeed.formedSpeed
      rw [k2, k1]
  · rename_i hch
    simp only [State.speedChanged, Bool.or_eq_true, decide_eq_true_eq, not_or, not_not] at hch
    obtain ⟨⟨hst, hg⟩, hw⟩ := hch
    refine ⟨h1, h2, fun h => (h4 h).of_same rfl rfl rfl fun _ => rfl, .inr ⟨?_, ?_, ?_, h3⟩, rfl, rfl⟩
    · rw [hst, hf.engine]
    · rw [hw, hf.engine, hc]
    · rw [hg, h2]

/-! ## The rise and the load arithmetic -/

theorem Store.loadCeiling_le (st : Store) (n : Nat) : st.loadCeiling n ≤ 1000 := by
  obtain ⟨-, h⟩ := st.look_mem (ceilingLookup n)
  unfold Store.loadCeiling
  have : (ceilingLookup n).range.2 = 1000 := rfl
  omega

theorem State.ambientDerate_le (s : State) : s.ambientDerate ≤ 1000 := by
  obtain ⟨-, h⟩ := s.store.look_mem s.ambientLookup
  unfold State.ambientDerate
  have : s.ambientLookup.range.2 = 1000 := rfl
  omega

theorem factorOf_le (cs : List Channel) : factorOf cs ≤ 1000 := by
  unfold factorOf
  induction cs with
  | nil => exact le_rfl
  | cons c cs ih =>
    rw [List.foldr_cons]
    split
    · exact (min_le_right _ _).trans ih
    · exact ih

theorem ceilingOf_le (cs : List Channel) : ceilingOf cs ≤ 8 := by
  unfold ceilingOf
  induction cs with
  | nil => exact le_rfl
  | cons c cs ih =>
    rw [List.foldr_cons]
    split
    · exact (min_le_right _ _).trans ih
    · exact ih

/-- A factor of at most a thousandth part, truncated, never raises a value. -/
theorem mul_div_thousand_le {a b : Nat} (hb : b ≤ 1000) : a * b / 1000 ≤ a := by
  calc a * b / 1000 ≤ a * 1000 / 1000 := Nat.div_le_div_right (Nat.mul_le_mul_left a hb)
    _ = a := Nat.mul_div_cancel a (by decide)

theorem loadTargetOf_le {ceiling derate factor air : Nat} (hd : derate ≤ 1000) (hf : factor ≤ 1000) :
    loadTargetOf ceiling derate factor air ≤ ceiling ∧ loadTargetOf ceiling derate factor air ≤ air :=
  ⟨(min_le_left _ _).trans ((mul_div_thousand_le hf).trans (mul_div_thousand_le hd)), min_le_right _ _⟩

theorem rampLoad_le (ref target up down : Nat) (hold : Bool) : rampLoad ref target up down hold ≤ max ref target := by
  unfold rampLoad
  split_ifs <;> omega

theorem LoadsWithin.loadArithmetic (h : LoadsWithin s) (hg : 1 ≤ s.stepper.granted) : LoadsWithin s.loadArithmetic := by
  have hlt := (loadTargetOf_le (ceiling := s.store.loadCeiling s.stepper.granted) (air := s.airLimit) s.ambientDerate_le
    (factorOf_le s.monitor.conditions)).1
  refine LoadsWithin.lookedUp ⟨hlt, (rampLoad_le _ _ _ _ _).trans (max_le h.loadRef hlt), fun k => ?_⟩ _
  have : s.stepper.granted = 0 := k
  omega

/-- The rise step: the granted notch one up where the rise test holds, never past the target. -/
theorem State.riseStep_stepper (s : State) :
    s.riseStep.stepper.target = s.stepper.target ∧
      s.riseStep.stepper.granted = (if s.mayRise then s.stepper.granted + 1 else s.stepper.granted) ∧
      (s.stepper.granted ≤ s.targetNotch → s.riseStep.stepper.granted ≤ s.targetNotch) ∧
      (LoadsWithin s → LoadsWithin s.riseStep) := by
  unfold State.riseStep
  dsimp only
  split
  · rename_i hr
    refine ⟨rfl, rfl, fun _ => ?_, fun _ => LoadsWithin.lookedUp ⟨min_le_right _ _, min_le_right _ _, ?_⟩ _⟩
    · simp only [State.mayRise, Bool.and_eq_true, decide_eq_true_eq] at hr
      exact hr.1.1
    · exact fun k => absurd k (Nat.succ_ne_zero _)
  · exact ⟨rfl, rfl, id, fun h => h.lookedUp _⟩

/-! ## The idle timer -/

/-- What the idle conditions read. -/
theorem State.idleConditions_of_same (he : t.engine.state = s.engine.state) (hg : t.stepper.granted = s.stepper.granted)
    (ha : t.arbiter = s.arbiter) (hm : t.monitor.conditions = s.monitor.conditions)
    (hr : ∀ c : Analog, t.reading c = s.reading c) (hf : ∀ i : Input, t.filtered i = s.filtered i) :
    t.idleConditions = s.idleConditions := by
  have hruns : t.runs = s.runs := by unfold State.runs; rw [he]
  have hn : t.authorityNotch = s.authorityNotch := by
    unfold State.authorityNotch State.holder State.entry
    rw [ha]
  have hp : t.heldPermission = s.heldPermission := by
    unfold State.heldPermission State.holderEntry State.holder State.entry
    rw [ha]
  unfold State.idleConditions
  rw [hruns, hg, hn, hp, hm, hr, hr, hf]

theorem State.judgeIdle_sound (before s : State) : IdleSound (before.judgeIdle s) := by
  have hc : (before.judgeIdle s).idleConditions = s.idleConditions := rfl
  unfold IdleSound
  rw [hc]
  show (before.idleAfter s).isSome = true ↔ _
  unfold State.idleAfter
  split
  · rename_i h
    rw [h]
    split
    · simp
    · split <;> simp
  · rename_i h
    simp [h]

theorem IdleSound.of_same (h : IdleSound s) (hi : t.idle.idleSince = s.idle.idleSince)
    (hc : t.idleConditions = s.idleConditions) : IdleSound t := by
  unfold IdleSound
  rw [hi, hc]
  exact h

theorem State.idleConditions_not_runs (h : s.engine.state = none ∨ s.engine.state = some .tripped) :
    s.idleConditions = false := by
  have hr : s.runs = false := by
    unfold State.runs
    rcases h with h | h <;> rw [h] <;> rfl
  unfold State.idleConditions
  rw [hr]
  rfl

theorem IdleSound.of_not_runs (hi : t.idle.idleSince = none) (h : t.engine.state = none ∨ t.engine.state = some .tripped) :
    IdleSound t := by
  unfold IdleSound
  rw [hi, State.idleConditions_not_runs h]
  simp

theorem State.reading_of_scan (h : t.frontEnd.scan = s.frontEnd.scan) (c : Analog) : t.reading c = s.reading c := by
  unfold State.reading
  rw [h]

theorem StepOutcome.idleSound (ho : StepOutcome s t) (h : IdleSound s) (he : EngineSound s) : IdleSound t := by
  cases ho with
  | calm hc =>
    refine h.of_same (by rw [hc.idle]) (State.idleConditions_of_same (by rw [hc.engine]) (by rw [hc.stepper]) hc.arbiter
      (by rw [hc.monitor]) (State.reading_of_scan hc.scan) hc.filtered)
  | @event u w judged hu _ _ =>
    rw [State.settle_eq_close]
    exact State.judgeIdle_sound _ _
  | order body _ _ => exact State.judgeIdle_sound s _
  | update _ _ => exact State.judgeIdle_sound _ _
  | powerOn after raw levels => exact .of_not_runs rfl (.inl rfl)
  | loss after levels => exact .of_not_runs rfl (.inl rfl)
  | assertion after _ =>
    have heng := EngineSound.assertReset (s := s.elapse after) (he.of_same rfl rfl rfl rfl rfl Iff.rfl Iff.rfl)
    exact .of_not_runs rfl (heng.waiting rfl)
  | exit after since raw hr =>
    have hw := he.waiting (he.resetting (by rw [hr]; simp))
    have hidle : s.idle.idleSince = none := by
      rw [← Option.not_isSome_iff_eq_none]
      intro k
      have := h.mp k
      rw [State.idleConditions_not_runs hw] at this
      cases this
    exact .of_not_runs hidle hw

end

/-- Settles O60: every event closes with the idle timer judged, and outside RUNNING and ISOLATED no idle condition holds. -/
theorem idleTimerStaysSound : Obligations.IdleTimerStaysSound := by
  intro s t hs he hstep
  obtain ⟨rest, ho⟩ := step_outcome hstep
  exact ho.idleSound (hs.of_same rfl rfl) (he.of_same rfl rfl rfl rfl rfl Iff.rfl Iff.rfl)

end Sys2Proof.Machine
end

section
/-! The Stepper through events, orders, updates and resets: O59. -/

namespace Sys2Proof.Machine

section

variable {before s t u : State}

/-! ## The Stepper along an event -/

/-- The Stepper between the beginning and the close of an event that began in `before`: no notch granted outside RUNNING,
the loads within their bounds, the speed reference as it stood, and until the choice the rest of what R110 asks. -/
structure Laden (before s : State) : Prop where
  outside : s.engine.state ≠ some .running → s.stepper.granted = 0
  loads : LoadsWithin s
  speedRef : s.stepper.speedRef = before.stepper.speedRef
  waiting : s.engine.awaitingChoice = true →
    s.stepper.target = 0 ∧ s.outputs.governor = s.stepper.speedRef ∧ s.outputs.excitation = 0

theorem StepperSound.laden (h : StepperSound s) : Laden s s where
  outside k := by
    have := h.granted
    rw [State.targetNotch_not_running k] at this
    exact Nat.le_zero.mp this
  loads := ⟨h.loadTarget, h.loadRef, h.unloaded⟩
  speedRef := rfl
  waiting k := by
    have hne : s.engine.state ≠ some .running := by rcases h.waiting k with e | e <;> rw [e] <;> simp
    have hz := State.targetNotch_not_running hne
    have hg : s.stepper.granted = 0 := Nat.le_zero.mp (hz ▸ h.granted)
    exact ⟨h.target.trans hz, h.governor, h.excitation.trans (h.unloaded hg).2⟩

/-- A change that leaves the Stepper and the two loops. -/
theorem Laden.of_same (h : Laden before s) (he : t.engine.state = s.engine.state)
    (hw : t.engine.awaitingChoice = true → s.engine.awaitingChoice = true) (hs : t.stepper = s.stepper)
    (hg : t.outputs.governor = s.outputs.governor) (hx : t.outputs.excitation = s.outputs.excitation)
    (hl : sameLooks s t) : Laden before t := by
  obtain ⟨h1, h2, h3, h4⟩ := h
  exact ⟨by rwa [he, hs], h2.of_same (by rw [hs]) (by rw [hs]) (by rw [hs]) hl, by rw [hs, h3],
    fun k => by rw [hs, hg, hx]; exact h4 (hw k)⟩

theorem Laden.of_driven (h : Laden before s) (hd : Driven s t) : Laden before t := by
  have hu := hd.unloads
  refine ⟨hu.outside h.outside, ?_, hu.speedRef.trans h.speedRef, fun k => ?_⟩
  · rcases hu.stepper with hs | ⟨-, -, ht, hr⟩
    · exact h.loads.of_same (by rw [hs]) (by rw [hs]) (by rw [hs]) hd.frame.looks
    · exact .of_zero ht hr
  · obtain ⟨h1, h2, h3⟩ := h.waiting (hd.awaiting ▸ k)
    refine ⟨?_, ?_, ?_⟩
    · rcases hu.stepper with hs | ⟨ht, -⟩
      · rw [hs, h1]
      · exact ht
    · rw [hd.outputs, hu.speedRef]
      exact h2
    · rw [hd.outputs]
      exact h3

theorem Laden.of_arbiter (h : Laden before s) (ha : ArbiterOnly s t) : Laden before t := by
  rw [ha]
  exact h.of_same rfl id rfl rfl rfl fun _ => rfl

theorem Laden.of_monitor (h : Laden before s) (hm : MonitorAndMarks s t) (hl : sameLooks s t) : Laden before t :=
  h.of_same (by rw [hm]) (by rw [hm]; exact id) (by rw [hm]) (by rw [hm]) (by rw [hm]) hl

theorem MonitorOnly.marks (h : MonitorOnly s t) : MonitorAndMarks s t := by
  unfold MonitorAndMarks
  rw [h]

theorem State.engineTrip_drive (s : State) : Driven s s.engineTrip := by
  have h1 := (((Driven.refl s).dropTimers.withStopKind none).withLayupMark false).enter .tripped
  unfold State.engineTrip
  split
  · exact Driven.refl s
  · exact h1.endStart .tripped
  · exact h1

theorem Laden.withTrip {onsets : State → State} (h : Laden before (onsets s)) : Laden before (s.withTrip onsets) := by
  unfold State.withTrip
  dsimp only
  split
  · exact (h.of_driven (State.engineTrip_drive _)).of_arbiter (State.protectionClaim_only _)
  · exact h

theorem Laden.rearmOnce (h : Laden before s) : Laden before s.rearmOnce := by
  unfold State.rearmOnce
  split
  · exact h
  · rename_i st hst
    split
    · exact h
    · have hm := s.rearmAll_only st
      refine Laden.withTrip (onsets := State.rearmAll st) (h.of_monitor hm.marks ?_)
      rw [hm]
      exact fun _ => rfl

theorem Laden.rearm (h : Laden before s) : Laden before s.rearm := h.rearmOnce.rearmOnce

theorem Laden.rearmed (judged : Bool) (h : Laden before s) : Laden before (before.rearmed judged s) := by
  unfold State.rearmed
  split
  · exact (h.rearm.of_driven (Driven.refl _).judgeWake).rearm
  · exact h.rearm

theorem ceilingOf_append (xs ys : List Channel) : ceilingOf (xs ++ ys) = min (ceilingOf xs) (ceilingOf ys) := by
  have h8 := ceilingOf_le ys
  unfold ceilingOf at h8 ⊢
  induction xs with
  | nil => exact (min_eq_right h8).symm
  | cons x xs ih =>
    rw [List.cons_append, List.foldr_cons, List.foldr_cons, ih]
    cases x.restraint with
    | none => rfl
    | some r => exact (min_assoc _ _ _).symm

/-- The close of an event leaves the Stepper sound, its speed reference that of the state where the state and the granted
notch stand with what the lookups find. -/
theorem Laden.close (h : Laden before s) (he : EngineSound s)
    (hspeed : before.engine.awaitingChoice = false → before.engine.state = s.engine.state →
      before.stepper.speedRef = before.formedSpeed ∧ (before.speedNotch ≠ none → sameLooks before s)) :
    StepperSound (before.close s) := by
  have hst : (before.close s).stepper = (before.stepperAnnounced (before.orderOnsets s)).stepper := rfl
  have hgov : (before.close s).outputs.governor = (before.stepperAnnounced (before.orderOnsets s)).outputs.governor := rfl
  have hexc : (before.close s).outputs.excitation = (before.stepperAnnounced (before.orderOnsets s)).outputs.excitation :=
    rfl
  have htn : (before.close s).targetNotch = (before.orderOnsets s).targetNotch :=
    State.targetNotch_of_same (by simp) (by simp) (by simp)
  have hstore : (before.close s).store = (before.stepperAnnounced (before.orderOnsets s)).store := rfl
  have hwait : (before.close s).engine.awaitingChoice = true → (before.close s).engine.state = none ∨
      (before.close s).engine.state = some .tripped := by
    rw [State.close_engine]
    exact he.waiting
  cases hc : s.engine.awaitingChoice with
  | true =>
    have hann : before.stepperAnnounced (before.orderOnsets s) = before.orderOnsets s := by
      unfold State.stepperAnnounced
      rw [if_pos (show (before.orderOnsets s).engine.awaitingChoice = true from hc)]
    rw [hann] at hst hgov hexc hstore
    have hne : s.engine.state ≠ some .running := by rcases he.waiting hc with e | e <;> rw [e] <;> simp
    have hz : (before.close s).targetNotch = 0 := State.targetNotch_not_running (by rw [State.close_engine]; exact hne)
    have hg : s.stepper.granted = 0 := h.outside hne
    obtain ⟨h1, h2, h3⟩ := h.waiting hc
    obtain ⟨h4, h5⟩ := h.loads.unloaded hg
    refine ⟨hwait, ?_, ?_, ?_, ?_, fun _ => ?_, fun k => ?_, ?_, ?_⟩
    · rw [hst, hz]; exact h1
    · rw [hst, hz]; exact hg.le
    · rw [hst]; exact h4.le.trans (Nat.zero_le _)
    · rw [hst]; exact h5.le.trans (Nat.zero_le _)
    · rw [hst]; exact ⟨h4, h5⟩
    · rw [State.close_engine, hc] at k; cases k
    · rw [hst, hgov]; exact h2
    · rw [hst, hexc]; exact h3.trans h5.symm
  | false =>
    obtain ⟨h1, h2, h3, h4, h5, h6⟩ :=
      State.stepperAnnounced_stepper (s := before.orderOnsets s) before hc
    obtain ⟨k1, k2, k3⟩ := h3 (h.loads.of_same rfl rfl rfl fun _ => rfl)
    have hform : (before.close s).formedSpeed = (before.stepperAnnounced (before.orderOnsets s)).formedSpeed := rfl
    refine ⟨hwait, ?_, ?_, by rw [hst, hstore]; exact k1, by rw [hst, hstore]; exact k2, by rw [hst]; exact k3,
      fun _ => ?_, by rw [hst, hgov]; exact h5, by rw [hst, hexc]; exact h6⟩
    · rw [hst, h1, htn]
    · rw [hst, h2, htn]
      exact min_le_right _ _
    · rw [hst, hform]
      rcases h4 with h4 | ⟨hsame, hw, hg, href⟩
      · exact h4
      · obtain ⟨hb, hlooks⟩ := hspeed (hw.trans hc) hsame
        rw [href]
        refine (h.speedRef.trans hb).trans (State.formedSpeed_of_same ?_ ?_ fun k => ?_).symm
        · rw [(before.announced_stepperFrame s).engine]
          exact hsame.symm
        · exact h2.trans hg.symm
        · exact (hlooks k).trans (before.announced_stepperFrame s).frame.looks

/-! ## The events -/

theorem State.chooseState_drive (s : State) :
    Driven { s with engine := { s.engine with awaitingChoice := false } } s.chooseState := by
  have h1 := Driven.refl { s with engine := { s.engine with awaitingChoice := false } }
  unfold State.chooseState
  dsimp only
  split_ifs
  · exact h1.enter _
  · exact h1.enterRunning
  · exact (h1.withStopKind _).enterRundown
  · exact (h1.withStopKind _).enterRundown
  · exact (h1.withStopKind _).enterRundown
  · exact (h1.enter .laidUp).upd _ _ _ _ rfl rfl rfl rfl
  · exact h1.enter _

theorem Laden.takeMeasurement (h : Laden before s) (was : SpeedQuality) : Laden before (s.takeMeasurement was) := by
  cases ha : s.engine.awaitingChoice with
  | false => exact h.of_driven ((Driven.refl s).takeMeasurement was ha)
  | true =>
    have h1 : Laden before { s with engine := { s.engine with awaitingChoice := false } } :=
      ⟨h.outside, h.loads.of_same rfl rfl rfl fun _ => rfl, h.speedRef, fun k => by cases k⟩
    unfold State.takeMeasurement
    rw [if_pos ha]
    exact h1.of_driven s.chooseState_drive

theorem State.scanOnsets_frame (s : State) (ks : List Lookup) : Frame s (State.scanOnsets ks s) := by
  have h1 : Frame s ((Channel.thresholds.foldl State.evaluate s).marked ks) :=
    State.marked_frame _ (Frame.foldl (fun _ c k => State.evaluate_frame c k) _ (Frame.refl s))
  unfold State.scanOnsets
  split
  · exact State.latchFault_frame h1
  · exact h1

theorem EventOf.laden {w : State} {judged : Bool} (he : EventOf u judged w) (h : Laden before u) : Laden before w := by
  have hdrop : Driven u u.dropPhaseTimer := (Driven.refl u).withSequencer _
  cases he with
  | scan raw =>
    have h1 : Laden before (u.takeScan raw) := h.of_same rfl id rfl rfl rfl fun _ => rfl
    have h2 : Laden before (u.takeScan raw).monitorScan := by
      rw [State.monitorScan_eq]
      exact Laden.withTrip (h1.of_monitor (State.scanOnsets_only _ _) (State.scanOnsets_frame _ _).looks)
    exact h2.of_driven (Driven.refl _).lubeComparison
  | measurement =>
    have h1 : Laden before u.measure := h.of_same rfl id rfl rfl rfl fun _ => rfl
    exact (h1.of_monitor (State.monitorQuality_only _ _).marks
      (State.monitorQuality_frame _ (Frame.refl _)).looks).takeMeasurement _
  | filterChange i =>
    have h1 : Laden before (u.withInput i (u.frontEnd.inputs.get i).settleFilter) :=
      h.of_same rfl id rfl rfl rfl fun _ => rfl
    have h2 : Laden before ((u.withInput i (u.frontEnd.inputs.get i).settleFilter).monitorInput i) := by
      unfold State.monitorInput
      split
      · exact h1
      · split_ifs
        · exact h1
        · exact Laden.withTrip (h1.of_monitor (State.onset_only _ _).marks (State.onset_frame _ (Frame.refl _)).looks)
        · exact h1.of_same rfl id rfl rfl rfl fun _ => rfl
        · exact h1
    unfold State.filterChange
    dsimp only
    split
    · exact h2.of_driven (Driven.refl _).judgeIsolation
    · exact h2
  | lapse l =>
    have h1 : Laden before (u.takeReport l) := h.of_same rfl id rfl rfl rfl fun _ => rfl
    unfold State.lapseEffect
    split
    · exact (h1.of_arbiter (State.releaseSource_only _ _)).of_same rfl id rfl rfl rfl fun _ => rfl
    · exact h1
  | faultOnset _ =>
    have h1 : Laden before { u with monitor := { u.monitor with faultReported := false } } :=
      h.of_same rfl id rfl rfl rfl fun _ => rfl
    exact h1.of_monitor (State.latchFault_only _).marks (State.latchFault_frame (Frame.refl _)).looks
  | prelubeEnd _ => exact h.of_driven hdrop.prelubeCheck
  | crankEnd _ => exact h.of_driven (hdrop.failAttempt _)
  | catchEnd _ => exact h.of_driven (hdrop.failAttempt _)
  | restEnd _ => exact h.of_driven hdrop.restTest
  | lubeWindowEnd _ => exact h.of_driven (hdrop.endStart _)
  | warmEnd _ => exact h.of_driven hdrop.warmCheck
  | lockoutEnd => exact h.of_same rfl id rfl rfl rfl fun _ => rfl
  | cooldownEnd _ => exact h.of_driven (Driven.refl u).enterRundown
  | rundownEnd _ => exact h.of_driven (Driven.refl u).endRundown
  | idleLimit => exact h.of_driven (Driven.refl u).layupRequest
  | entryJudgement => exact h.of_same rfl id rfl rfl rfl fun _ => rfl

/-! ## The orders -/

/-- The states from which no order comes to a write of the schedule: CRANK, CATCH, WARM and RUNNING to RUNDOWN. They hold
every state with a speed reference. -/
def EngineState.underway : EngineState → Bool
  | .starting .crank => true
  | .starting .catching => true
  | .starting .warm => true
  | .running => true
  | .isolated => true
  | .cooldown => true
  | .rundown => true
  | .starting .prelube => false
  | .starting .rest => false
  | .stopped => false
  | .laidUp => false
  | .tripped => false

/-- The engine in a state underway. -/
def State.underway (s : State) : Prop := ∃ st : EngineState, s.engine.state = some st ∧ st.underway = true

theorem State.underway_of_speedNotch (h : s.speedNotch ≠ none) : s.underway := by
  unfold State.speedNotch at h
  split at h <;> first | exact absurd rfl h | exact ⟨_, by assumption, rfl⟩

theorem State.underway_of (hst : s.engine.state = some .running ∨ s.engine.state = some .isolated ∨
    s.engine.state = some .cooldown ∨ s.engine.state = some .rundown) : s.underway := by
  rcases hst with h | h | h | h <;> exact ⟨_, h, rfl⟩

/-- A fuelled engine whose start fails runs down. -/
theorem State.failedStart_underway (h : s.outputs.fuelRun = true) : s.failedStart.underway := by
  unfold State.failedStart
  rw [if_pos (.inr h)]
  exact State.underway_of (.inr (.inr (.inr (by simp [State.enterRundown]))))

theorem State.enterRunning_underway (s : State) : s.enterRunning.underway := by
  unfold State.enterRunning
  split
  · exact State.underway_of (.inr (.inl (by simp)))
  · exact State.underway_of (.inl (by simp))

theorem State.beginStop_underway (s : State) (k : StopKind) : (s.beginStop k).underway := by
  unfold State.beginStop
  split
  · exact State.underway_of (.inr (.inr (.inl (by simp [State.enterCooldown]))))
  · exact State.underway_of (.inr (.inr (.inr (by simp [State.enterRundown]))))

theorem State.underway_of_engine (h : s.underway) (he : t.engine.state = s.engine.state) : t.underway := by
  obtain ⟨st, hst, hu⟩ := h
  exact ⟨st, he.trans hst, hu⟩

theorem State.judgeIsolation_underway (h : s.underway) : s.judgeIsolation.underway := by
  unfold State.judgeIsolation
  split_ifs
  · exact State.underway_of (.inr (.inl (by simp)))
  · exact State.underway_of (.inl (by simp))
  · exact h

theorem not_underway_of {st : EngineState} (h : s.underway) (hst : s.engine.state = some st) (hu : st.underway = false) :
    False := by
  obtain ⟨st', hst', hu'⟩ := h
  rw [hst] at hst'
  cases hst'
  rw [hu] at hu'
  cases hu'

theorem State.writeAdmitted_schedule {l : Link} (ha : s.writeAdmitted l .schedule = true) :
    s.engine.state = some .stopped := by
  simp only [State.writeAdmitted, Bool.and_eq_true, decide_eq_true_eq] at ha
  exact ha.2

theorem sameLooks_of_contents (hw : t.store.words = s.store.words) (hs : t.store.segments = s.store.segments) :
    sameLooks s t := by
  intro k
  unfold Store.look Store.found Store.faults Store.offset Store.word
  rw [hs, hw]

theorem State.writeSetting_looks (s : State) (k : Setting) (v : Nat) : sameLooks s (s.writeSetting k v) := by
  have h := s.writeSetting_store k v
  exact sameLooks_of_contents (by rw [h]) (by rw [h])

/-- An accepted action leaves a state underway underway, with what the lookups find. -/
theorem ActionEffect.underway {l : Link} {w : State} (ha : ActionEffect l s w) (he : EngineSound s)
    (hc : s.engine.awaitingChoice = false) (h : s.underway) : w.underway ∧ sameLooks s w := by
  have hdriven (hd : Driven s w) (hw : w.underway) : w.underway ∧ sameLooks s w := ⟨hw, hd.frame.looks⟩
  have harb (ho : ArbiterOnly s w) : w.underway ∧ sameLooks s w := by
    refine ⟨State.underway_of_engine h (by rw [ho.engine]), ?_⟩
    rw [ho]
    exact fun _ => rfl
  cases ha with
  | claim _ _ => exact harb (s.claimEffect_only _ _)
  | release _ => exact harb (s.releaseSource_only _)
  | notch _ _ => exact harb rfl
  | @start mode hn =>
    rcases State.startRefusal_none hn with k | k | k
    · exact absurd (not_underway_of h k rfl) id
    · exact absurd (not_underway_of h k rfl) id
    · exact absurd k (he.chosen hc)
  | stop hn =>
    refine hdriven (Driven.refl s).stopEffect ?_
    unfold State.stopEffect
    rcases State.stopRefusal_none hn with k | k | k | k | k | k
    · simp only [k]
      exact s.beginStop_underway _
    · simp only [k]
      exact s.beginStop_underway _
    · simp only [k]
      exact State.underway_of (.inr (.inr (.inl k)))
    · simp only [k]
      exact State.underway_of (.inr (.inr (.inr k)))
    · exact absurd (not_underway_of h k rfl) id
    · exact absurd k (he.chosen hc)
  | @cancelStart p hst =>
    refine hdriven ((Driven.refl s).endStart _) (State.failedStart_underway (s := s.closeStart .cancelled) ?_)
    rw [State.closeStart_fuelRun, he.fuel _ hc hst]
    cases p with
    | prelube => exact absurd (not_underway_of h hst rfl) id
    | rest => exact absurd (not_underway_of h hst rfl) id
    | crank | catching | warm => rfl
  | cancelCooldown _ => exact hdriven (Driven.refl s).cancelCooldown (State.enterRunning_underway _)
  | isolate on =>
    exact hdriven ((Driven.refl s).isolateEffect on) (State.judgeIsolation_underway (State.underway_of_engine h rfl))
  | layup _ _ => exact harb rfl
  | tripReset ht _ => exact absurd (not_underway_of h (he.trips.mp ht) rfl) id
  | read => exact ⟨h, fun _ => rfl⟩
  | @setting k v _ _ _ =>
    obtain ⟨heng, -⟩ := s.writeSetting_blocks k v
    exact ⟨State.underway_of_engine h (by rw [heng]), s.writeSetting_looks k v⟩
  | word _ _ haw => exact absurd (not_underway_of h (State.writeAdmitted_schedule haw) rfl) id
  | segment _ _ haw => exact absurd (not_underway_of h (State.writeAdmitted_schedule haw) rfl) id

/-- A write of the schedule finds the engine in STOPPED, where no load stands. -/
theorem Laden.scheduleWritten (h : Laden before s) {l : Link} (ha : s.writeAdmitted l .schedule = true) (v : Store) :
    Laden before ({ s with store := v } : State).clearScheduleFault := by
  have hg : s.stepper.granted = 0 := h.outside (by rw [State.writeAdmitted_schedule ha]; simp)
  obtain ⟨ht, hr⟩ := h.loads.unloaded hg
  exact ⟨h.outside, .of_zero ht hr, h.speedRef, h.waiting⟩

theorem ActionEffect.laden {l : Link} {w : State} (ha : ActionEffect l s w) (h : Laden before s) : Laden before w := by
  cases ha with
  | claim _ _ => exact h.of_arbiter (s.claimEffect_only _ _)
  | release _ => exact h.of_arbiter (s.releaseSource_only _)
  | notch _ _ => exact h.of_arbiter rfl
  | start _ => exact h.of_driven ((Driven.refl s).openStart _ _)
  | stop _ => exact h.of_driven (Driven.refl s).stopEffect
  | cancelStart _ => exact h.of_driven ((Driven.refl s).endStart _)
  | cancelCooldown _ => exact h.of_driven (Driven.refl s).cancelCooldown
  | isolate on => exact h.of_driven ((Driven.refl s).isolateEffect on)
  | layup _ _ => exact h.of_arbiter rfl
  | tripReset _ _ =>
    have h1 : Laden before { s with monitor := { s.monitor with trips := [] } } := h.of_same rfl id rfl rfl rfl fun _ => rfl
    exact (h1.of_arbiter (State.releaseSource_only _ .protection)).of_driven ((Driven.refl _).enter .stopped)
  | read => exact h
  | @setting k v _ _ _ =>
    obtain ⟨he, ho, -, -, -, -, hst, -⟩ := s.writeSetting_blocks k v
    exact h.of_same (by rw [he]) (by rw [he]; exact id) hst (by rw [ho]) (by rw [ho]) (s.writeSetting_looks k v)
  | word _ _ haw => exact h.scheduleWritten haw _
  | segment _ _ haw => exact h.scheduleWritten haw _

/-- What holds along the actions of an order that began in `before`, for the Stepper at its commit. -/
structure OrderView (before v : State) : Prop where
  laden : Laden before v
  engine : EngineSound v
  chosen : v.engine.awaitingChoice = false
  reset : v.resetSince = none
  underway : before.underway → v.underway ∧ sameLooks before v

theorem OrderView.action {l : Link} {v w : State} (ha : ActionEffect l v w) (h : OrderView before v) :
    OrderView before w := by
  obtain ⟨h1, h2, h3⟩ := ha.engineSound ⟨h.engine, h.chosen, h.reset⟩
  refine ⟨ha.laden h.laden, h1, h2, h3, fun k => ?_⟩
  obtain ⟨hu, hl⟩ := h.underway k
  obtain ⟨hu', hl'⟩ := ha.underway h.engine h.chosen hu
  exact ⟨hu', hl.trans hl'⟩

/-! ## The update -/

theorem StepperSound.updated (h : StepperSound s) (hc : s.engine.awaitingChoice = false) : StepperSound s.updated := by
  have hf := s.updateDue.update_stepperFrame
  have hst : s.updated.stepper = s.updateDue.update.stepper := rfl
  have htn : s.updateDue.targetNotch = s.targetNotch := rfl
  have htn' : s.updateDue.update.targetNotch = s.targetNotch := hf.targetNotch
  have hlk : sameLooks s s.updated := hf.frame.looks
  obtain ⟨f1, f2, -, f4, -⟩ := s.updateDue.formTarget_stepper
  have hl : LoadsWithin s.updateDue.formTarget := f4 ⟨h.loadTarget, h.loadRef, h.unloaded⟩
  have hg1 : s.updateDue.formTarget.stepper.granted ≤ s.targetNotch := by rw [f2]; exact min_le_right _ _
  have hff : StepperFrame s.updateDue s.updateDue.formTarget := (StepperFrame.refl _).formTarget
  -- what the last two steps of an update do to the state `v` that its loads leave
  have finish (v : State) (hv : s.updateDue.update = v.formSpeed.presentLoops) (ht : v.stepper.target = s.targetNotch)
      (hg : v.stepper.granted ≤ s.targetNotch) (hl : LoadsWithin v) : StepperSound s.updated := by
    obtain ⟨k1, k2⟩ := v.formSpeed_stepper
    have hst' : s.updated.stepper = { v.stepper with speedRef := v.formedSpeed } := by rw [hst, hv]; exact k1
    have hfv : StepperFrame v v.formSpeed := (StepperFrame.refl v).formSpeed
    have hlv : sameLooks v s.updated := by
      show sameLooks v s.updateDue.update
      rw [hv]
      exact hfv.frame.looks
    have hl' : LoadsWithin s.updated := hl.of_same (by rw [hst']) (by rw [hst']) (by rw [hst']) hlv
    have heng : s.updated.engine = s.engine := hf.engine
    have htu : s.updated.targetNotch = s.targetNotch := htn'
    refine ⟨fun k => ?_, ?_, ?_, hl'.loadTarget, hl'.loadRef, hl'.unloaded, fun _ => ?_, ?_, ?_⟩
    · rw [heng, hc] at k; cases k
    · rw [hst', htu]; exact ht
    · rw [hst', htu]; exact hg
    · have hsp : s.updated.formedSpeed = s.updateDue.update.formedSpeed := rfl
      rw [hsp, hv, hst']
      exact k2.symm
    · show s.updateDue.update.outputs.governor = s.updateDue.update.stepper.speedRef
      rw [hv]
      rfl
    · show s.updateDue.update.outputs.excitation = s.updateDue.update.stepper.loadRef
      rw [hv]
      rfl
  by_cases hr : s.engine.state = some .running
  · obtain ⟨r1, -, r3, r4⟩ := s.updateDue.formTarget.riseStep_stepper
    have hg2 : s.updateDue.formTarget.riseStep.stepper.granted ≤ s.targetNotch := by
      rw [← htn, ← hff.targetNotch]
      exact r3 (by rw [hff.targetNotch, htn]; exact hg1)
    have ht2 : s.updateDue.formTarget.riseStep.stepper.target = s.targetNotch := by rw [r1, f1, htn]
    by_cases hone : 1 ≤ s.updateDue.formTarget.riseStep.stepper.granted
    · refine finish s.updateDue.formTarget.riseStep.loadArithmetic ?_ ht2 hg2 ((r4 hl).loadArithmetic hone)
      unfold State.update
      dsimp only
      rw [if_pos (show s.updateDue.engine.state = some .running from hr), if_pos hone]
    · refine finish s.updateDue.formTarget.riseStep.noLoad ?_ ht2 hg2 (.of_zero rfl rfl)
      unfold State.update
      dsimp only
      rw [if_pos (show s.updateDue.engine.state = some .running from hr), if_neg hone]
  · refine finish s.updateDue.formTarget.noLoad ?_ (by rw [← htn, ← f1]; rfl) hg1 (.of_zero rfl rfl)
    unfold State.update
    rw [if_neg (show ¬ s.updateDue.engine.state = some .running from hr)]

/-! ## The steps -/

/-- Soundness of the Stepper reads the Stepper but for its instants, the engine's state, the Arbiter, the Condition List,
the lookups and the two loops. -/
theorem StepperSound.of_same (h : StepperSound s) (he : t.engine = s.engine) (ha : t.arbiter = s.arbiter)
    (hm : t.monitor.conditions = s.monitor.conditions)
    (hs : t.stepper = { s.stepper with dwellMark := t.stepper.dwellMark, nextUpdate := t.stepper.nextUpdate })
    (hg : t.outputs.governor = s.outputs.governor) (hx : t.outputs.excitation = s.outputs.excitation)
    (hl : sameLooks s t) : StepperSound t := by
  have htn : t.targetNotch = s.targetNotch := State.targetNotch_of_same (by rw [he]) ha (by rw [hm])
  have hl' : LoadsWithin t := LoadsWithin.of_same ⟨h.loadTarget, h.loadRef, h.unloaded⟩ (by rw [hs]) (by rw [hs]) (by rw [hs]) hl
  refine ⟨by rw [he]; exact h.waiting, ?_, ?_, hl'.loadTarget, hl'.loadRef, hl'.unloaded, fun k => ?_, ?_, ?_⟩
  · rw [htn, ← h.target, hs]
  · rw [htn, hs]
    exact h.granted
  · rw [State.formedSpeed_of_same (s := s) (by rw [he]) (by rw [hs]) fun _ => hl, ← h.speed (he ▸ k), hs]
  · rw [hg, h.governor, hs]
  · rw [hx, h.excitation, hs]

theorem State.rearmed_frame (before : State) (judged : Bool) (s : State) : Frame s (before.rearmed judged s) := by
  unfold State.rearmed
  split
  · exact State.rearm_frame (State.judgeWake_frame (State.rearm_frame (Frame.refl s)))
  · exact State.rearm_frame (Frame.refl s)

theorem EngineSound.rearmed (before : State) (judged : Bool) (h : EngineSound s) :
    EngineSound (before.rearmed judged s) := by
  unfold State.rearmed
  split
  · exact h.rearm.judgeWake.rearm
  · exact h.rearm

theorem EventOf.stepperSound {w : State} {judged : Bool} (ho : EventOf u judged w) (h : StepperSound u) (he : EngineSound u)
    (hr : u.resetSince = none) : StepperSound (u.settle judged w) := by
  rw [State.settle_eq_close]
  refine ((ho.laden h.laden).rearmed judged).close ((ho.engineSound he hr).rearmed u judged) fun hc _ =>
    ⟨h.speed hc, fun _ => ?_⟩
  obtain ⟨p, f, hframe⟩ := ho.framed
  exact sameLooks.trans (t := w) hframe.looks (u.rearmed_frame judged w).looks

theorem StepperSound.commit {as : List Sys2Proof.Action} {w : State} (h : StepperSound s) (hv : OrderView s w) :
    StepperSound (s.commit as w) := by
  have hd := (Driven.refl w).completed as
  show StepperSound (s.settle _ (w.completed as))
  rw [State.settle_eq_close]
  refine ((hv.laden.of_driven hd).rearmed _).close ((hv.engine.completed hv.chosen as).rearmed s _) fun hc _ =>
    ⟨h.speed hc, fun hn => ?_⟩
  obtain ⟨-, hl⟩ := hv.underway (State.underway_of_speedNotch hn)
  exact (hl.trans hd.frame.looks).trans (s.rearmed_frame _ _).looks

/-- An unpowered or just powered part, or one in which RESET-LINE is asserted: everything at 0. -/
theorem StepperSound.of_zero (hw : t.engine.awaitingChoice = true) (he : t.engine.state = none ∨ t.engine.state = some .tripped)
    (h1 : t.stepper.target = 0) (h2 : t.stepper.granted = 0) (h3 : t.stepper.loadTarget = 0) (h4 : t.stepper.loadRef = 0)
    (hg : t.outputs.governor = t.stepper.speedRef) (hx : t.outputs.excitation = t.stepper.loadRef) : StepperSound t := by
  have hz : t.targetNotch = 0 := State.targetNotch_not_running (by rcases he with e | e <;> rw [e] <;> simp)
  refine ⟨fun _ => he, by rw [h1, hz], by rw [h2, hz], by rw [h3]; exact Nat.zero_le _, by rw [h4]; exact Nat.zero_le _,
    fun _ => ⟨h3, h4⟩, fun k => ?_, hg, hx⟩
  rw [hw] at k
  cases k

theorem StepOutcome.stepperSound (ho : StepOutcome s t) (h : StepperSound s) (he : EngineSound s) : StepperSound t := by
  have hlater {u : State} (hu : Later s u) : StepperSound u ∧ EngineSound u := by
    rw [hu.1]
    exact ⟨h.of_same rfl rfl rfl rfl rfl rfl fun _ => rfl, he.of_same rfl rfl rfl rfl rfl Iff.rfl Iff.rfl⟩
  cases ho with
  | calm hc =>
    refine h.of_same hc.engine hc.arbiter (by rw [hc.monitor]) ?_ (by rw [hc.outputs]) (by rw [hc.outputs])
      fun k => by rw [hc.store]
    rw [hc.stepper]
  | event hu hlive hev =>
    refine hev.stepperSound (hlater hu).1 (hlater hu).2 ?_
    rw [hu.1]
    exact (s.live_iff.mp hlive).2
  | @order l as w body hopen hrun =>
    obtain ⟨hlive, hchosen⟩ := s.orderUnitOpen_iff.mp hopen
    have hv : OrderView s w := State.runActions_keeps (P := OrderView s) (fun _ _ => OrderView.action) hrun
      ⟨h.laden, he, hchosen, (s.live_iff.mp hlive).2, fun k => ⟨k, fun _ => rfl⟩⟩
    exact (h.commit hv).of_same rfl rfl rfl rfl rfl rfl fun _ => rfl
  | update _ hc => exact h.updated hc
  | powerOn after raw levels => exact .of_zero rfl (.inl rfl) rfl rfl rfl rfl rfl rfl
  | loss after levels => exact .of_zero rfl (.inl rfl) rfl rfl rfl rfl rfl rfl
  | assertion after _ =>
    exact .of_zero rfl ((hlater (s.elapse_later after)).2.assertReset.waiting rfl) rfl rfl rfl rfl rfl rfl
  | exit after since raw _ => exact h.of_same rfl rfl rfl rfl rfl rfl fun _ => rfl

end

/-- Settles O59: every event closes with the granted notch lowered to the target, the loads clamped with it and the
references presented. -/
theorem stepperStaysSound : Obligations.StepperStaysSound := by
  intro s t hs he hstep
  obtain ⟨rest, ho⟩ := step_outcome hstep
  exact ho.stepperSound (hs.of_same rfl rfl rfl rfl rfl rfl fun _ => rfl) (he.of_same rfl rfl rfl rfl rfl Iff.rfl Iff.rfl)

end Sys2Proof.Machine
end

section
/-! The clock, the first state, the resets and the supply: O1, O3, O4, O5, O6, O7. -/

namespace Sys2Proof.Machine

/-- Settles O1, by the two cases of the queue. -/
theorem stepRunsTheFrontCommand : Obligations.StepRunsTheFrontCommand := fun _ _ _ => ⟨rfl, rfl⟩

/-! ## The first state -/

section

theorem State.reset_storeSound : StoreSound State.reset where
  words := wordsWellFormed_reset
  segments g := by cases g <;> (unfold SegmentEntry.legal; decide)
  settings k := by cases k <;> decide
  ranks l m h := by cases l <;> cases m <;> revert h <;> decide

theorem State.reset_engineSound : EngineSound State.reset := by
  constructor <;> simp [State.reset, State.poweredUp, Engine.reset, Sequencer.reset, Sequencer.idle, Outputs.reset,
    Monitor.reset]

end

/-- Settles O3: the blocks at their POWER-ON values are sound, and the contents are those of the factory. -/
theorem resetStateIsSound : Obligations.ResetStateIsSound := by
  refine ⟨State.reset_storeSound, fun l => ?_, AuthoritySound.of_reset rfl, State.reset_engineSound,
    MonitorSound.of_reset rfl rfl rfl, StepperSound.of_zero rfl (.inl rfl) rfl rfl rfl rfl rfl rfl,
    IdleSound.of_not_runs rfl (.inl rfl), ?_, rfl, rfl, rfl, rfl, rfl, fun l => ?_, rfl, rfl⟩
  · cases l <;> exact .fresh _ _
  · simp [ProtectionHoldsTrips, State.reset, State.poweredUp, Monitor.reset, State.holder, Arbiter.reset]
  · cases l <;> exact ⟨rfl, rfl⟩

/-! ## POWER-ON and the loss of supply -/

/-- An input at the POWER-ON exit (R171). -/
theorem State.poweredInput_eq (s : State) (levels : PerInput Bool) (i : Input) :
    s.poweredInput levels i = ⟨levels.get i, selectedLevel (s.settings.get (levelSetting i)) (levels.get i), false,
      if selectedLevel (s.settings.get (levelSetting i)) (levels.get i) then some s.now else none⟩ := by
  unfold State.poweredInput InputState.refresh State.selectedAt
  cases selectedLevel (s.settings.get (levelSetting i)) (levels.get i) <;> rfl

theorem Store.clearMarks_get (st : Store) (g : SegmentId) :
    st.clearMarks.segments.get g = { st.segments.get g with faultMark := false } := by cases g <;> rfl

/-- Settles O4, value by value. -/
theorem powerOnTakesItsValues : Obligations.PowerOnTakesItsValues := by
  intro after raw levels s
  refine ⟨_, rfl, rfl, rfl, rfl, rfl, rfl, rfl, rfl, rfl, rfl, rfl, rfl, rfl, rfl, rfl, fun g => ?_, fun l => ?_,
    fun i => ?_, rfl, rfl, rfl, rfl, rfl, rfl, rfl, rfl, rfl, rfl, rfl, rfl, rfl, rfl, rfl⟩
  · exact s.store.clearMarks_get g
  · exact PerLink.get_all _ l
  · exact (PerInput.get_build _ i).trans ((s.elapse after).poweredInput_eq levels i)

/-- Settles O5, by whether the part is supplied. -/
theorem lossOfSupplyKeepsTheStores : Obligations.LossOfSupplyKeepsTheStores := by
  intro after s
  refine ⟨_, rfl, fun hs => ?_, fun hs => ?_⟩
  · rw [if_pos (show (s.elapse after).supply = true from hs)]
    refine ⟨rfl, rfl, sameContents_of_clearMarks rfl, rfl, rfl, rfl, fun l => by cases l <;> rfl, fun i => ?_⟩
    calc (((s.elapse after).powerOnValues (s.elapse after).rawLevels).frontEnd.inputs.get i).raw
        = ((s.elapse after).poweredInput (s.elapse after).rawLevels i).raw :=
          congrArg InputState.raw (PerInput.get_build _ i)
      _ = (s.elapse after).rawLevels.get i := by rw [State.poweredInput_eq]
      _ = (s.frontEnd.inputs.get i).raw := PerInput.get_build _ i
  · rw [if_neg (show ¬ (s.elapse after).supply = true by rw [State.elapse_supply, hs]; decide)]
    rfl

/-! ## RESET-LINE -/

/-- The sequencer at the assertion (R51, R79). -/
theorem State.asserted_sequencer (s : State) : s.assertReset.sequencer = ⟨none, none, none, none, none, none,
    if s.startRuns then s.sequencer.record.map (fun r => { r with outcome := .reset }) else s.sequencer.record,
    s.sequencer.lockoutEnd, s.sequencer.creditEnd⟩ := by
  show s.sequencer.asserted s.startRuns = _
  unfold Sequencer.asserted
  split <;> rfl

theorem State.asserted_arbiter (s : State) : s.assertReset.arbiter = Arbiter.asserted (!s.monitor.trips.isEmpty) := rfl

/-- Settles O6, value by value; the Arbiter by whether a trip is listed. -/
theorem resetLineAssertionKeepsWhatItMust : Obligations.ResetLineAssertionKeepsWhatItMust := by
  intro after s hlive hgov
  have hsup := (s.live_iff.mp hlive).1
  have hrun : exec (.resetLineAssert after) s = .next (s.elapse after).assertReset := by
    show Host.Outcome.next (if (s.elapse after).live then _ else _) = _
    rw [if_pos (show (s.elapse after).live = true from hlive)]
  refine ⟨_, hrun, rfl, rfl, hsup, rfl, rfl, ?_, rfl, (s.elapse after).asserted_sequencer, rfl, rfl, rfl, rfl, rfl, rfl,
    rfl, rfl, rfl, fun c => ?_, fun ht => ?_, fun ht => ?_, rfl, fun l => by cases l <;> rfl, rfl, rfl, fun i => ?_⟩
  · show (⟨false, false, s.outputs.fuelRun, _, s.stepper.speedRef, 0⟩ : Outputs) = _
    rw [hgov]
    rfl
  · split
    · subst_vars
      rfl
    · rename_i hc
      exact (PerChannel.get_set_ne _ _ hc).trans (PerChannel.get_all _ c)
  · rw [State.asserted_arbiter, State.elapse_monitor, ht]
    rfl
  · have harb : (s.elapse after).assertReset.arbiter = Arbiter.asserted true := by
      rw [State.asserted_arbiter, State.elapse_monitor]
      cases hs : s.monitor.trips with
      | nil => exact absurd hs ht
      | cons a l => rfl
    refine ⟨by rw [harb]; rfl, by rw [harb]; rfl, ?_, ?_, fun l => ?_⟩
    · simp [State.authorityNotch, State.holder, harb, Arbiter.asserted]
    · rw [State.entry, harb]
      rfl
    · rw [State.entry, harb]
      cases l <;> rfl
  · exact PerInput.get_build _ i

/-- Settles O7, value by value. -/
theorem resetLineExitStartsAfresh : Obligations.ResetLineExitStartsAfresh := by
  intro after since raw s hsup hres hle
  have hrun : exec (.resetLineExit after raw) s = .next (((s.elapse after).exitReset since).takeScan raw) := by
    show Host.Outcome.next (if (s.elapse after).supply then _ else _) = _
    rw [if_pos (show (s.elapse after).supply = true from hsup)]
    show Host.Outcome.next (match s.resetSince with | some since => _ | none => _) = _
    rw [hres]
  have hin (i : Input) : (((s.elapse after).exitReset since).takeScan raw).frontEnd.inputs.get i =
      (s.frontEnd.inputs.get i).refresh (s.selectedAt i (s.frontEnd.inputs.get i).raw) (s.now + after) :=
    PerInput.get_build _ i
  refine ⟨_, hrun, rfl, rfl, hsup, rfl, rfl, rfl, rfl, rfl, rfl, rfl, fun l => by cases l <;> rfl, rfl, rfl, rfl, rfl, rfl,
    rfl, rfl, rfl, rfl, rfl, rfl, rfl, rfl, rfl, fun i => ?_, rfl, rfl⟩
  rw [hin]
  exact ⟨rfl, rfl, rfl⟩

end Sys2Proof.Machine
end

section
/-! The Front End's rows: pulses and edges, the scan, the measurement and the speed quality; and the bounds of the load
terms (O31, O34, O35, O39, O52). -/

namespace Sys2Proof.Machine

/-! ## The rows -/

section

variable {s : State}

theorem exec_sensorScan (raw : PerAnalog Int) (h : s.live = true) :
    exec (.sensorScan raw) s = .next ((s.reach s.frontEnd.nextScan).settle true
      ((s.reach s.frontEnd.nextScan).scanChange raw)) := by
  show Host.Outcome.next (if s.live then _ else s) = _
  rw [if_pos h]
  rfl

theorem exec_speedMeasurement (h : s.live = true) :
    exec .speedMeasurement s = .next ((s.reach s.frontEnd.nextMeasurement).settle s.engine.awaitingChoice
      (s.reach s.frontEnd.nextMeasurement).measurementChange) := by
  show Host.Outcome.next (if s.live then _ else s) = _
  rw [if_pos h]
  rfl

/-- Of all that no close touches, a scan moves the scan alone. -/
theorem State.settle_scan_frame (u before : State) (judged : Bool) (raw : PerAnalog Int) :
    Frame (u.takeScan raw) (before.settle judged (u.scanChange raw)) :=
  State.settle_frame before judged (State.lubeComparison_frame (State.monitorScan_frame (Frame.refl (u.takeScan raw))))

/-- Of all that no close touches, a measurement moves the Front End's part of it alone. -/
theorem State.settle_measurement_frame (u before : State) (judged : Bool) :
    Frame u.measure (before.settle judged u.measurementChange) :=
  State.settle_frame before judged (State.takeMeasurement_frame u.frontEnd.quality
    (State.monitorQuality_frame u.frontEnd.quality (Frame.refl u.measure)))

end

/-- Settles O39, by whether the part acts and, for an edge, whether the selected level changes. -/
theorem pulsesAndEdgesReachThePins : Obligations.PulsesAndEdgesReachThePins := by
  intro after i level s
  constructor
  · show Host.Outcome.next (if s.live then _ else _) = _
    cases s.live <;> rfl
  · show Host.Outcome.next (if s.live then _ else _) = _
    cases s.live with
    | false => simp [State.withInput, State.elapse]
    | true =>
      show Host.Outcome.next ((s.elapse after).withInput i (InputState.edge _ _ _ _)) = _
      unfold InputState.edge
      simp only [Bool.true_eq_false, false_or]
      rfl

/-! ## The scan -/

theorem clampInt_eq {lo hi : Int} (h : lo ≤ hi) (v : Int) : clampInt lo hi v = min hi (max lo v) := by
  unfold clampInt
  split_ifs <;> omega

theorem analogRange_le (c : Analog) : (analogRange c).1 ≤ (analogRange c).2 := by cases c <;> decide

theorem scanValues_get (raw : PerAnalog Int) (c : Analog) : (scanValues raw).get c = clampReading c (raw.get c) := by
  cases c <;> rfl

theorem clampedMarks_get (raw : PerAnalog Int) (c : Analog) : (clampedMarks raw).get c = outOfRange c (raw.get c) := by
  cases c <;> rfl

theorem outOfRange_iff (c : Analog) (v : Int) :
    outOfRange c v = true ↔ v < (analogRange c).1 ∨ (analogRange c).2 < v := by
  have h := analogRange_le c
  rw [outOfRange, clampReading, clampInt_eq h, bne_iff_ne]
  omega

/-- Settles O31: the close of the scan's event leaves the Front End. -/
theorem scanClampsEveryChannel : Obligations.ScanClampsEveryChannel := by
  intro raw s hlive
  have hf := State.settle_scan_frame (s.reach s.frontEnd.nextScan) (s.reach s.frontEnd.nextScan) true raw
  refine ⟨_, exec_sensorScan raw hlive, hf.now, fun c => ⟨?_, ?_, ?_⟩, rfl, rfl, rfl, rfl, rfl, rfl, rfl, ?_, hf.ports,
    hf.settings, hf.pending⟩
  · rw [hf.frontEnd]
    rfl
  · rw [hf.reading]
    exact (scanValues_get raw c).trans (clampInt_eq (analogRange_le c) _)
  · rw [hf.frontEnd]
    show (clampedMarks raw).get c = true ↔ _
    rw [clampedMarks_get]
    exact outOfRange_iff c _
  · rw [hf.frontEnd]
    rfl

/-! ## The measurement -/

/-- A run rises by one to at most 3 or returns to 0: it reaches 3 from 2 alone. -/
theorem reachesThree_run (b : Bool) (n : Nat) :
    reachesThree n (if b then min 3 (n + 1) else 0) = (b && decide (n = 2)) := by
  cases b
  · simp [reachesThree]
  · simp only [reachesThree, if_true, Bool.true_and, ← Bool.decide_and]
    exact decide_eq_decide.mpr (by omega)

/-- A silent measurement under fuel (R164). -/
def FrontEnd.silent (f : FrontEnd) (fuel : Bool) : Bool := decide (f.pulseCount = 0) && fuel && decide (250 ≤ f.settled)

theorem FrontEnd.nextSilenceRun_eq (f : FrontEnd) (fuel : Bool) :
    f.nextSilenceRun fuel = if f.silent fuel then min 3 (f.silenceRun + 1) else 0 := by
  simp [FrontEnd.nextSilenceRun, FrontEnd.silent, and_assoc]

theorem FrontEnd.plausible_iff (f : FrontEnd) :
    f.plausible = true ↔ f.jumps = false ∧ (f.quality = .lost → f.pulseCount ≠ 0) := by
  simp [FrontEnd.plausible, or_iff_not_imp_left]

/-- What R164's table makes of the runs and of the quality, with its two events named. -/
theorem FrontEnd.judgeQuality_eq (f : FrontEnd) (fuel : Bool) :
    f.judgeQuality fuel =
      let g : FrontEnd := { f with
        jumpRun := if f.jumps then min 3 (f.jumpRun + 1) else 0
        silenceRun := if f.silent fuel then min 3 (f.silenceRun + 1) else 0 }
      let recovered : FrontEnd :=
        if f.plausible then
          if 9 ≤ f.recoveryRun then { g with quality := .good, jumpRun := 0, silenceRun := 0, recoveryRun := 0 }
          else { g with recoveryRun := f.recoveryRun + 1 }
        else { g with recoveryRun := 0 }
      if (f.jumps && decide (f.jumpRun = 2)) = true then
        if f.quality = .erratic then g else { g with quality := .erratic, recoveryRun := 0 }
      else if (f.silent fuel && decide (f.silenceRun = 2)) = true then
        if f.quality = .lost then g else { g with quality := .lost, recoveryRun := 0 }
      else if f.quality = .good then g else recovered := by
  have hten : (10 ≤ f.recoveryRun + 1) = (9 ≤ f.recoveryRun) := propext (by omega)
  unfold FrontEnd.judgeQuality
  rw [FrontEnd.nextSilenceRun_eq, FrontEnd.nextJumpRun]
  simp only [reachesThree_run, hten]
  cases f.quality <;> rfl

/-- The runs and the speeds are judged from the count, which they leave. -/
theorem FrontEnd.judgeQuality_pins (f : FrontEnd) (fuel : Bool) :
    (f.judgeQuality fuel).pulses = f.pulses ∧ (f.judgeQuality fuel).pulseCount = f.pulseCount ∧
      (f.judgeQuality fuel).measured = f.measured ∧ (f.judgeQuality fuel).previous = f.previous ∧
      (f.judgeQuality fuel).nextMeasurement = f.nextMeasurement ∧ (f.judgeQuality fuel).scan = f.scan ∧
      (f.judgeQuality fuel).clamped = f.clamped ∧ (f.judgeQuality fuel).inputs = f.inputs ∧
      (f.judgeQuality fuel).settled = f.settled ∧ (f.judgeQuality fuel).reported = f.reported := by
  rw [FrontEnd.judgeQuality_eq]
  dsimp only
  split_ifs <;> exact ⟨rfl, rfl, rfl, rfl, rfl, rfl, rfl, rfl, rfl, rfl⟩

theorem FrontEnd.judgeSpeed_eq (f : FrontEnd) (was : SpeedQuality) :
    f.judgeSpeed was = { f with reported := (f.judgeSpeed was).reported, settled := (f.judgeSpeed was).settled } := by
  unfold FrontEnd.judgeSpeed
  split_ifs <;> rfl

/-- Settles O34: the rest of the measurement's event leaves the count. -/
theorem measurementCountsPulses : Obligations.MeasurementCountsPulses := by
  intro s hlive
  have hf := State.settle_measurement_frame (s.reach s.frontEnd.nextMeasurement) (s.reach s.frontEnd.nextMeasurement)
    s.engine.awaitingChoice
  obtain ⟨hpulses, hcount, hmeasured, hprevious, hnext, hscan, hclamped, hinputs, -, -⟩ :=
    FrontEnd.judgeQuality_pins (s.reach s.frontEnd.nextMeasurement).countPulses.frontEnd s.outputs.fuelRun
  have hnow : ((s.reach s.frontEnd.nextMeasurement).settle s.engine.awaitingChoice
      (s.reach s.frontEnd.nextMeasurement).measurementChange).now = max s.now s.frontEnd.nextMeasurement := hf.now
  refine ⟨_, exec_speedMeasurement hlive, hnow, ?_, ?_, ?_, ?_, ?_, ?_, ?_, ?_, hf.ports, hf.pending⟩
  all_goals rw [hf.frontEnd, State.measure, FrontEnd.judgeSpeed_eq]
  · rw [hnow]
    exact hpulses
  · exact hcount.trans (congrArg List.length hpulses.symm)
  · exact hmeasured.trans (congrArg (fun n => some (speedOf n s.settings.flywheelTeeth)) hcount.symm)
  · exact hprevious
  · exact hnext
  · exact hscan
  · exact hclamped
  · exact hinputs

/-! ## The speed quality -/

/-- The jump of a measurement is one from the measured speed before (R164). -/
theorem FrontEnd.jumps_eq {f : FrontEnd} {m : Nat} (hm : f.measured = some m) :
    f.jumps = match f.previous with | some p => decide (150 < distance m p) | none => false := by
  unfold FrontEnd.jumps
  rw [hm]
  cases f.previous <;> rfl

/-- The quality after a measurement, by the quality before and the two events of R164. -/
theorem FrontEnd.judgeQuality_table (f g : FrontEnd) (fuel j q : Bool) (hg : f.judgeQuality fuel = g)
    (hj : j = (f.jumps && decide (f.jumpRun = 2))) (hq : q = (f.silent fuel && decide (f.silenceRun = 2))) :
    (g.quality = f.quality ∨ g.quality ≠ .good →
      g.jumpRun = (if f.jumps then min 3 (f.jumpRun + 1) else 0) ∧
      g.silenceRun = (if f.silent fuel then min 3 (f.silenceRun + 1) else 0)) ∧
    (f.quality = .good → g.quality = if j then .erratic else if q then .lost else .good) ∧
    (f.quality ≠ .good → j = false → q = false →
      (f.jumps = false → (f.quality = .lost → g.pulseCount ≠ 0) →
        (if 9 ≤ f.recoveryRun then g.quality = .good ∧ g.jumpRun = 0 ∧ g.silenceRun = 0 ∧ g.recoveryRun = 0
        else g.quality = f.quality ∧ g.recoveryRun = f.recoveryRun + 1)) ∧
      (f.jumps = true ∨ (f.quality = .lost ∧ g.pulseCount = 0) → g.quality = f.quality ∧ g.recoveryRun = 0)) ∧
    (f.quality = .erratic → j = true → g.quality = .erratic) ∧
    (f.quality = .erratic → j = false → q = true → g.quality = .lost ∧ g.recoveryRun = 0) ∧
    (f.quality = .lost → j = true → g.quality = .erratic ∧ g.recoveryRun = 0) ∧
    (f.quality = .lost → j = false → q = true → g.quality = .lost) := by
  have hcount : g.pulseCount = f.pulseCount := by
    rw [← hg]
    exact (f.judgeQuality_pins fuel).2.1
  rw [hcount]
  have hplausible := f.plausible_iff
  rw [FrontEnd.judgeQuality_eq, ← hj, ← hq] at hg
  clear hj hq hcount
  dsimp only at hg
  split_ifs at hg <;> subst hg
  all_goals simp_all
  exact fun hgood => absurd hgood.symm ‹_›

/-- The speeds after a measurement (R165). -/
theorem FrontEnd.judgeSpeed_table (g h : FrontEnd) (was : SpeedQuality) (m : Nat) (hh : g.judgeSpeed was = h)
    (hm : g.measured = some m) :
    (h.quality = .good → h.reported = m) ∧
    (h.quality = .good → was ≠ .good ∨ h.jumpRun = 0 ∧ h.silenceRun = 0 → h.settled = m) ∧
    (h.quality ≠ .good → was = .good → h.reported = g.settled ∧ h.settled = g.settled) ∧
    (h.quality ≠ .good → was ≠ .good → h.reported = g.reported ∧ h.settled = g.settled) ∧
    (h.quality = .good → was = .good → h.jumpRun ≠ 0 ∨ h.silenceRun ≠ 0 → h.settled = g.settled) := by
  unfold FrontEnd.judgeSpeed at hh
  dsimp only at hh
  split_ifs at hh <;> subst hh <;> simp_all

/-- The speeds are formed from the runs and the count, which they leave. -/
theorem FrontEnd.judgeSpeed_runs {g h : FrontEnd} {was : SpeedQuality} (hh : g.judgeSpeed was = h) :
    h.quality = g.quality ∧ h.jumpRun = g.jumpRun ∧ h.silenceRun = g.silenceRun ∧ h.recoveryRun = g.recoveryRun ∧
      h.pulseCount = g.pulseCount ∧ h.measured = g.measured := by
  rw [← hh, FrontEnd.judgeSpeed_eq]
  exact ⟨rfl, rfl, rfl, rfl, rfl, rfl⟩

/-- Settles O35: the table of R164 by the quality and its two events, then that of R165. -/
theorem qualityFollowsTheRuns : Obligations.QualityFollowsTheRuns := by
  intro jump quiet j q m s t hlive hrun hm hjump hquiet hj hq
  obtain ⟨f, hf⟩ : ∃ f, (s.reach s.frontEnd.nextMeasurement).countPulses.frontEnd = f := ⟨_, rfl⟩
  obtain ⟨g, hg⟩ : ∃ g, f.judgeQuality s.outputs.fuelRun = g := ⟨_, rfl⟩
  obtain ⟨h, hh⟩ : ∃ h, g.judgeSpeed s.frontEnd.quality = h := ⟨_, rfl⟩
  have hfront : t.frontEnd = h := by
    rw [exec_speedMeasurement hlive] at hrun
    cases hrun
    rw [← hh, ← hg, ← hf]
    exact (State.settle_measurement_frame _ _ s.engine.awaitingChoice).frontEnd
  obtain ⟨equality, ejump, esilence, erecovery, ecount, emeasured⟩ := FrontEnd.judgeSpeed_runs hh
  have hpins := f.judgeQuality_pins s.outputs.fuelRun
  rw [hg] at hpins
  obtain ⟨-, hcount, hmeasured, -, -, -, -, -, hsettled, hreported⟩ := hpins
  rw [hfront] at hm hjump hquiet ⊢
  have hjumps : jump = f.jumps := by
    rw [hjump, FrontEnd.jumps_eq (hmeasured.symm.trans (emeasured.symm.trans hm)), hm, ← hf]
    rfl
  have hsilent : quiet = f.silent s.outputs.fuelRun := by
    rw [hquiet, FrontEnd.silent, ecount, hcount, ← hf]
    rfl
  have hspeed := FrontEnd.judgeSpeed_table g h s.frontEnd.quality m hh (emeasured.symm.trans hm)
  rw [hsettled, hreported] at hspeed
  have hquality := FrontEnd.judgeQuality_table f g s.outputs.fuelRun j q hg
    (by rw [hj, hjumps, ← hf]; rfl) (by rw [hq, hsilent, ← hf]; rfl)
  rw [← equality, ← ejump, ← esilence, ← erecovery, ← ecount, ← hjumps, ← hsilent] at hquality
  subst hf
  obtain ⟨hruns, hgood, hother, hjumped, hfell, hrose, hstayed⟩ := hquality
  exact ⟨hruns, hgood, hother, hjumped, hfell, hrose, hstayed, hspeed⟩

/-! ## The load terms -/

/-- One move of the load reference stays between the reference and the target (R104, R105). -/
theorem rampLoad_between (ref target up down : Nat) (hold : Bool) :
    (ref ≤ target → ref ≤ rampLoad ref target up down hold ∧ rampLoad ref target up down hold ≤ target) ∧
    (target ≤ ref → target ≤ rampLoad ref target up down hold ∧ rampLoad ref target up down hold ≤ ref) := by
  unfold rampLoad
  split_ifs <;> omega

/-- Settles O52: the terms are bounded by the clamps of their lookups and by 1000. -/
theorem loadTermsStayInRange : Obligations.LoadTermsStayInRange := by
  intro T P notch ref target up down hold s
  obtain ⟨hup, hdown⟩ := rampLoad_between ref target up down hold
  refine ⟨fun h => if_pos h, fun h => ?_, fun h => if_pos h, fun h => ?_, s.store.loadCeiling_le notch,
    s.ambientDerate_le, factorOf_le _, min_le_left _ _, ?_, hup, hdown⟩
  · rw [intakeBand, if_neg (by omega)]
    omega
  · rw [baroBand, if_neg (by omega)]
    omega
  · exact (loadTargetOf_le s.ambientDerate_le (factorOf_le _)).elim le_min

end Sys2Proof.Machine
end

section
/-! The rows of the ports' timers and of the line, the report of a silence, and orders taken whole or not at all
(O11, O12, O26, O27). -/

namespace Sys2Proof.Machine

/-- Settles O11, row by row. -/
theorem portTimersAndTheLine : Obligations.PortTimersAndTheLine := by
  intro l f s hlive
  refine ⟨fun hframe => ?gap, ?status, fun hsending => ?sent⟩
  case gap =>
    show Host.Outcome.next (if s.live = true ∧ (s.ports.get l).assembler = .frame then _ else s) = _
    rw [if_pos ⟨hlive, hframe⟩]
    rfl
  case status =>
    show Host.Outcome.next (if s.live then _ else s) = _
    rw [if_pos hlive]
    rfl
  case sent =>
    show execFrameSentInFull l s = _
    unfold execFrameSentInFull
    rw [hsending]
    dsimp only
    rw [if_pos hlive]
    cases hkind : f.kind <;> rfl

/-- Settles O12: at its instant the silence exceeds the limit, and the report is made. -/
theorem silenceIsReportedOnce : Obligations.SilenceIsReportedOnce := by
  intro l s hlive
  refine ⟨_, rfl, fun hsilent => ?_, fun hsilent => if_neg fun h => ?_⟩
  · have hdue : (s.reach ((s.ports.get l).lastHeard + s.silenceLimit l + 1)).silenceLimit l <
        (s.reach ((s.ports.get l).lastHeard + s.silenceLimit l + 1)).silenceOf l := by
      show s.silenceLimit l < max s.now ((s.ports.get l).lastHeard + s.silenceLimit l + 1) - (s.ports.get l).lastHeard
      omega
    rw [if_pos ⟨hlive, hsilent⟩, State.reportLapse, if_pos ⟨hdue, hsilent⟩]
    refine ⟨rfl, le_max_left _ _, ?_⟩
    show (s.ports.get l).lastHeard + s.silenceLimit l < max s.now ((s.ports.get l).lastHeard + s.silenceLimit l + 1)
    omega
  · rw [hsilent] at h
    exact absurd h.2 (by decide)

/-- Settles O26. -/
theorem malformedOrderIsRefused : Obligations.MalformedOrderIsRefused := by
  intro l index s hopen hparsed
  show execMalformedOrder l s = _
  unfold execMalformedOrder
  rw [if_pos hopen, hparsed]
  rfl

/-- Settles O27, by whether the Order Unit can take the order. -/
theorem ordersCommitWholeOrNot : Obligations.OrdersCommitWholeOrNot := by
  intro l a more s
  refine ⟨s.orderRow l (a :: more), exec_orderCommand s l a more, fun h => ?_, fun h c index hrun => ?_,
    fun h w hrun => ?_⟩
  · rw [State.orderRow, h]
    rfl
  · rw [State.orderRow, if_pos h, State.takeOrder_refused hrun]
    rfl
  · rw [State.orderRow, if_pos h, State.takeOrder_accepted hrun]

end Sys2Proof.Machine
end

section
/-! The check over its own bytes and the parse of an order's BODY; then the orders that name an item twice and the engine
actions of a link that does not hold (O28, O29, O50, O51). -/

namespace Sys2Proof.Machine

/-! ## The check register -/

/-- A data bit that equals the register's top bit moves the register left alone (R175). -/
theorem checkBit_msb (r : Word16) : checkBit r r.msb = r <<< 1 := by simp [checkBit]

/-- The register shifted by `k`, fed its own next bit, is shifted by one more. -/
theorem checkBit_shifted (r : Word16) (k i : Nat) (hi : i + k = 15) : checkBit (r <<< k) (r.getLsbD i) = r <<< (k + 1) := by
  have hmsb : (r <<< k).msb = r.getLsbD i := by
    rw [BitVec.msb_eq_getLsbD_last, BitVec.getLsbD_shiftLeft]
    have : 16 - 1 - k = i := by omega
    rw [this]
    simp
    omega
  rw [← hmsb, checkBit_msb, ← BitVec.shiftLeft_add]

/-- The two bytes of a word hold its bits. -/
theorem byteOf_getLsbD (n i : Nat) (h : i < 8) : (byteOf n).getLsbD i = n.testBit i := by
  rw [byteOf, BitVec.getLsbD_ofNat]
  simp [h]

/-- The register fed the eight bits of it that stand `k` places from its top is shifted by eight more. -/
theorem checkByte_shifted (r : Word16) (b : Byte) (k j : Nat) (hk : k + j = 8)
    (hb : ∀ i < 8, b.getLsbD i = r.getLsbD (i + j)) : checkByte (r <<< k) b = r <<< (k + 8) := by
  have hstep (m i : Nat) (hi : i < 8) (hm : m + i = k + 7) :
      checkBit (r <<< m) (b.getLsbD i) = r <<< (m + 1) := by
    rw [hb i hi]
    exact checkBit_shifted r m (i + j) (by omega)
  simp only [checkByte, List.foldl_cons, List.foldl_nil]
  rw [hstep k 7, hstep (k + 1) 6, hstep (k + 1 + 1) 5, hstep (k + 1 + 1 + 1) 4, hstep (k + 1 + 1 + 1 + 1) 3,
    hstep (k + 1 + 1 + 1 + 1 + 1) 2, hstep (k + 1 + 1 + 1 + 1 + 1 + 1) 1, hstep (k + 1 + 1 + 1 + 1 + 1 + 1 + 1) 0]
  all_goals omega

/-- A register fed its own two bytes, high byte first, is 0. -/
theorem checkOf_own_bytes (r : Word16) : (be16Word r).foldl checkByte r = 0#16 := by
  have hhigh (i : Nat) (hi : i < 8) : (byteOf (r.toNat / 256)).getLsbD i = r.getLsbD (i + 8) := by
    rw [byteOf_getLsbD _ _ hi, show 256 = 2 ^ 8 from rfl, Nat.testBit_div_two_pow, Nat.add_comm]
    rfl
  have hlow (i : Nat) (hi : i < 8) : (byteOf r.toNat).getLsbD i = r.getLsbD (i + 0) := byteOf_getLsbD _ _ hi
  have h1 := checkByte_shifted r _ 0 8 rfl hhigh
  have h2 := checkByte_shifted r _ 8 0 rfl hlow
  rw [BitVec.shiftLeft_zero] at h1
  rw [be16Word, be16, List.foldl_cons, List.foldl_cons, List.foldl_nil, h1, h2]
  exact BitVec.shiftLeft_eq_zero (by decide)

/-! ## The form of an encoded frame -/

theorem be16Word_length (w : Word16) : (be16Word w).length = 2 := rfl

theorem checkAgrees_iff (fields tail : List Byte) (h : tail.length = 2) :
    checkAgrees (fields ++ tail) = decide (tail = be16Word (checkOf fields)) := by
  have hl : (fields ++ tail).length - 2 = fields.length := by rw [List.length_append]; omega
  rw [checkAgrees, hl, List.drop_left, List.take_left]

/-- The form of whole bytes from LENGTH onward, with any behind them: the check decides (R174). -/
theorem frameForm_whole {len : Byte} {rest more : List Byte} (h2 : 2 ≤ len.toNat) (h60 : len.toNat ≤ 60)
    (hl : rest.length + 1 = len.toNat + 5) :
    frameForm (len :: rest ++ more) = if checkAgrees (len :: rest) then .complete (len.toNat + 5) else .bad := by
  have htake : (len :: (rest ++ more)).take (len.toNat + 5) = len :: rest := by
    rw [← hl, ← List.length_cons (a := len), ← List.cons_append, List.take_left]
  rw [List.cons_append]
  simp only [frameForm]
  rw [htake, if_neg (by omega), if_neg (by rw [List.length_append]; omega)]

/-- Fewer bytes than the LENGTH asks for are a frame not yet received whole. -/
theorem frameForm_short {len : Byte} {rest : List Byte} (h2 : 2 ≤ len.toNat) (h60 : len.toNat ≤ 60)
    (hl : rest.length + 1 < len.toNat + 5) : frameForm (len :: rest) = .incomplete := by
  simp only [frameForm]
  rw [if_neg (by omega), if_pos hl]

theorem byteOf_toNat_of_lt {n : Nat} (h : n < 256) : (byteOf n).toNat = n := by
  rw [byteOf_toNat, Nat.mod_eq_of_lt h]

/-- An encoded frame is complete, whatever bytes follow it. -/
theorem frameForm_encoded {kind tag : Byte} {body more : List Byte} (h2 : 2 ≤ body.length) (h60 : body.length ≤ 60) :
    frameForm (frameFields kind tag body ++ be16Word (checkOf (frameFields kind tag body)) ++ more) =
      .complete (body.length + 5) := by
  have hlen : (byteOf body.length).toNat = body.length := byteOf_toNat_of_lt (by omega)
  have hform := frameForm_whole (len := byteOf body.length)
    (rest := kind :: tag :: body ++ be16Word (checkOf (frameFields kind tag body))) (more := more)
    (by omega) (by omega) (by rw [List.length_append, be16Word_length, hlen]; rfl)
  rw [hlen, ← List.cons_append, show byteOf body.length :: (kind :: tag :: body) = frameFields kind tag body from rfl,
    checkAgrees_iff _ _ (be16Word_length _), decide_eq_true rfl] at hform
  exact hform

/-- Settles O51: the register after the bytes is fed its own bytes. -/
theorem checkOverItselfIsZero : Obligations.CheckOverItselfIsZero := by
  intro bytes body kind tag
  refine ⟨?_, fun h2 h60 => ?_⟩
  · rw [checkOf, List.foldl_append]
    exact checkOf_own_bytes _
  · have h := frameForm_encoded (kind := kind) (tag := tag) (more := []) h2 h60
    rwa [List.append_nil] at h

/-! ## The parse of a BODY -/

/-- What the reading of the rest makes of an order, with the actions read before it in front. -/
def readBehind (as : List Sys2Proof.Action) : ParsedOrder → ParsedOrder
  | .actions bs => .actions (as ++ bs)
  | .malformed i => .malformed i

theorem readBehind_nil (p : ParsedOrder) : readBehind [] p = p := by cases p <;> rfl

theorem operandBytes_code (a : Sys2Proof.Action) : operandBytes (byteOf a.code) = some a.operands.length := by
  cases a <;> rfl

theorem actionOf_operands (a : Sys2Proof.Action) : actionOf (byteOf a.code) a.operands = some a := by
  cases a with
  | read i n => exact congrArg (fun w => some (Sys2Proof.Action.read i w)) (wordOf_be16 n)
  | set c n v =>
    show some (Sys2Proof.Action.set c (wordOf _ _) (wordOf _ _)) = _
    rw [wordOf_be16, wordOf_be16]
  | segment i b lim st =>
    show some (Sys2Proof.Action.segment i (wordOf _ _) (wordOf _ _) st) = _
    rw [wordOf_be16, wordOf_be16]
  | _ => rfl

/-- An encoded action at the front of the bytes is read, and the reading goes on behind it. -/
theorem parseActions_encode (left done : Nat) (a : Sys2Proof.Action) (rest : List Byte) :
    parseActions (left + 1) done (a.encode ++ rest) = readBehind [a] (parseActions left (done + 1) rest) := by
  have hlt : ¬ (a.operands ++ rest).length < a.operands.length := by rw [List.length_append]; omega
  show parseActions (left + 1) done (byteOf a.code :: (a.operands ++ rest)) = _
  rw [parseActions, operandBytes_code]
  dsimp only
  rw [if_neg hlt, List.take_left, List.drop_left, actionOf_operands]
  cases parseActions left (done + 1) rest <;> rfl

theorem parseActions_encoded (left done : Nat) (as : List Sys2Proof.Action) (rest : List Byte) :
    parseActions (as.length + left) done (as.flatMap Sys2Proof.Action.encode ++ rest) =
      readBehind as (parseActions left (done + as.length) rest) := by
  induction as generalizing done with
  | nil => rw [readBehind_nil, List.length_nil, Nat.zero_add]; rfl
  | cons a as ih =>
    rw [List.flatMap_cons, List.append_assoc, List.length_cons, Nat.add_right_comm, parseActions_encode, ih,
      Nat.add_right_comm done 1, Nat.add_assoc done]
    cases parseActions left (done + (as.length + 1)) rest <;> rfl

theorem operandBytes_unknown {code : Byte} (h : code.toNat = 0 ∨ 12 < code.toNat) : operandBytes code = none := by
  unfold operandBytes
  split
  all_goals first | rfl | omega

/-- An unknown code is malformed at its own action. -/
theorem parseActions_unknown {code : Byte} (left done : Nat) (rest : List Byte)
    (h : code.toNat = 0 ∨ 12 < code.toNat) : parseActions (left + 1) done (code :: rest) = .malformed (done + 1) := by
  rw [parseActions, operandBytes_unknown h]

/-- An action that the bytes end inside is malformed at its own index. -/
theorem parseActions_cut (left done : Nat) (a : Sys2Proof.Action) {k : Nat} (h1 : 1 ≤ k) (hk : k < a.encode.length) :
    parseActions (left + 1) done (a.encode.take k) = .malformed (done + 1) := by
  obtain ⟨j, rfl⟩ : ∃ j, k = j + 1 := ⟨k - 1, by omega⟩
  have hlt : (a.operands.take j).length < a.operands.length := by
    rw [List.length_take]
    have : a.encode.length = a.operands.length + 1 := rfl
    omega
  show parseActions (left + 1) done (byteOf a.code :: a.operands.take j) = _
  rw [parseActions, operandBytes_code]
  exact if_pos hlt

theorem parseOrder_cons {count : Byte} (rest : List Byte) (h1 : 1 ≤ count.toNat) (h3 : count.toNat ≤ 3) :
    parseOrder (count :: rest) = parseActions count.toNat 0 rest := if_pos ⟨h1, h3⟩

/-- Settles O50: the actions are read one by one, and what stands behind them decides. -/
theorem parseReadsWhatIsEncoded : Obligations.ParseReadsWhatIsEncoded := by
  intro as a b code count k rest hne hlen
  have hpos : 1 ≤ as.length := List.length_pos_iff.mpr hne
  have hcount : (byteOf as.length).toNat = as.length := byteOf_toNat_of_lt (by omega)
  have hencoded (more : List Byte) : parseOrder (encodeOrder as ++ more) =
      readBehind as (parseActions 0 as.length more) := by
    rw [encodeOrder, List.cons_append, parseOrder_cons _ (by omega) (by omega), hcount]
    simpa using parseActions_encoded 0 0 as more
  have hbehind (more : List Byte) (hl : as.length < count.toNat) (h3 : count.toNat ≤ 3) :
      parseOrder (count :: (as.flatMap Sys2Proof.Action.encode ++ more)) =
        readBehind as (parseActions (count.toNat - as.length - 1 + 1) as.length more) := by
    have hsum : count.toNat = as.length + (count.toNat - as.length - 1 + 1) := by omega
    rw [parseOrder_cons _ (by omega) h3]
    calc parseActions count.toNat 0 (as.flatMap Sys2Proof.Action.encode ++ more)
        = parseActions (as.length + (count.toNat - as.length - 1 + 1)) 0 (as.flatMap Sys2Proof.Action.encode ++ more) := by
          rw [← hsum]
      _ = _ := by rw [parseActions_encoded, Nat.zero_add]
  have hfirst (h1 : 1 ≤ count.toNat) : count.toNat = count.toNat - 1 + 1 := by omega
  refine ⟨?whole, hencoded (b :: rest), fun h => if_neg (by omega), fun hl h3 hc => ?unknown, fun hl h3 h1 hk => ?cut,
    fun hl h3 => ?missing, fun h1 h3 hc => ?firstUnknown, fun h1 h3 hk1 hk => ?firstCut⟩
  case whole =>
    have h := hencoded []
    rw [List.append_nil] at h
    rw [h]
    exact congrArg ParsedOrder.actions (List.append_nil as)
  case unknown => rw [hbehind _ hl h3, parseActions_unknown _ _ _ hc]; rfl
  case cut => rw [hbehind _ hl h3, parseActions_cut _ _ a h1 hk]; rfl
  case missing =>
    have h := hbehind [] hl h3
    rw [List.append_nil] at h
    rw [h]
    exact congrArg ParsedOrder.malformed (max_eq_right hpos)
  case firstUnknown => rw [parseOrder_cons _ h1 h3, hfirst h1, parseActions_unknown _ _ _ hc]
  case firstCut => rw [parseOrder_cons _ h1 h3, hfirst h1, parseActions_cut _ _ a hk1 hk]

/-! ## The course of an order's actions -/

section

variable {l : Link} {s w : State} {as : List Sys2Proof.Action}

/-- The first step of an order that names no item again. -/
theorem State.runActions_cons {a : Sys2Proof.Action} {index used : Nat} {earlier : List Sys2Proof.Action}
    (h : earlier.any (duplicates a) = false) : State.runActions l index used earlier (a :: as) s =
      match s.doAction l used a with
      | .error c => .error (c, index)
      | .ok v => State.runActions l (index + 1) (used + Action.resultSize a) (earlier ++ [a]) as v := by
  rw [State.runActions, h]
  rfl

theorem State.runActions_duplicate {a : Sys2Proof.Action} {index used : Nat} {earlier : List Sys2Proof.Action}
    (h : earlier.any (duplicates a) = true) :
    State.runActions l index used earlier (a :: as) s = .error (.duplicateAction, index) := by
  rw [State.runActions, if_pos h]

/-- Of accepted actions none names an item that an earlier one of the order names. -/
theorem State.runActions_names_once {index used : Nat} {earlier : List Sys2Proof.Action}
    (h : State.runActions l index used earlier as s = .ok w) :
    (∀ a ∈ as, ∀ e ∈ earlier, duplicates a e = false) ∧ as.Pairwise fun x y => duplicates y x = false := by
  induction as generalizing s index used earlier with
  | nil => exact ⟨fun _ ha => (List.not_mem_nil ha).elim, List.Pairwise.nil⟩
  | cons a as ih =>
    cases hd : earlier.any (duplicates a) with
    | true => rw [State.runActions_duplicate hd] at h; cases h
    | false =>
      rw [State.runActions_cons hd] at h
      cases ha : s.doAction l used a with
      | error c => rw [ha] at h; cases h
      | ok v =>
        rw [ha] at h
        obtain ⟨hrest, hpair⟩ := ih h
        rw [List.any_eq_false] at hd
        refine ⟨fun b hb e he => ?_, List.pairwise_cons.mpr ⟨fun b hb => ?_, hpair⟩⟩
        · rcases List.mem_cons.mp hb with rfl | hb
          · exact Bool.not_eq_true _ ▸ hd e he
          · exact hrest b hb e (List.mem_append_left _ he)
        · exact hrest b hb a (List.mem_append_right _ (List.mem_singleton_self a))

/-- A refusal has the index of one of the actions. -/
theorem State.runActions_index {index used i : Nat} {earlier : List Sys2Proof.Action} {c : RefusalCode}
    (h : State.runActions l index used earlier as s = .error (c, i)) : index ≤ i ∧ i < index + as.length := by
  induction as generalizing s index used earlier with
  | nil => rw [State.runActions] at h; cases h
  | cons a as ih =>
    rw [List.length_cons]
    cases hd : earlier.any (duplicates a) with
    | true => rw [State.runActions_duplicate hd] at h; cases h; omega
    | false =>
      rw [State.runActions_cons hd] at h
      cases ha : s.doAction l used a with
      | error c => rw [ha] at h; cases h; omega
      | ok v =>
        rw [ha] at h
        have := ih h
        omega

/-- Behind accepted actions an order goes on with the view that they left. -/
theorem State.runActions_append {index used : Nat} {earlier : List Sys2Proof.Action} (rest : List Sys2Proof.Action)
    (h : State.runActions l index used earlier as s = .ok w) : ∃ used' : Nat,
      State.runActions l index used earlier (as ++ rest) s =
        State.runActions l (index + as.length) used' (earlier ++ as) rest w := by
  induction as generalizing s index used earlier with
  | nil =>
    rw [State.runActions] at h
    cases h
    exact ⟨used, by rw [List.append_nil]; rfl⟩
  | cons a as ih =>
    cases hd : earlier.any (duplicates a) with
    | true => rw [State.runActions_duplicate hd] at h; cases h
    | false =>
      rw [State.runActions_cons hd] at h
      cases ha : s.doAction l used a with
      | error c => rw [ha] at h; cases h
      | ok v =>
        rw [ha] at h
        obtain ⟨used', hrest⟩ := ih h
        refine ⟨used', ?_⟩
        rw [List.cons_append, State.runActions_cons hd, ha]
        dsimp only
        rw [hrest, List.length_cons, List.append_assoc, Nat.add_assoc, Nat.add_comm 1]
        rfl

end

/-- What one action of an order names again of another (R177). -/
theorem duplicates_of_same_item {a b : Sys2Proof.Action}
    (h : (a.code = b.code ∧ a.code ≠ 10 ∧ a.code ≠ 11) ∨
      ∃ (c : Byte) (n v v' : Word16), a = .set c n v ∧ b = .set c n v') : duplicates a b = true := by
  rcases h with ⟨hcode, hread, hset⟩ | ⟨c, n, v, v', rfl, rfl⟩
  · cases a with
    | read i n => exact absurd rfl hread
    | set c n v => exact absurd rfl hset
    | _ => exact beq_iff_eq.mpr hcode
  · simp [duplicates]

/-- Settles O28: an order's actions are checked against those before them, one by one. -/
theorem acceptedOrdersNameItemsOnce : Obligations.AcceptedOrdersNameItemsOnce := by
  intro l a as rest s
  refine ⟨fun w h => (State.runActions_names_once h).2, fun c index h => ?_, fun w h ⟨b, hb, hitem⟩ => ?_⟩
  · have := State.runActions_index h
    omega
  · have hrun : State.runActions l 1 0 [] (as ++ a :: rest) s = .error (.duplicateAction, as.length + 1) := by
      obtain ⟨used, happend⟩ := State.runActions_append (a :: rest) h
      rw [happend, State.runActions_duplicate (List.any_eq_true.mpr ⟨b, by simpa using hb, duplicates_of_same_item hitem⟩),
        Nat.add_comm]
    refine ⟨hrun, fun hoffers b more has => ?_⟩
    rw [has, List.cons_append] at hoffers
    rw [exec_orderCommand_of_offers hoffers, ← List.cons_append, ← has]
    exact congrArg Host.Outcome.next (State.takeOrder_refused hrun)

/-! ## The engine actions of a link that does not hold -/

/-- An order whose first action is refused is refused with its code at index 1. -/
theorem State.takeOrder_first_refused {s : State} {l : Link} {a : Sys2Proof.Action} {more : List Sys2Proof.Action}
    {c : RefusalCode} (h : s.doAction l 0 a = .error c) : s.takeOrder l (a :: more) = s.answer l (s.refusalBody c 1) := by
  refine State.takeOrder_refused ?_
  rw [State.runActions_cons rfl, h]

theorem startModeOf_of_lt {m : Byte} (h : m.toNat < 2) : ∃ mode : StartMode, startModeOf m = some mode := by
  have hm : m = 0#8 ∨ m = 1#8 := by bv_omega
  rcases hm with rfl | rfl <;> exact ⟨_, rfl⟩

theorem switchOf_of_lt {m : Byte} (h : m.toNat < 2) : ∃ on : Bool, switchOf m = some on := by
  have hm : m = 0#8 ∨ m = 1#8 := by bv_omega
  rcases hm with rfl | rfl <;> exact ⟨_, rfl⟩

theorem startModeOf_of_ge {m : Byte} (h : 2 ≤ m.toNat) : startModeOf m = none := by
  rw [startModeOf, if_neg (by bv_omega), if_neg (by bv_omega)]

theorem switchOf_of_ge {m : Byte} (h : 2 ≤ m.toNat) : switchOf m = none := by
  rw [switchOf, if_neg (by bv_omega), if_neg (by bv_omega)]

/-- Settles O29: the operand is checked first, then the holder. -/
theorem onlyTheHolderActsOnTheEngine : Obligations.OnlyTheHolderActsOnTheEngine := by
  intro l a more m s hoffers ha
  refine ⟨_, exec_orderCommand_of_offers hoffers, fun hholds hstart hisolate => ?_, fun hoperand hm => ?_⟩
  · refine State.takeOrder_first_refused ?_
    rcases ha with rfl | rfl | rfl | rfl
    · obtain ⟨mode, hmode⟩ := startModeOf_of_lt (hstart rfl)
      simp [State.doAction, State.doStart, hmode, hholds]
    · simp [State.doAction, State.doStop, hholds]
    · simp [State.doAction, State.doCancel, hholds]
    · obtain ⟨on, hon⟩ := switchOf_of_lt (hisolate rfl)
      simp [State.doAction, State.doIsolate, hon, hholds]
  · refine State.takeOrder_first_refused ?_
    rcases hoperand with rfl | rfl
    · simp [State.doAction, State.doStart, startModeOf_of_ge hm]
    · simp [State.doAction, State.doIsolate, switchOf_of_ge hm]

end Sys2Proof.Machine
end

section
/-! Receiving: what the assembler makes of the bytes of one reception, and what a delivered frame changes of its port
(O8, O9). -/

namespace Sys2Proof.Machine

/-! ## Writes to one port -/

section

variable (s : State) (l : Link) (p q : Port)

theorem PerLink.set_set {α : Type} (a : PerLink α) (l : Link) (v w : α) : (a.set l v).set l w = a.set l w := by
  cases l <;> rfl

@[simp] theorem State.withPort_withPort : (s.withPort l p).withPort l q = s.withPort l q :=
  congrArg (fun r => ({ s with ports := r } : State)) (PerLink.set_set s.ports l p q)

@[simp] theorem State.withPort_get : (s.withPort l p).ports.get l = p := PerLink.get_set_self _ _ _

end

/-! ## The assembler -/

/-- Bytes received at one instant. -/
def received (t : Nat) (bytes : List Byte) : List RxByte := bytes.map fun b => ⟨b, t⟩

@[simp] theorem received_bytes (t : Nat) (bytes : List Byte) : (received t bytes).map RxByte.byte = bytes := by
  simp [received, Function.comp_def]

@[simp] theorem received_length (t : Nat) (bytes : List Byte) : (received t bytes).length = bytes.length := by
  simp [received]

theorem received_append (t : Nat) (a b : List Byte) : received t (a ++ b) = received t a ++ received t b :=
  List.map_append

theorem assemble_nil (n : Nat) : assemble n [] = ([], none) := by cases n <;> rfl

theorem assemble_incomplete {n t : Nat} {rest : List RxByte} (h : frameForm (rest.map RxByte.byte) = .incomplete) :
    assemble (n + 1) (⟨Config.syncByte, t⟩ :: rest) = ([], some rest) := by
  simp only [assemble, h, ne_eq, not_true_eq_false, if_false]

theorem assemble_bad {n t : Nat} {rest : List RxByte} (h : frameForm (rest.map RxByte.byte) = .bad) :
    assemble (n + 1) (⟨Config.syncByte, t⟩ :: rest) = assemble n rest := by
  simp only [assemble, h, ne_eq, not_true_eq_false, if_false]

theorem assemble_complete {n t k : Nat} {rest : List RxByte} (h : frameForm (rest.map RxByte.byte) = .complete k) :
    assemble (n + 1) (⟨Config.syncByte, t⟩ :: rest) =
      (rest.take k :: (assemble n (rest.drop k)).1, (assemble n (rest.drop k)).2) := by
  simp only [assemble, h, ne_eq, not_true_eq_false, if_false]

/-- Bytes that are no SYNC are passed over in HUNT. -/
theorem assemble_skip {t : Nat} {pre : List Byte} (h : Config.syncByte ∉ pre) (n : Nat) (rest : List RxByte) :
    assemble (pre.length + n) (received t pre ++ rest) = assemble n rest := by
  induction pre with
  | nil => rw [List.length_nil, Nat.zero_add]; rfl
  | cons b pre ih =>
    obtain ⟨hb, hpre⟩ := List.ne_and_not_mem_of_not_mem_cons h
    show assemble (pre.length + 1 + n) (⟨b, t⟩ :: (received t pre ++ rest)) = _
    rw [Nat.add_right_comm, assemble, if_pos (Ne.symm hb)]
    exact ih hpre

/-- Bytes among which there is no SYNC hold no frame. -/
theorem assemble_no_sync {t : Nat} {bytes : List Byte} (h : Config.syncByte ∉ bytes) (n : Nat) :
    assemble (bytes.length + n) (received t bytes) = ([], none) := by
  have hskip := assemble_skip (t := t) h n []
  rwa [List.append_nil, assemble_nil] at hskip

/-- What is incomplete was so before its last bytes. -/
theorem frameForm_prefix {a b : List Byte} (h : frameForm (a ++ b) = .incomplete) : frameForm a = .incomplete := by
  cases a with
  | nil => rfl
  | cons len rest =>
    simp only [frameForm, List.cons_append] at h ⊢
    split_ifs at h with hlen hshort
    · rw [List.length_append] at hshort
      rw [if_neg hlen, if_pos (by omega)]

/-! ## The characters of one reception -/

/-- The characters that carry bytes, each with its stop bit. -/
def charsOf (bytes : List Byte) : List RxChar := bytes.map fun b => ⟨b, true⟩

/-- A port as the assembler leaves it at an instant. -/
def Port.judged (p : Port) (t : Nat) (o : Option (List RxByte)) : Port := { p.withBuffer o with lastByteAt := t }

theorem Port.judged_judged (p : Port) (t t' : Nat) (o o' : Option (List RxByte)) :
    (p.judged t o).judged t' o' = p.judged t' o' := by
  cases o <;> cases o' <;> rfl

section

variable {s : State} {l : Link}

/-- A character with its stop bit is judged with the bytes of the frame being collected. -/
theorem State.receiveChar_eq (b : Byte) {bytes : List RxByte}
    (h : (s.ports.get l).unjudged ++ [⟨b, s.now⟩] = bytes) :
    State.receiveChar l s ⟨b, true⟩ = (assemble bytes.length bytes).1.foldl (fun t f => t.deliverFrame l f)
      (s.withPort l ((s.ports.get l).judged s.now (assemble bytes.length bytes).2)) := by
  subst h
  rfl

/-- Bytes that leave a frame incomplete are collected. -/
theorem State.receive_collects {bytes buffer : List Byte}
    (hform : frameForm (buffer ++ bytes) = .incomplete) :
    (charsOf bytes).foldl (State.receiveChar l)
        (s.withPort l ((s.ports.get l).judged s.now (some (received s.now buffer)))) =
      s.withPort l ((s.ports.get l).judged s.now (some (received s.now (buffer ++ bytes)))) := by
  induction bytes generalizing buffer with
  | nil => rw [List.append_nil]; rfl
  | cons b bytes ih =>
    have hnext : frameForm (buffer ++ [b] ++ bytes) = .incomplete := by
      rwa [List.append_assoc, List.singleton_append]
    have hchar : State.receiveChar l (s.withPort l ((s.ports.get l).judged s.now (some (received s.now buffer))))
        ⟨b, true⟩ = s.withPort l ((s.ports.get l).judged s.now (some (received s.now (buffer ++ [b])))) := by
      rw [State.receiveChar_eq b (bytes := ⟨Config.syncByte, s.now⟩ :: received s.now (buffer ++ [b]))
        (by rw [State.withPort_get, received_append]; rfl)]
      rw [List.length_cons, assemble_incomplete (by rw [received_bytes]; exact frameForm_prefix hnext),
        State.withPort_get, State.withPort_withPort, Port.judged_judged]
      rfl
    show (charsOf bytes).foldl (State.receiveChar l) (State.receiveChar l _ ⟨b, true⟩) = _
    rw [hchar, ih hnext, List.append_assoc, List.singleton_append]

/-- A SYNC received in HUNT begins a frame. -/
theorem State.receive_sync (h : (s.ports.get l).assembler = .hunt) :
    State.receiveChar l s ⟨Config.syncByte, true⟩ = s.withPort l ((s.ports.get l).judged s.now (some [])) := by
  rw [State.receiveChar_eq Config.syncByte (bytes := [⟨Config.syncByte, s.now⟩]) (by rw [Port.unjudged, h]; rfl)]
  rfl

/-- A SYNC and bytes that are judged at the last of them: the assembler examines them all. -/
theorem State.receive_judged {init : List Byte} {b : Byte} (h : (s.ports.get l).assembler = .hunt)
    (hform : frameForm init = .incomplete) {out : List (List RxByte) × Option (List RxByte)}
    (hout : assemble (init.length + 2) (⟨Config.syncByte, s.now⟩ :: received s.now (init ++ [b])) = out) :
    (charsOf (Config.syncByte :: (init ++ [b]))).foldl (State.receiveChar l) s =
      out.1.foldl (fun t f => t.deliverFrame l f) (s.withPort l ((s.ports.get l).judged s.now out.2)) := by
  have hchars : charsOf (Config.syncByte :: (init ++ [b])) = ⟨Config.syncByte, true⟩ :: (charsOf init ++ [⟨b, true⟩]) := by
    simp [charsOf]
  have hcollect := State.receive_collects (s := s) (l := l) (buffer := []) (bytes := init) hform
  rw [hchars, List.foldl_cons, State.receive_sync h, List.foldl_append]
  show State.receiveChar l ((charsOf init).foldl (State.receiveChar l) (s.withPort l ((s.ports.get l).judged s.now
    (some (received s.now []))))) ⟨b, true⟩ = _
  rw [hcollect, List.nil_append,
    State.receiveChar_eq b (bytes := ⟨Config.syncByte, s.now⟩ :: received s.now (init ++ [b]))
      (by rw [State.withPort_get, received_append]; rfl),
    List.length_cons, received_length, List.length_append, State.withPort_get, State.withPort_withPort,
    Port.judged_judged]
  show (assemble (init.length + 2) _).1.foldl _ (s.withPort l (Port.judged _ _ (assemble (init.length + 2) _).2)) = _
  rw [hout]
  rfl

/-- A SYNC and as many bytes as the LENGTH behind it asks for. -/
theorem State.receive_whole {len : Byte} {rest : List Byte} (h : (s.ports.get l).assembler = .hunt)
    (h2 : 2 ≤ len.toNat) (h60 : len.toNat ≤ 60) (hl : rest.length + 1 = len.toNat + 5)
    {out : List (List RxByte) × Option (List RxByte)}
    (hout : assemble (rest.length + 2) (⟨Config.syncByte, s.now⟩ :: received s.now (len :: rest)) = out) :
    (charsOf (Config.syncByte :: len :: rest)).foldl (State.receiveChar l) s =
      out.1.foldl (fun t f => t.deliverFrame l f) (s.withPort l ((s.ports.get l).judged s.now out.2)) := by
  have hne : rest ≠ [] := by
    rintro rfl
    rw [List.length_nil] at hl
    omega
  have hinit : rest.dropLast.length + 1 = rest.length := by
    rw [List.length_dropLast]
    have := List.length_pos_iff.mpr hne
    omega
  have hsplit : len :: rest = len :: rest.dropLast ++ [rest.getLast hne] := by
    rw [List.cons_append, List.dropLast_append_getLast]
  rw [hsplit] at hout ⊢
  refine State.receive_judged h (frameForm_short h2 h60 (by omega)) ?_
  rw [List.length_cons, hinit]
  exact hout

theorem exec_frameReceived_hunt {after : Nat} {chars : List RxChar} (hlive : s.live = true)
    (h : (s.ports.get l).assembler = .hunt) :
    exec (.frameReceived after l chars) s = .next (chars.foldl (State.receiveChar l) (s.elapse after)) := by
  have hgap : (s.elapse after).gapCheck l = s.elapse after := by
    unfold State.gapCheck
    dsimp only
    rw [if_neg fun hg => by rw [State.elapse_ports, h] at hg; cases hg.1]
  show Host.Outcome.next (if (s.elapse after).live then _ else _) = _
  rw [if_pos (show (s.elapse after).live = true from hlive), hgap]

/-! ## Delivered frames -/

/-- The bytes of an encoded frame from LENGTH onward. -/
def frameBytes (kind tag : Byte) (body : List Byte) : List Byte :=
  frameFields kind tag body ++ be16Word (checkOf (frameFields kind tag body))

theorem frameBytes_length (kind tag : Byte) (body : List Byte) : (frameBytes kind tag body).length = body.length + 5 := by
  rw [frameBytes, List.length_append, be16Word_length]
  rfl

/-- The delivery of an encoded frame, by its KIND. -/
theorem State.deliverFrame_encoded (s : State) (l : Link) (kind tag : Byte) {body : List Byte} (t : Nat)
    (h60 : body.length ≤ 60) :
    s.deliverFrame l (received t (frameBytes kind tag body)) =
      if kind = kindOrder then (s.withPort l ((s.ports.get l).refreshHeard t)).offerOrder l tag body
      else s.withPort l ((s.ports.get l).refreshHeard t) := by
  have hlast : ((received t (frameBytes kind tag body)).getLast?.map RxByte.at_).getD s.now = t := by
    rw [frameBytes, received_append, List.getLast?_append]
    rfl
  have hbody : (body ++ be16Word (checkOf (frameFields kind tag body))).take (byteOf body.length).toNat = body := by
    rw [byteOf_toNat_of_lt (by omega), List.take_left]
  unfold State.deliverFrame
  rw [hlast, received_bytes, frameBytes]
  show (if kind = kindOrder then (s.withPort l ((s.ports.get l).refreshHeard t)).offerOrder l tag
    ((body ++ be16Word (checkOf (frameFields kind tag body))).take (byteOf body.length).toNat) else _) = _
  rw [hbody]

/-- The reception of an encoded frame on a hunting link: its delivery. -/
theorem State.receive_encoded {kind tag : Byte} {body : List Byte} (h : (s.ports.get l).assembler = .hunt)
    (h2 : 2 ≤ body.length) (h60 : body.length ≤ 60) :
    (charsOf (encodeFrame kind tag body)).foldl (State.receiveChar l) s =
      (s.withPort l ((s.ports.get l).judged s.now none)).deliverFrame l (received s.now (frameBytes kind tag body)) := by
  have hlen : (byteOf body.length).toNat = body.length := byteOf_toNat_of_lt (by omega)
  have hform := frameForm_encoded (kind := kind) (tag := tag) (more := []) h2 h60
  rw [List.append_nil] at hform
  obtain ⟨rest, hrest⟩ : ∃ rest, frameBytes kind tag body = byteOf body.length :: rest := ⟨_, rfl⟩
  have hlength := frameBytes_length kind tag body
  rw [hrest, List.length_cons] at hlength
  have htake : (received s.now (frameBytes kind tag body)).take (body.length + 5) = received s.now (frameBytes kind tag body) :=
    List.take_of_length_le (by rw [received_length, frameBytes_length])
  have hdrop : (received s.now (frameBytes kind tag body)).drop (body.length + 5) = [] :=
    List.drop_of_length_le (by rw [received_length, frameBytes_length])
  rw [show encodeFrame kind tag body = Config.syncByte :: byteOf body.length :: rest from congrArg _ hrest]
  refine State.receive_whole (out := ([received s.now (frameBytes kind tag body)], none)) h (by omega) (by omega)
    (by omega) ?_
  rw [← hrest, assemble_complete (by rw [received_bytes]; exact hform), htake, hdrop, assemble_nil]

end

/-! ## The statements -/

/-- The delivery of an ORDER frame to a queue with room. -/
theorem State.deliver_order {s : State} {l : Link} (tag : Byte) {body : List Byte} (h60 : body.length ≤ 60)
    (hroom : (s.ports.get l).queue.length < 4) :
    (s.withPort l ((s.ports.get l).judged s.now none)).deliverFrame l (received s.now (frameBytes kindOrder tag body)) =
      s.withPort l { s.ports.get l with
        assembler := .hunt
        buffer := []
        lastByteAt := s.now
        lastHeard := s.now
        silent := false
        queue := (s.ports.get l).queue ++ [⟨tag, body, none⟩] } := by
  rw [State.deliverFrame_encoded _ _ _ _ _ h60, if_pos rfl, State.withPort_get, State.withPort_withPort,
    State.offerOrder]
  dsimp only
  rw [State.withPort_get,
    if_pos (show (((s.ports.get l).judged s.now none).refreshHeard s.now).queue.length < 4 from hroom),
    State.withPort_withPort]
  rfl

/-- Settles O8: the frame is assembled, delivered and, with room in the queue, offered. -/
theorem orderFrameIsQueued : Obligations.OrderFrameIsQueued := by
  intro after l tag body s hlive h2 h60 hhunt hroom
  rw [exec_frameReceived_hunt hlive hhunt]
  exact congrArg Host.Outcome.next ((State.receive_encoded (s := s.elapse after) hhunt h2 h60).trans
    (State.deliver_order tag h60 hroom))

/-- An order offered to a full queue: one more FULL answer while fewer than two wait. -/
theorem State.offerOrder_full {s : State} {l : Link} (tag : Byte) (body : List Byte)
    (h : 4 ≤ (s.ports.get l).queue.length) :
    s.offerOrder l tag body = if (s.ports.get l).fulls.length < 2 then
      s.withPort l { s.ports.get l with
        fulls := (s.ports.get l).fulls ++
          [⟨(s.ports.get l).made, encodeFrame kindReply tag ([3#8, 9#8, 1#8] ++ s.snapshot)⟩]
        made := (s.ports.get l).made + 1 }
    else s := by
  unfold State.offerOrder
  dsimp only
  rw [if_neg (by omega)]
  rfl

/-- A whole frame that is not queued (R21, R174, R176). -/
theorem State.receive_unqueued {s : State} {l : Link} {kind tag : Byte} {body : List Byte}
    (h : (s.ports.get l).assembler = .hunt) (h2 : 2 ≤ body.length) (h60 : body.length ≤ 60)
    (hout : kind ≠ kindOrder ∨ 4 ≤ (s.ports.get l).queue.length) :
    ∃ made : Nat, (charsOf (encodeFrame kind tag body)).foldl (State.receiveChar l) s =
      s.withPort l { s.ports.get l with
        assembler := .hunt
        buffer := []
        lastByteAt := s.now
        lastHeard := s.now
        silent := false
        made := made
        fulls := if kind = kindOrder ∧ (s.ports.get l).fulls.length < 2 then
          (s.ports.get l).fulls ++
            [⟨(s.ports.get l).made, encodeFrame kindReply tag ([3#8, 9#8, 1#8] ++ s.snapshot)⟩]
        else (s.ports.get l).fulls } := by
  rw [State.receive_encoded h h2 h60, State.deliverFrame_encoded _ _ _ _ _ h60, State.withPort_get,
    State.withPort_withPort]
  by_cases hk : kind = kindOrder
  · have hfull : 4 ≤ ((s.withPort l (((s.ports.get l).judged s.now none).refreshHeard s.now)).ports.get l).queue.length := by
      rw [State.withPort_get]
      exact hout.resolve_left (not_not.mpr hk)
    rw [if_pos hk, State.offerOrder_full tag body hfull, State.withPort_get, State.withPort_withPort]
    by_cases hf : (((s.ports.get l).judged s.now none).refreshHeard s.now).fulls.length < 2
    · refine ⟨(s.ports.get l).made + 1, ?_⟩
      rw [if_pos hf, if_pos (show kind = kindOrder ∧ (s.ports.get l).fulls.length < 2 from ⟨hk, hf⟩)]
      rfl
    · refine ⟨(s.ports.get l).made, ?_⟩
      rw [if_neg hf, if_neg (show ¬ (kind = kindOrder ∧ (s.ports.get l).fulls.length < 2) from fun hc => hf hc.2)]
      rfl
  · refine ⟨(s.ports.get l).made, ?_⟩
    rw [if_neg hk, if_neg fun hc => hk hc.1]
    rfl

/-- A gap found at the first character leaves the port as one that hunts. -/
theorem exec_frameReceived_gap {s : State} {l : Link} {after : Nat} (chars : List RxChar) (hlive : s.live = true)
    (hframe : (s.ports.get l).assembler = .frame) (hgap : (s.ports.get l).lastByteAt + 10 < s.now + after) :
    exec (.frameReceived after l chars) s =
      exec (.frameReceived after l chars) (s.withPort l { s.ports.get l with assembler := .hunt, buffer := [] }) := by
  have hcheck : (s.elapse after).gapCheck l =
      (s.withPort l { s.ports.get l with assembler := .hunt, buffer := [] }).elapse after :=
    if_pos ⟨hframe, hgap⟩
  rw [exec_frameReceived_hunt (s := s.withPort l _) hlive (by rw [State.withPort_get]), ← hcheck]
  exact congrArg Host.Outcome.next (if_pos (show (s.elapse after).live = true from hlive))

/-- A character without a stop bit leaves its port hunting (R174). -/
theorem exec_frameReceived_noStop {s : State} {l : Link} {after : Nat} (b : Byte) (hlive : s.live = true) :
    exec (.frameReceived after l [⟨b, false⟩]) s =
      .next ((s.elapse after).withPort l ((s.ports.get l).judged (s.now + after) none)) := by
  show Host.Outcome.next (if (s.elapse after).live then State.receiveChar l ((s.elapse after).gapCheck l) ⟨b, false⟩
    else _) = _
  rw [if_pos (show (s.elapse after).live = true from hlive)]
  show Host.Outcome.next (((s.elapse after).gapCheck l).withPort l
    ((((s.elapse after).gapCheck l).ports.get l).judged ((s.elapse after).gapCheck l).now none)) = _
  unfold State.gapCheck
  dsimp only
  split
  · rw [State.withPort_get, State.withPort_withPort]
    rfl
  · rfl

/-- A frame of legal LENGTH with a failing check: what is found among the bytes behind its SYNC. -/
theorem State.receive_bad {s : State} {l : Link} {len : Byte} {rest : List Byte}
    (h : (s.ports.get l).assembler = .hunt) (h2 : 2 ≤ len.toNat) (h60 : len.toNat ≤ 60)
    (hl : rest.length + 1 = len.toNat + 5) (hcheck : checkAgrees (len :: rest) = false)
    {out : List (List RxByte) × Option (List RxByte)}
    (hout : assemble (len :: rest).length (received s.now (len :: rest)) = out) :
    (charsOf (Config.syncByte :: len :: rest)).foldl (State.receiveChar l) s =
      out.1.foldl (fun t f => t.deliverFrame l f) (s.withPort l ((s.ports.get l).judged s.now out.2)) := by
  have hform : frameForm (len :: rest) = .bad := by
    have h := frameForm_whole (more := []) h2 h60 hl
    rw [List.append_nil, hcheck] at h
    exact h
  exact State.receive_whole h h2 h60 hl ((assemble_bad (by rw [received_bytes]; exact hform)).trans hout)

/-- Settles O9, form by form. -/
theorem fullQueueAndOtherKinds : Obligations.FullQueueAndOtherKinds := by
  intro after l kind tag body head tail chars s hlive
  refine ⟨fun h2 h60 hhunt hout => ?unqueued, fun hhunt hlen hsync => ?badLength,
    fun h2 h60 hhunt hsync htail hcheck => ?badCheck, exec_frameReceived_noStop kind hlive,
    fun hframe hgap => exec_frameReceived_gap chars hlive hframe hgap,
    fun h2 h60 hhunt hroom hsync hk2 hk60 hlength hcheck => ?within⟩
  case unqueued =>
    obtain ⟨made, hrun⟩ := State.receive_unqueued (s := s.elapse after) (kind := kind) (tag := tag) hhunt h2 h60 hout
    refine ⟨_, (exec_frameReceived_hunt hlive hhunt).trans (congrArg Host.Outcome.next hrun), rfl,
      fun m hm => PerLink.get_set_ne _ _ hm, ?_⟩
    rw [State.withPort_get]
    exact ⟨rfl, rfl, rfl, rfl, rfl⟩
  case badLength =>
    rw [exec_frameReceived_hunt hlive hhunt]
    have hform : frameForm ((received (s.now + after) [kind]).map RxByte.byte) = .bad := by
      rw [received_bytes]
      simp only [frameForm]
      rw [if_pos hlen]
    have hnone := assemble_no_sync (t := s.now + after) (bytes := [kind]) (by simpa using Ne.symm hsync) 0
    exact congrArg Host.Outcome.next (State.receive_judged (s := s.elapse after) (init := []) (b := kind)
      (out := ([], none)) hhunt rfl ((assemble_bad hform).trans hnone))
  case badCheck =>
    rw [exec_frameReceived_hunt hlive hhunt]
    have hlen : (byteOf body.length).toNat = body.length := byteOf_toNat_of_lt (by omega)
    have hbad : checkAgrees (byteOf body.length :: (kind :: tag :: (body ++ tail))) = false := by
      show checkAgrees (frameFields kind tag body ++ tail) = false
      rw [checkAgrees_iff _ _ htail, decide_eq_false hcheck]
    have hnone := assemble_no_sync (t := s.now + after) (bytes := byteOf body.length :: (kind :: tag :: (body ++ tail)))
      (List.not_mem_cons_of_ne_of_not_mem (fun hc => by rw [← hc] at hlen; revert hlen; simp [Config.syncByte]; omega)
        hsync) 0
    exact congrArg Host.Outcome.next (State.receive_bad (s := s.elapse after) (out := ([], none)) hhunt (by omega)
      (by omega) (by simp [htail, hlen]) hbad hnone)
  case within =>
    rw [exec_frameReceived_hunt hlive hhunt]
    have hskip : Config.syncByte ∉ kind :: head := fun hc => hsync (by simp at hc ⊢; tauto)
    have htail : Config.syncByte ∉ tail := fun hc => hsync (by simp [hc])
    have hform : frameForm ((received (s.now + after) (frameBytes kindOrder tag body ++ tail)).map RxByte.byte) =
        .complete (body.length + 5) := by
      rw [received_bytes]
      exact frameForm_encoded h2 h60
    have hlen := frameBytes_length kindOrder tag body
    have hfound : assemble (kind :: (head ++ encodeFrame kindOrder tag body ++ tail)).length
        (received (s.now + after) (kind :: (head ++ encodeFrame kindOrder tag body ++ tail))) =
        ([received (s.now + after) (frameBytes kindOrder tag body)], none) := by
      have hsplit : kind :: (head ++ encodeFrame kindOrder tag body ++ tail) =
          (kind :: head) ++ (Config.syncByte :: (frameBytes kindOrder tag body ++ tail)) := by
        simp [encodeFrame, frameBytes]
      rw [hsplit, List.length_append, received_append, assemble_skip hskip, List.length_cons, List.length_append]
      refine (assemble_complete hform).trans ?_
      rw [received_append, List.take_left' (by rw [received_length, hlen]), List.drop_left' (by rw [received_length, hlen]),
        Nat.add_comm _ tail.length, assemble_no_sync htail]
    exact congrArg Host.Outcome.next ((State.receive_bad (s := s.elapse after) hhunt hk2 hk60 hlength.symm hcheck
      hfound).trans (State.deliver_order tag h60 hroom))

end Sys2Proof.Machine
end

section
/-! The layouts of section 9.7: how a byte of each way of building is read, and what every result of READ and the status
frame show; the close of an event that changes nothing; and READ itself (O10, O23). -/

namespace Sys2Proof.Machine

/-! ## Reading bytes -/

/-- A field of two bytes, high byte first. -/
theorem word_be16 (n : Nat) : (byteOf (n / 256)).toNat * 256 + (byteOf n).toNat = n % 65536 := wordAt_be16 n []

/-- The byte of an enumerated field that may be absent. -/
theorem byte_code {α : Type} (f : α → Nat) (h : ∀ x : α, f x < 256) (o : Option α) :
    (byteOf (optCode f o)).toNat = codeOr0 f o := by
  rw [byteOf_toNat]
  cases o with
  | none => rfl
  | some x => exact Nat.mod_eq_of_lt (h x)

/-- The bytes of a number that may be absent. -/
theorem optCode_eq {α : Type} (f : α → Nat) (o : Option α) : optCode f o = codeOr0 f o := by cases o <;> rfl

theorem byte_small {n : Nat} (h : n < 256) : (byteOf n).toNat = n := byteOf_toNat_of_lt h

theorem byte_bool (b : Bool) : (byteOf (boolCode b)).toNat = bitShown b := by cases b <;> rfl

theorem byteAt_append_of {a : List Byte} {n : Nat} (h : a.length = n) (b : List Byte) (k : Nat) :
    byteAt (a ++ b) (n + k) = byteAt b k := by rw [← h, byteAt_append]

theorem wordAt_append_of {a : List Byte} {n : Nat} (h : a.length = n) (b : List Byte) (k : Nat) :
    wordAt (a ++ b) (n + k) = wordAt b k := by rw [← h, wordAt_append]

theorem wordAt_append_left (a b : List Byte) (k : Nat) (h : k + 1 < a.length) : wordAt (a ++ b) k = wordAt a k := by
  rw [wordAt, byteAt_append_left _ _ _ (by omega), byteAt_append_left _ _ _ h, wordAt]

/-! ## Lists of fixed length -/

/-- Items of one width: a byte of the `k`-th stands `k` widths on. -/
theorem byteAt_flatten {w : Nat} {items : List (List Byte)} (hw : ∀ x ∈ items, x.length = w) {k j : Nat}
    (hk : k < items.length) (hj : j < w) : byteAt items.flatten (w * k + j) = byteAt items[k] j := by
  induction items generalizing k with
  | nil => exact absurd hk (Nat.not_lt_zero k)
  | cons x items ih =>
    have hx := hw x List.mem_cons_self
    cases k with
    | zero =>
      rw [Nat.mul_zero, Nat.zero_add, List.flatten_cons]
      exact byteAt_append_left _ _ _ (by omega)
    | succ k =>
      rw [Nat.mul_succ, Nat.add_right_comm, Nat.add_comm, List.flatten_cons, byteAt_append_of hx]
      exact ih (fun y hy => hw y (List.mem_cons_of_mem _ hy)) (Nat.lt_of_succ_lt_succ hk)

section

variable {α : Type} {g : α → List Byte} {w n : Nat}

theorem getD_map_length (hw : ∀ x : α, (g x).length = w) (l : List α) (i : Nat) :
    ((l.map g).getD i (List.replicate w 0#8)).length = w := by
  rw [List.getD_eq_getElem?_getD, List.getElem?_map]
  cases l[i]? with
  | none => exact List.length_replicate
  | some x => exact hw x

theorem paddedItems_length (hw : ∀ x : α, (g x).length = w) (l : List α) :
    (paddedItems n w (l.map g)).length = n * w := by
  have hmap : (((List.range n).map fun i => (l.map g).getD i (List.replicate w 0#8)).map List.length) =
      List.replicate n w := by
    rw [List.map_map]
    refine List.eq_replicate_iff.mpr ⟨by simp, fun b hb => ?_⟩
    obtain ⟨i, -, rfl⟩ := List.mem_map.mp hb
    exact getD_map_length hw l i
  rw [paddedItems, List.length_flatten, hmap, List.sum_replicate, smul_eq_mul]

/-- A byte of the `k`-th place of a list of fixed length: the item's, or 0 in an unused place. -/
theorem byteAt_padded (hw : ∀ x : α, (g x).length = w) {f : α → Nat} {j : Nat} (hf : ∀ x : α, byteAt (g x) j = f x)
    (l : List α) {k : Nat} (hk : k < n) (hj : j < w) :
    byteAt (paddedItems n w (l.map g)) (w * k + j) = codeOr0 f l[k]? := by
  rw [paddedItems, byteAt_flatten (w := w) ?_ (by simpa using hk) hj, List.getElem_map, List.getElem_range,
    List.getD_eq_getElem?_getD, List.getElem?_map]
  · cases l[k]? with
    | none =>
      simp [byteAt, codeOr0, hj]
    | some x => exact hf x
  · intro x hx
    obtain ⟨i, -, rfl⟩ := List.mem_map.mp hx
    exact getD_map_length hw l i

theorem wordAt_padded (hw : ∀ x : α, (g x).length = w) {f : α → Nat} {j : Nat} (hf : ∀ x : α, wordAt (g x) j = f x)
    (l : List α) {k : Nat} (hk : k < n) (hj : j + 1 < w) :
    wordAt (paddedItems n w (l.map g)) (w * k + j) = codeOr0 f l[k]? := by
  have h1 := byteAt_padded hw (f := fun x => byteAt (g x) j) (fun _ => rfl) l hk (by omega)
  have h2 := byteAt_padded hw (f := fun x => byteAt (g x) (j + 1)) (fun _ => rfl) l hk hj
  rw [wordAt, Nat.add_assoc, h1, h2]
  cases l[k]? with
  | none => simp [codeOr0]
  | some x => exact hf x

end

/-! ## The codes are bytes -/

theorem Source.code_lt (x : Source) : x.code < 256 := by cases x <;> decide
theorem Initiator.code_lt (x : Initiator) : x.code < 256 := by
  cases x with
  | source x => exact x.code_lt
  | idleReduction => decide
theorem Phase.num_lt (p : Phase) : p.num < 256 := by cases p <;> decide
theorem EngineState.code_lt (e : EngineState) : e.code < 256 := by cases e <;> simp [EngineState.code]
theorem EngineState.subCode_lt (e : EngineState) : e.subCode < 256 := by
  cases e with
  | starting p => exact p.num_lt
  | _ => decide
theorem MatchState.code_lt (m : MatchState) : m.code < 256 := by cases m <;> decide
theorem StopKind.code_lt (k : StopKind) : k.code < 256 := by cases k <;> decide
theorem StartOutcome.code_lt (o : StartOutcome) : o.code < 256 := by cases o <;> decide
theorem AttemptReason.code_lt (a : AttemptReason) : a.code < 256 := by cases a <;> decide
theorem StartMode.code_lt (m : StartMode) : m.code < 256 := by cases m <;> decide
theorem Channel.num_lt (c : Channel) : c.num < 256 := by cases c <;> decide
theorem ChannelClass.code_lt (c : ChannelClass) : c.code < 256 := by cases c <;> decide
theorem Place.code_lt (p : Place) : p.code < 256 := by cases p <;> decide
theorem Permission.code_lt (p : Permission) : p.code < 256 := by cases p <;> decide
theorem SpeedQuality.code_lt (q : SpeedQuality) : q.code < 256 := by cases q <;> decide

theorem codesAsTabled_holds : codesAsTabled :=
  ⟨rfl, fun _ => rfl, rfl, rfl, rfl, rfl, rfl, rfl, rfl, rfl, rfl, rfl, rfl, rfl⟩

theorem byte_engine (e : Option EngineState) : (byteOf (optCode EngineState.code e)).toNat = codeOr0 EngineState.code e :=
  byte_code _ EngineState.code_lt e

theorem byte_substate (e : Option EngineState) :
    (byteOf (optCode EngineState.subCode e)).toNat = codeOr0 EngineState.subCode e :=
  byte_code _ EngineState.subCode_lt e

theorem byte_source (x : Option Source) : (byteOf (optCode Source.code x)).toNat = codeOr0 Source.code x :=
  byte_code _ Source.code_lt x

/-- A word field of a number that may be absent. -/
theorem word_code {α : Type} (f : α → Nat) (o : Option α) :
    (byteOf (optCode f o / 256)).toNat * 256 + (byteOf (optCode f o)).toNat = codeOr0 f o % 65536 := by
  rw [word_be16, optCode_eq]

theorem secondsLeft_eq (now : Nat) (o : Option Nat) : secondsLeft now o = leftShown now o := by cases o <;> rfl

/-- A word field of a count of seconds. -/
theorem word_left (now : Nat) (o : Option Nat) :
    (byteOf (secondsLeft now o / 256)).toNat * 256 + (byteOf (secondsLeft now o)).toNat = leftShown now o % 65536 := by
  rw [word_be16, secondsLeft_eq]

/-- A word field of a time in ms. -/
theorem word_shownMs (ms : Nat) :
    (byteOf (shownMs ms / 256)).toNat * 256 + (byteOf (shownMs ms)).toNat = min 65535 ms := by
  rw [word_be16, shownMs]
  exact Nat.mod_eq_of_lt (by omega)

/-- A word field of a word. -/
theorem word_word16 (w : Word16) : (byteOf (w.toNat / 256)).toNat * 256 + (byteOf w.toNat).toNat = w.toNat := by
  rw [word_be16]
  exact Nat.mod_eq_of_lt w.isLt

/-! ## The snapshot and the results of READ -/

section

variable (s : State)

theorem State.snapshot_shows : snapshotShows s s.snapshot :=
  ⟨rfl, byte_engine _, byte_substate _, byte_source _, byteOf_toNat _, byteOf_toNat _, word_be16 _⟩

theorem State.statusPart0_shows : status0Shows s s.statusPart0 := by
  simp only [status0Shows, State.statusPart0, State.stateCodes, be16, List.cons_append, List.nil_append, wordAt,
    byteAt_cons_zero, byteAt_cons_succ, Nat.reduceAdd]
  refine ⟨rfl, byte_engine _, byte_substate _, byte_bool _, byte_code _ StopKind.code_lt _, byte_bool _, word_left _ _,
    byteOf_toNat _, byteOf_toNat _, byteOf_toNat _, byteOf_toNat _, word_be16 _, word_be16 _, word_be16 _,
    word_code _ _, word_code _ _, word_code _ _, word_code _ _, ?_, word_shownMs _, byte_bool _, ?_⟩
  · refine (byte_code (fun t : LoadTerms => if t.sagHold then 2 else 1) (fun x => ?_) s.stepper.terms).trans ?_
    · split <;> decide
    · cases s.stepper.terms with
      | none => rfl
      | some x => cases hx : x.sagHold <;> simp [codeOr0, bitShown, hx]
  · refine (word_be16 s.idleSeconds).trans ?_
    unfold State.idleSeconds
    cases s.idle.idleSince <;> rfl

/-- A scan value as it is shown. -/
theorem FrontEnd.shownScan_eq (c : Analog) : s.frontEnd.shownScan c = be16 (scanShown s c) := by
  unfold FrontEnd.shownScan scanShown
  cases s.frontEnd.scan <;> rfl

theorem word_scan (c : Analog) :
    (byteOf (scanShown s c / 256)).toNat * 256 + (byteOf (scanShown s c)).toNat = scanShown s c := by
  rw [word_be16]
  refine Nat.mod_eq_of_lt ?_
  unfold scanShown
  cases s.frontEnd.scan with
  | none => simp [codeOr0]
  | some v => exact (BitVec.ofInt 16 (v.get c)).isLt

theorem byte_marks (m : PerAnalog Bool) : (markByte m).toNat = marksShown m := by
  have hbit (b : Bool) : boolCode b = bitShown b ∧ bitShown b ≤ 1 := by cases b <;> decide
  obtain ⟨h1, k1⟩ := hbit m.lube
  obtain ⟨h2, k2⟩ := hbit m.fuel
  obtain ⟨h3, k3⟩ := hbit m.coolant
  obtain ⟨h4, k4⟩ := hbit m.intake
  obtain ⟨h5, k5⟩ := hbit m.manifold
  obtain ⟨h6, k6⟩ := hbit m.barometric
  obtain ⟨h7, k7⟩ := hbit m.battery
  rw [markByte, byteOf_toNat, h1, h2, h3, h4, h5, h6, h7]
  exact Nat.mod_eq_of_lt (by omega)

theorem byte_levels (v : InputState) :
    (byteOf (boolCode v.selected + 2 * boolCode v.filtered)).toNat = bitShown v.selected + 2 * bitShown v.filtered := by
  cases v.selected <;> cases v.filtered <;> rfl

theorem word_timing (now : Nat) (o : Option Nat) :
    (byteOf (optCode (fun t => shownMs (now - t)) o / 256)).toNat * 256 +
      (byteOf (optCode (fun t => shownMs (now - t)) o)).toNat = codeOr0 (fun x => min 65535 (now - x)) o := by
  cases o with
  | none => simp [codeOr0, optCode]
  | some t => exact word_shownMs _

/-- The part of START_RECORD before its attempts. -/
def State.startRecordHead (s : State) : List Byte :=
  [byteOf (optCode (fun x => x.initiator.code) s.sequencer.record), byteOf (optCode (fun x => x.mode.code) s.sequencer.record),
   byteOf (optCode (fun x => x.furthest.num) s.sequencer.record), byteOf (optCode (fun x => x.outcome.code) s.sequencer.record),
   byteOf (optCode StartRecord.attemptsBegun s.sequencer.record)] ++
  be16 (secondsLeft s.now s.sequencer.lockoutEnd) ++ be16 (secondsLeft s.now s.sequencer.creditEnd) ++
  [byteOf s.attempts.length]

theorem State.startRecordBytes_eq : s.startRecordBytes = s.startRecordHead ++
    paddedItems 5 3 (s.attempts.map fun a => byteOf a.reason.code :: be16 a.peak) := rfl

theorem State.startRecord_shows : startRecordShows s s.startRecordBytes := by
  have hw (a : Attempt) : (byteOf a.reason.code :: be16 a.peak).length = 3 := rfl
  have hhead : s.startRecordHead.length = 10 := rfl
  rw [State.startRecordBytes_eq]
  refine ⟨?length, ?_, ?_, ?_, ?_, ?_, ?_, ?_, ?_, fun k hk => ⟨?reason, ?peak⟩⟩
  case length => rw [List.length_append, paddedItems_length hw, hhead]
  case reason =>
    rw [byteAt_append_of hhead]
    exact byteAt_padded hw (j := 0) (fun a => byte_small a.reason.code_lt) _ hk (by decide)
  case peak =>
    rw [show 11 + 3 * k = 10 + (3 * k + 1) by omega, wordAt_append_of hhead]
    refine (wordAt_padded hw (j := 1) (f := fun a => a.peak % 65536) (fun a => word_be16 _) _ hk (by decide)).trans ?_
    cases s.attempts[k]? <;> rfl
  all_goals
    simp only [wordAt, Nat.reduceAdd, State.startRecordHead, be16, List.cons_append, List.nil_append,
      byteAt_cons_zero, byteAt_cons_succ]
  · exact byte_code _ (fun r => r.initiator.code_lt) _
  · exact byte_code _ (fun r => r.mode.code_lt) _
  · exact byte_code _ (fun r => r.furthest.num_lt) _
  · exact byte_code _ (fun r => r.outcome.code_lt) _
  · rw [byteOf_toNat, optCode_eq]
  · exact word_left _ _
  · exact word_left _ _
  · exact byteOf_toNat _

theorem State.statusPart1_shows : status1Shows s s.statusPart1 := by
  simp only [status1Shows, inputShown, State.statusPart1, FrontEnd.shownScan_eq, inputBytes, be16, List.cons_append,
    List.nil_append, wordAt, byteAt_cons_zero, byteAt_cons_succ, Nat.reduceAdd]
  refine ⟨rfl, word_scan s _, word_scan s _, word_scan s _, word_scan s _, word_scan s _, word_scan s _, word_scan s _,
    byte_marks _, ?measured, word_be16 _, word_be16 _, word_be16 _, byte_small s.frontEnd.quality.code_lt,
    byteOf_toNat _, byteOf_toNat _, byteOf_toNat _, ⟨byte_levels _, word_timing _ _⟩, ⟨byte_levels _, word_timing _ _⟩,
    ⟨byte_levels _, word_timing _ _⟩, ⟨byte_levels _, word_timing _ _⟩, ⟨byte_levels _, word_timing _ _⟩,
    byte_levels _, word_timing _ _⟩
  case measured =>
    rw [word_be16]
    cases s.frontEnd.measured <;> rfl

/-! ### The lists of the Monitor -/

theorem conditionBytes_length (c : Channel) : (conditionBytes c).length = 5 := rfl

theorem TripEntry.bytes_length (e : TripEntry) : e.bytes.length = 3 := rfl

/-- An entry of the Condition List at its place in a padded list. -/
theorem conditionShown_padded (n : Nat) (l : List Channel) {k : Nat} (hk : k < n) :
    conditionShown (paddedItems n 5 (l.map conditionBytes)) (5 * k) l[k]? := by
  refine ⟨byteAt_padded conditionBytes_length (j := 0) (fun c => byte_small c.num_lt) l hk (by decide),
    byteAt_padded conditionBytes_length (j := 1) (fun c => byte_small c.cls.code_lt) l hk (by decide),
    byteAt_padded conditionBytes_length (j := 2) (fun c => ?_) l hk (by decide),
    wordAt_padded conditionBytes_length (j := 3) (fun c => ?_) l hk (by decide)⟩
  · cases c <;> rfl
  · cases c <;> rfl

theorem conditionShown_append {a : List Byte} {n k : Nat} (h : a.length = n) {b : List Byte} {c : Option Channel}
    (hb : conditionShown b k c) : conditionShown (a ++ b) (n + k) c := by
  obtain ⟨h1, h2, h3, h4⟩ := hb
  refine ⟨(byteAt_append_of h b k).trans h1, ?_, ?_, ?_⟩
  · rw [Nat.add_assoc, byteAt_append_of h, h2]
  · rw [Nat.add_assoc, byteAt_append_of h, h3]
  · rw [Nat.add_assoc, wordAt_append_of h, h4]

theorem conditionShown_append_left {a : List Byte} {k : Nat} (h : k + 4 < a.length) {b : List Byte}
    {c : Option Channel} (ha : conditionShown a k c) : conditionShown (a ++ b) k c := by
  obtain ⟨h1, h2, h3, h4⟩ := ha
  refine ⟨?_, ?_, ?_, ?_⟩
  · rw [byteAt_append_left _ _ _ (by omega), h1]
  · rw [byteAt_append_left _ _ _ (by omega), h2]
  · rw [byteAt_append_left _ _ _ (by omega), h3]
  · rw [wordAt_append_left _ _ _ (by omega), h4]

theorem State.conditionsPart0_shows : conditions0Shows s s.conditionsPart0 := by
  refine ⟨?_, byteOf_toNat _, fun k hk => ?_⟩
  · rw [State.conditionsPart0, List.length_cons, paddedItems_length conditionBytes_length]
  · have h := conditionShown_padded 9 (s.monitor.conditions.take 9) hk
    rw [List.getElem?_take_of_lt hk] at h
    exact conditionShown_append (a := [_]) rfl h

theorem State.conditionsPart1_shows : conditions1Shows s s.conditionsPart1 := by
  have hfirst : (paddedItems 4 5 ((s.monitor.conditions.drop 9).map conditionBytes)).length = 20 :=
    paddedItems_length conditionBytes_length _
  have htrips : (paddedItems 5 3 (s.monitor.trips.map TripEntry.bytes)).length = 15 :=
    paddedItems_length TripEntry.bytes_length _
  have hparts : s.conditionsPart1 = paddedItems 4 5 ((s.monitor.conditions.drop 9).map conditionBytes) ++
      ([byteOf s.monitor.trips.length] ++ (paddedItems 5 3 (s.monitor.trips.map TripEntry.bytes) ++
        ([byteOf s.ceilingNotch] ++ (be16 s.restraintFactor ++ [byteOf (boolCode s.monitor.latch)])))) := by
    simp only [State.conditionsPart1, List.append_assoc]
  have htrip {k j : Nat} (hk : k < 5) (hj : j < 3) {f : TripEntry → Nat} (hf : ∀ e : TripEntry, byteAt e.bytes j = f e) :
      byteAt s.conditionsPart1 (20 + (1 + (3 * k + j))) = codeOr0 f s.monitor.trips[k]? := by
    rw [hparts, byteAt_append_of hfirst, byteAt_append_of (n := 1) rfl, byteAt_append_left _ _ _ (by omega)]
    exact byteAt_padded TripEntry.bytes_length hf _ hk hj
  have hback (k : Nat) : byteAt s.conditionsPart1 (20 + (1 + (15 + k))) =
      byteAt ([byteOf s.ceilingNotch] ++ (be16 s.restraintFactor ++ [byteOf (boolCode s.monitor.latch)])) k := by
    rw [hparts, byteAt_append_of hfirst, byteAt_append_of (n := 1) rfl, byteAt_append_of htrips]
  refine ⟨?_, fun k hk => ?_, ?_, fun k hk => ⟨?_, ?_, ?_⟩, (hback 0).trans (byteOf_toNat _), ?_,
    (hback 3).trans (byte_bool _)⟩
  · rw [hparts]
    simp only [List.length_append, hfirst, htrips]
    rfl
  · have h := conditionShown_padded 4 (s.monitor.conditions.drop 9) hk
    rw [List.getElem?_drop] at h
    rw [hparts]
    exact conditionShown_append_left (by omega) h
  · rw [hparts]
    exact (byteAt_append_of hfirst _ 0).trans (byteOf_toNat _)
  · rw [show 21 + 3 * k = 20 + (1 + (3 * k + 0)) by omega]
    exact htrip hk (by decide) fun e => byte_small e.channel.num_lt
  · rw [show 22 + 3 * k = 20 + (1 + (3 * k + 1)) by omega]
    exact htrip hk (by decide) fun e => byte_engine _
  · rw [show 23 + 3 * k = 20 + (1 + (3 * k + 2)) by omega]
    exact htrip hk (by decide) fun e => byte_substate _
  · rw [wordAt, hback 1, hback 2]
    exact word_be16 _

theorem byte_activity (a b : Bool) : (byteOf (boolCode a + 2 * boolCode b)).toNat = bitShown a + 2 * bitShown b := by
  cases a <;> cases b <;> rfl

theorem State.conditionsPart2_shows : conditions2Shows s s.conditionsPart2 := by
  refine ⟨rfl, fun c => ?_⟩
  simp only [State.conditionsPart2, Channel.order, List.flatMap_cons, List.flatMap_nil, List.cons_append, List.nil_append]
  cases c <;> exact ⟨byte_activity _ _, byteOf_toNat _, byteOf_toNat _⟩

/-! ### The Arbiter and the stores -/

/-- The five entries of the table. -/
def State.tableBytes (s : State) : List Byte :=
  entryBytes (s.entry .cab) (s.silenceOf .cab) ++ entryBytes (s.entry .consist) (s.silenceOf .consist) ++
  entryBytes (s.entry .remote) (s.silenceOf .remote) ++ entryBytes (s.entry .shop) (s.silenceOf .shop) ++
  entryBytes (s.entry .protection) 0

theorem entry_shows (e : Entry) (silence : Nat) : entryShown (entryBytes e silence) 0 e silence :=
  ⟨byte_small e.place.code_lt, byteOf_toNat _, byte_code _ MatchState.code_lt _, byteOf_toNat _,
    byte_small e.permission.code_lt, word_shownMs _⟩

/-- An entry is shown wherever its seven bytes stand. -/
theorem entryShown_of_bytes {b : List Byte} {k silence : Nat} {e : Entry}
    (h : ∀ j < 7, byteAt b (k + j) = byteAt (entryBytes e silence) j) : entryShown b k e silence := by
  obtain ⟨h0, h1, h2, h3, h4, h5⟩ := entry_shows e silence
  refine ⟨(h 0 (by decide)).trans h0, (h 1 (by decide)).trans h1, (h 2 (by decide)).trans h2,
    (h 3 (by decide)).trans h3, (h 4 (by decide)).trans h4, ?_⟩
  rw [wordAt, Nat.add_assoc, h 5 (by decide), h 6 (by decide)]
  exact h5

theorem State.authority_shows : authorityShows s s.authorityBytes := by
  have hcode (x : Source) : ([byteOf x.code] : List Byte).length = 1 := rfl
  have hread (x : Source) : byteAt [byteOf x.code] 0 = x.code := byte_small x.code_lt
  have hstack : (paddedItems 5 1 (s.arbiter.stack.map fun x => [byteOf x.code])).length = 5 := paddedItems_length hcode _
  have hwaiting : (paddedItems 4 1 (s.arbiter.waiting.map fun x => [byteOf x.code])).length = 4 :=
    paddedItems_length hcode _
  have htable : s.tableBytes.length = 35 := rfl
  have hparts : s.authorityBytes = s.tableBytes ++ ([byteOf s.arbiter.stack.length] ++
      (paddedItems 5 1 (s.arbiter.stack.map fun x => [byteOf x.code]) ++ ([byteOf s.arbiter.waiting.length] ++
        paddedItems 4 1 (s.arbiter.waiting.map fun x => [byteOf x.code])))) := by
    simp only [State.authorityBytes, State.tableBytes, List.append_assoc]
  have hfront {k : Nat} (hk : k < 35) : byteAt s.authorityBytes k = byteAt s.tableBytes k := by
    rw [hparts]
    exact byteAt_append_left _ _ _ (by omega)
  refine ⟨?length, entryShown_of_bytes fun j hj => ?_, entryShown_of_bytes fun j hj => ?_,
    entryShown_of_bytes fun j hj => ?_, entryShown_of_bytes fun j hj => ?_, entryShown_of_bytes fun j hj => ?_, ?stackLength, fun k hk => ?stack, ?waitingLength, fun k hk => ?waiting⟩
  case length =>
    rw [hparts]
    simp only [List.length_append, hstack, hwaiting, htable]
    rfl
  case stackLength =>
    rw [hparts]
    exact (byteAt_append_of htable _ 0).trans (byteOf_toNat _)
  case stack =>
    rw [hparts, show 36 + k = 35 + (1 + (1 * k + 0)) by omega, byteAt_append_of htable, byteAt_append_of (n := 1) rfl,
      byteAt_append_left _ _ _ (by omega)]
    exact byteAt_padded hcode hread _ hk (by decide)
  case waitingLength =>
    rw [hparts, show 41 = 35 + (1 + (5 + 0)) from rfl, byteAt_append_of htable, byteAt_append_of (n := 1) rfl,
      byteAt_append_of hstack]
    exact byteOf_toNat _
  case waiting =>
    rw [hparts, show 42 + k = 35 + (1 + (5 + (1 + (1 * k + 0)))) by omega, byteAt_append_of htable,
      byteAt_append_of (n := 1) rfl, byteAt_append_of hstack, byteAt_append_of (n := 1) rfl]
    exact byteAt_padded hcode hread _ hk (by decide)
  all_goals
    rw [hfront (by omega)]
    interval_cases j <;> rfl

theorem State.segment_shows (n : Nat) (g : SegmentId) (h : SegmentId.ofNum n = some g) :
    segmentShows (s.store.segments.get g) (s.segmentBytes n) := by
  rw [State.segmentBytes, h]
  exact ⟨rfl, word_be16 _, word_be16 _, byteOf_toNat _, byte_bool _⟩

/-! ### A result, by its item and number -/

theorem readNamed_iff (item number : Nat) : readNamed item number = true ↔ ¬ namesNothing item number := by
  by_cases h : item ≤ 7
  · interval_cases item <;> simp [readNamed, namesNothing]
    omega
  · have hn : readNamed item number = false := by
      unfold readNamed
      split
      all_goals first | rfl | omega
    simp only [hn, Bool.false_eq_true, false_iff, not_not]
    exact .inr (.inl (by omega))

/-- What READ names, item by item. -/
theorem named_cases {item number : Nat} (h : ¬ namesNothing item number) :
    item = 1 ∧ number = 0 ∨ item = 1 ∧ number = 1 ∨ item = 2 ∧ number = 0 ∨ item = 3 ∧ number = 0 ∨
      item = 3 ∧ number = 1 ∨ item = 3 ∧ number = 2 ∨ item = 4 ∧ number = 0 ∨ item = 5 ∨ item = 6 ∨
      item = 7 ∧ number ≤ 5 := by
  have h7 : item ≤ 7 := by
    by_contra hc
    exact h (.inr (.inl (by omega)))
  interval_cases item <;> simp [namesNothing] at h ⊢ <;> omega

/-- Every named result has its size and shows the state. -/
theorem State.readValues_show {item number : Nat} (h : ¬ namesNothing item number) :
    readSize item number = resultSize item number ∧ (s.readValues item number).length + 3 = resultSize item number ∧
      valuesShow s item number (s.readValues item number) := by
  rcases named_cases h with ⟨rfl, rfl⟩ | ⟨rfl, rfl⟩ | ⟨rfl, rfl⟩ | ⟨rfl, rfl⟩ | ⟨rfl, rfl⟩ | ⟨rfl, rfl⟩ | ⟨rfl, rfl⟩ |
    rfl | rfl | ⟨rfl, hnumber⟩
  · exact ⟨rfl, rfl, s.statusPart0_shows⟩
  · exact ⟨rfl, congrArg (· + 3) s.statusPart1_shows.1, s.statusPart1_shows⟩
  · exact ⟨rfl, congrArg (· + 3) s.startRecord_shows.1, s.startRecord_shows⟩
  · exact ⟨rfl, congrArg (· + 3) s.conditionsPart0_shows.1, s.conditionsPart0_shows⟩
  · exact ⟨rfl, congrArg (· + 3) s.conditionsPart1_shows.1, s.conditionsPart1_shows⟩
  · exact ⟨rfl, rfl, s.conditionsPart2_shows⟩
  · exact ⟨rfl, congrArg (· + 3) s.authority_shows.1, s.authority_shows⟩
  · exact ⟨rfl, rfl, rfl, word_code _ _⟩
  · exact ⟨rfl, rfl, rfl, word_word16 _⟩
  · obtain ⟨g, hg⟩ := SegmentId.exists_ofNum hnumber
    refine ⟨rfl, congrArg (· + 3) (s.segment_shows number g hg).1, fun g' hg' => s.segment_shows number g' hg'⟩

end

end Sys2Proof.Machine
end

section
/-! What the line sends, the close of an event that changes nothing it judges, and READ (O10, O23). -/

namespace Sys2Proof.Machine

/-! ## The status frame and the line -/

theorem channelsBytes_toNat (cs : List Channel) :
    (State.channelsBytes cs).map BitVec.toNat = cs.length % 256 :: cs.map Channel.num := by
  have hmap : cs.map (fun c => (byteOf c.num).toNat) = cs.map Channel.num :=
    List.map_congr_left fun c _ => byte_small c.num_lt
  rw [State.channelsBytes, List.map_cons, List.map_map, byteOf_toNat]
  exact congrArg _ hmap

theorem sourcesBytes_toNat (xs : List Source) :
    (State.sourcesBytes xs).map BitVec.toNat = xs.length % 256 :: xs.map Source.code := by
  have hmap : xs.map (fun x => (byteOf x.code).toNat) = xs.map Source.code :=
    List.map_congr_left fun x _ => byte_small x.code_lt
  rw [State.sourcesBytes, List.map_cons, List.map_map, byteOf_toNat]
  exact congrArg _ hmap

/-- The fields of a status frame before its lists. -/
def State.statusHead (s : State) : List Byte :=
  s.stateCodes ++
  [byteOf (optCode Source.code s.holder), byteOf (optCode MatchState.code s.presented.mtch),
   byteOf s.authorityNotch, byteOf s.ceilingNotch, byteOf s.stepper.target, byteOf s.stepper.granted] ++
  be16 s.stepper.loadRef ++ be16 s.stepper.loadTarget ++ be16 s.stepper.speedRef ++ be16 s.frontEnd.reported ++
  [byteOf s.frontEnd.quality.code]

theorem State.statusBody_shows (s : State) (l : Link) : statusBodyShows s l (s.statusBody l) := by
  have hhead : s.statusHead.length = 17 := rfl
  have hbody : s.statusBody l = s.statusHead ++ (State.channelsBytes s.monitor.conditions ++
      State.channelsBytes (s.monitor.trips.map TripEntry.channel) ++
      [byteOf (optCode (fun x => x.outcome.code) s.sequencer.record),
        byteOf (optCode (fun x => x.furthest.num) s.sequencer.record), byteOf s.attempts.length] ++
      State.sourcesBytes s.arbiter.stack ++ State.sourcesBytes s.arbiter.waiting ++
      [byteOf (s.entry (sourceOf l)).place.code, byteOf (boolCode (s.ports.get l).lapseMark),
        markByte s.frontEnd.clamped]) := by
    simp only [State.statusBody, State.statusHead, List.append_assoc]
  have hfront {k : Nat} (hk : k < 17) : byteAt (s.statusBody l) k = byteAt s.statusHead k := by
    rw [hbody]
    exact byteAt_append_left _ _ _ (by omega)
  have htrips : (s.monitor.trips.map TripEntry.channel).map Channel.num = s.monitor.trips.map fun e => e.channel.num :=
    List.map_map
  refine ⟨?_, ?_, ?_, ?_, ?_, ?_, ?_, ?_, ?_, ?_, ?_, ?_, ?_, ?lists⟩
  case lists =>
    rw [hbody, List.drop_left' hhead]
    simp only [List.map_append, channelsBytes_toNat, sourcesBytes_toNat, List.map_cons, List.map_nil, List.length_map,
      htrips, byte_code (fun x : StartRecord => x.outcome.code) (fun r => r.outcome.code_lt),
      byte_code (fun x : StartRecord => x.furthest.num) (fun r => r.furthest.num_lt), byteOf_toNat s.attempts.length,
      byte_small (s.entry (sourceOf l)).place.code_lt, byte_bool, byte_marks]
  all_goals
    simp only [wordAt, hfront, Nat.reduceAdd, Nat.reduceLT, State.statusHead, State.stateCodes, be16, List.cons_append,
      List.nil_append, byteAt_cons_zero, byteAt_cons_succ]
  · exact byte_engine _
  · exact byte_substate _
  · exact byte_source _
  · exact byte_code _ MatchState.code_lt _
  · exact byteOf_toNat _
  · exact byteOf_toNat _
  · exact byteOf_toNat _
  · exact byteOf_toNat _
  · exact word_be16 _
  · exact word_be16 _
  · exact word_be16 _
  · exact word_be16 _
  · exact byte_small s.frontEnd.quality.code_lt

/-- Settles O10: a due status frame first, then the earlier made of the two answers that wait. -/
theorem lineSendsTheEarliestAnswer : Obligations.LineSendsTheEarliestAnswer := by
  intro l s hlive hfree
  have hrun : exec (.frameTransmit l) s = .next (s.sendNext l) := by
    show Host.Outcome.next (if s.live = true ∧ (s.ports.get l).sending = none then _ else s) = _
    rw [if_pos ⟨hlive, hfree⟩]
  refine ⟨_, hrun, fun hdue => ?_, fun _ => s.statusBody_shows l, fun hdue hfulls hreply => ?_,
    fun f hdue hfull hfirst => ?_, fun r hdue hreply hfirst => ?_⟩
  · rw [State.sendNext, if_pos hdue]
    rfl
  all_goals
    have hnot : ¬ (s.ports.get l).statusDue = true := by rw [hdue]; decide
    rw [State.sendNext, if_neg hnot]
  · rw [hfulls, hreply]
    rfl
  · cases hreply : headReply (s.ports.get l).queue with
    | none =>
      rw [hfull]
      rfl
    | some r =>
      rw [hfull]
      exact if_pos (hfirst r hreply)
  · cases hfull : (s.ports.get l).fulls.head? with
    | none =>
      rw [hreply]
      rfl
    | some f =>
      rw [hreply]
      exact if_neg (Nat.not_lt.mpr (hfirst f hfull))

/-! ## The close of an event that changes nothing it judges -/

theorem State.orderOnsets_eq_self {before v : State} (h : ∀ c ∈ v.monitor.conditions, c ∈ before.monitor.conditions) :
    before.orderOnsets v = v := by
  unfold State.orderOnsets
  rw [inChannelOrder_of_subset h]

/-- Nothing to announce: the target as it is formed, the granted notch within it, no change of what the speed reference
follows, and the loops at the references. -/
theorem State.stepperAnnounced_eq_self {before v : State} (hchosen : v.engine.awaitingChoice = false)
    (htarget : v.stepper.target = v.targetNotch) (hgranted : v.stepper.granted ≤ v.targetNotch)
    (hspeed : before.speedChanged v = false) (hgovernor : v.outputs.governor = v.stepper.speedRef)
    (hexcitation : v.outputs.excitation = v.stepper.loadRef) : before.stepperAnnounced v = v := by
  have hform : v.formTarget = v := by
    unfold State.formTarget State.withTarget
    rw [← htarget]
    exact if_neg (by omega)
  have hloops : v.presentLoops = v := by
    unfold State.presentLoops
    rw [← hgovernor, ← hexcitation]
  unfold State.stepperAnnounced
  rw [hchosen]
  dsimp only [Bool.false_eq_true, if_false]
  rw [hform, hspeed]
  exact hloops

theorem State.close_eq_self {before v : State} (hconditions : ∀ c ∈ v.monitor.conditions, c ∈ before.monitor.conditions)
    (hchosen : v.engine.awaitingChoice = false) (htarget : v.stepper.target = v.targetNotch)
    (hgranted : v.stepper.granted ≤ v.targetNotch) (hspeed : before.speedChanged v = false)
    (hgovernor : v.outputs.governor = v.stepper.speedRef) (hexcitation : v.outputs.excitation = v.stepper.loadRef)
    (halert : v.outputs.alert = v.alertLevel) (hidle : before.idleAfter v = v.idle.idleSince) :
    before.close v = v := by
  have hset : v.setAlert = v := by
    unfold State.setAlert
    rw [← halert]
  unfold State.close
  rw [State.orderOnsets_eq_self hconditions,
    State.stepperAnnounced_eq_self hchosen htarget hgranted hspeed hgovernor hexcitation, hset, State.judgeIdle, hidle]

/-- The idle timer of a state in which it is sound, judged under the same holder. -/
theorem State.idleAfter_eq_self {before v : State} (h : IdleSound v) (hholder : before.holder = v.holder) :
    before.idleAfter v = v.idle.idleSince := by
  unfold State.idleAfter
  cases hi : v.idle.idleSince with
  | none =>
    have hc : v.idleConditions = false := by
      rw [← Bool.not_eq_true]
      intro hc
      have := h.mpr hc
      rw [hi] at this
      cases this
    rw [hc]
    rfl
  | some t =>
    rw [h.mp (by rw [hi]; rfl)]
    exact if_pos hholder

theorem State.speedChanged_eq_false {before v : State} (hstate : v.engine.state = before.engine.state)
    (hgranted : v.stepper.granted = before.stepper.granted)
    (hawaiting : v.engine.awaitingChoice = before.engine.awaitingChoice) : before.speedChanged v = false := by
  simp [State.speedChanged, hstate, hgranted, hawaiting]

/-- The settlement of no change is none. -/
theorem State.settle_self {s : State} (hchosen : s.engine.awaitingChoice = false) (hm : MonitorSound s)
    (hs : StepperSound s) (hi : IdleSound s) : s.settle false s = s := by
  have hrearmed : s.rearmed false s = s := by
    unfold State.rearmed
    rw [State.rearm_of_armsAgree s (hm.armed hchosen)]
    exact if_neg (by simp)
  rw [State.settle_eq_close, hrearmed]
  exact State.close_eq_self (fun _ h => h) hchosen hs.target hs.granted (State.speedChanged_eq_false rfl rfl rfl)
    hs.governor hs.excitation hm.alert (State.idleAfter_eq_self hi rfl)

/-! ## READ -/

section

variable {s : State} {l : Link} {item : Byte} {number : Word16}

theorem State.doRead_unnamed (used : Nat) (h : namesNothing item.toNat number.toNat) :
    s.doAction l used (.read item number) = .error .badValue := by
  have hn : readNamed item.toNat number.toNat = false := by
    rw [← Bool.not_eq_true, readNamed_iff, not_not]
    exact h
  show s.doRead used item number = _
  rw [State.doRead, hn]
  rfl

theorem State.doRead_named {used : Nat} (h : ¬ namesNothing item.toNat number.toNat) :
    s.doAction l used (.read item number) =
      if 50 < used + resultSize item.toNat number.toNat then .error .badValue else .ok s := by
  have hn : readNamed item.toNat number.toNat = true := (readNamed_iff _ _).mpr h
  show s.doRead used item number = _
  rw [State.doRead, hn, (s.readValues_show h).1]
  rfl

theorem resultSize_le (item number : Nat) : resultSize item number ≤ 50 := by
  unfold resultSize
  split <;> decide

/-- An order of READs alone, accepted, changes nothing but its reply. -/
theorem State.takeOrder_reads {as : List Sys2Proof.Action} (hreads : ∀ a ∈ as, ∃ i n, a = .read i n)
    (hrun : State.runActions l 1 0 [] as s = .ok s) (hchosen : s.engine.awaitingChoice = false) (hm : MonitorSound s)
    (hs : StepperSound s) (hi : IdleSound s) :
    s.takeOrder l as = s.answer l ([1#8, 0#8, 0#8] ++ s.snapshot ++ s.readResults as) := by
  have hany {p : Sys2Proof.Action → Bool} (hp : ∀ i n, p (.read i n) = false) : as.any p = false := by
    rw [List.any_eq_false]
    intro a ha
    obtain ⟨i, n, rfl⟩ := hreads a ha
    rw [hp]
    decide
  have hcommit : s.commit as s = s := by
    rw [State.commit, State.completed_of_no_start (hany fun _ _ => rfl), hany fun _ _ => rfl]
    exact State.settle_self hchosen hm hs hi
  have hpending : s.answersPending l as = false := by
    rw [State.answersPending, hany fun _ _ => rfl]
    rfl
  rw [State.takeOrder_accepted hrun, hcommit, State.acceptBody, hpending]
  rfl

end

/-- Settles O23: the checks are READ's own, the commit of no change changes nothing, and each layout shows the state. -/
theorem readChangesNothing : Obligations.ReadChangesNothing := by
  intro l s
  have hchosen {as : List Sys2Proof.Action} (h : s.offers l as = true) : s.engine.awaitingChoice = false :=
    (s.orderUnitOpen_iff.mp ((s.offers_iff l as).mp h).1).2
  have hfirst {item : Byte} {number : Word16} {as : List Sys2Proof.Action}
      (hnamed : ¬ namesNothing item.toNat number.toNat) : State.runActions l 1 0 [] (.read item number :: as) s =
        State.runActions l 2 (0 + Action.resultSize (.read item number)) [.read item number] as s := by
    have := resultSize_le item.toNat number.toNat
    rw [State.runActions_cons rfl, State.doRead_named hnamed, if_neg (by omega)]
    rfl
  refine ⟨codesAsTabled_holds, fun item number hoffers hnone => ?unnamed, fun item number hoffers hnamed hm hs hi => ?one,
    fun item item2 number number2 hoffers hnamed hnamed2 => ⟨fun hlong => ?long, fun hfits hm hs hi => ?two⟩⟩
  case unnamed =>
    refine (exec_orderCommand_of_offers (a := .read item number) hoffers).trans ?_
    exact congrArg Host.Outcome.next (State.takeOrder_one_refused (State.doRead_unnamed 0 hnone))
  case one =>
    have hrun : State.runActions l 1 0 [] [.read item number] s = .ok s := by
      rw [State.runActions_one, State.doRead_named hnamed, if_neg (by have := resultSize_le item.toNat number.toNat; omega)]
    obtain ⟨-, hlength, hshows⟩ := s.readValues_show hnamed
    refine ⟨_, exec_orderCommand_of_offers (a := .read item number) hoffers, ?_, s.snapshot_shows, ?_, hshows⟩
    · rw [State.takeOrder_reads (fun a ha => ⟨item, number, List.mem_singleton.mp ha⟩) hrun (hchosen hoffers) hm hs hi]
      simp [State.readResults, State.readResult]
    · rw [List.length_cons, List.length_append, be16Word_length, ← hlength]
      omega
  case long =>
    refine (exec_orderCommand_of_offers (a := .read item number) hoffers).trans
      (congrArg Host.Outcome.next (State.takeOrder_refused ?_))
    rw [hfirst hnamed, State.runActions_cons rfl, State.doRead_named hnamed2,
      if_pos (by rw [Nat.zero_add, Action.resultSize, (s.readValues_show hnamed).1]; exact hlong)]
  case two =>
    have hrun : State.runActions l 1 0 [] [.read item number, .read item2 number2] s = .ok s := by
      rw [hfirst hnamed, State.runActions_cons rfl, State.doRead_named hnamed2,
        if_neg (by rw [Nat.zero_add, Action.resultSize, (s.readValues_show hnamed).1]; omega)]
      rfl
    refine ⟨_, exec_orderCommand_of_offers (a := .read item number) hoffers, ?_⟩
    rw [State.takeOrder_reads (fun a ha => ?_) hrun (hchosen hoffers) hm hs hi]
    · simp [State.readResults, State.readResult]
    · rcases List.mem_cons.mp ha with rfl | ha
      · exact ⟨_, _, rfl⟩
      · exact ⟨_, _, List.mem_singleton.mp ha⟩

end Sys2Proof.Machine
end

section
/-! What a re-arming does to each channel and to the two lists, and the close of an event whose re-arming begins no trip. -/

namespace Sys2Proof.Machine

/-! ## One channel re-armed -/

/-- The channel has its onset in a re-arming for `st`: it is armed now, over an active input (R118, R119, R122). -/
def State.armsOver (st : EngineState) (s : State) (c : Channel) : Bool :=
  c.armedIn st && !(s.channel c).armed && s.onsetAtArming c && !s.active c

/-- The channel as a re-arming for `st` leaves it (R122). -/
def State.channelRearmed (st : EngineState) (s : State) (c : Channel) : ChannelState :=
  if c.armedIn st = (s.channel c).armed then s.channel c else ⟨c.armedIn st, 0, 0⟩

section

variable {s t : State} {st : EngineState}

theorem State.channel_set (s : State) (c d : Channel) (v : ChannelState) :
    (s.monitor.channels.set c v).get d = if d = c then v else s.channel d := by
  by_cases hd : d = c
  · subst hd
    rw [PerChannel.get_set_self, if_pos rfl]
  · rw [PerChannel.get_set_ne _ _ hd, if_neg hd]
    rfl

/-- An onset puts the counts of its channel at 0 and moves no other channel. -/
theorem State.onset_channel (s : State) (c d : Channel) :
    (s.onset c).channel d =
      if d = c ∧ s.active c = false then { s.channel c with onset := 0, clear := 0 } else s.channel d := by
  unfold State.onset
  cases ha : s.active c with
  | true => simp
  | false =>
    show (s.monitor.channels.set c _).get d = _
    rw [State.channel_set]
    simp

theorem State.active_iff {c : Channel} : s.active c = true ↔ c ∈ s.monitor.conditions := by
  rw [State.active, List.contains_iff_mem]

theorem State.mem_onset (s : State) (c d : Channel) :
    d ∈ (s.onset c).monitor.conditions ↔ d ∈ s.monitor.conditions ∨ d = c := by
  by_cases hc : c ∈ s.monitor.conditions
  · rw [State.onset_listed s c hc]
    constructor
    · exact .inl
    · rintro (h | rfl)
      · exact h
      · exact hc
  · rw [State.onset_conditions s c hc]
    simp

theorem State.onset_self {c : Channel} (h : s.active c = false) :
    (s.onset c).channel c = { s.channel c with onset := 0, clear := 0 } ∧ (s.onset c).active c = true := by
  refine ⟨?_, State.active_iff.mpr ((s.mem_onset c c).mpr (.inr rfl))⟩
  rw [State.onset_channel, if_pos ⟨rfl, h⟩]

theorem State.onset_trips_eq (s : State) (c : Channel) :
    (s.onset c).monitor.trips = if s.active c then s.monitor.trips else s.tripsAfter c := by
  unfold State.onset
  split <;> rfl

theorem State.rearmChannel_channel (st : EngineState) (s : State) (c d : Channel) :
    (State.rearmChannel st s c).channel d = if d = c then s.channelRearmed st c else s.channel d := by
  have hset (v : ChannelState) : (s.withChannel c v).channel d = if d = c then v else s.channel d := s.channel_set c d v
  have harm : (s.arm c).channel d = if d = c then ⟨true, 0, 0⟩ else s.channel d := by
    unfold State.arm
    dsimp only
    split
    · rw [State.onset_channel]
      split
      · rename_i h
        rw [if_pos h.1]
        have hc : (s.withChannel c ⟨true, 0, 0⟩).channel c = ⟨true, 0, 0⟩ := PerChannel.get_set_self _ _ _
        rw [hc]
      · exact hset _
    · exact hset _
  unfold State.rearmChannel State.channelRearmed
  split
  · rename_i h
    rw [harm, h.1, h.2]
    rfl
  · split
    · rename_i h
      rw [h.1, h.2]
      exact s.channel_set c d ChannelState.reset
    · rename_i h1 h2
      have hag : c.armedIn st = (s.channel c).armed := by
        cases ha : c.armedIn st <;> cases hb : (s.channel c).armed <;> simp_all
      rw [if_pos hag]
      split
      · rename_i hd
        rw [hd]
      · rfl

theorem State.active_withChannel (s : State) (c d : Channel) (v : ChannelState) :
    (s.withChannel c v).active d = s.active d := rfl

theorem State.mem_arm (s : State) (c d : Channel) :
    d ∈ (s.arm c).monitor.conditions ↔ d ∈ s.monitor.conditions ∨ (d = c ∧ s.onsetAtArming c = true) := by
  unfold State.arm
  dsimp only
  split
  · rename_i h
    rw [State.mem_onset, h]
    simp only [and_true]
    rfl
  · rename_i h
    simp only [h]
    simp only [Bool.false_eq_true, and_false, or_false]
    rfl

/-- A channel of the state stays listed, and joins the list with its onset; a channel that the state does not arm leaves
it where it was armed. -/
theorem State.mem_rearmChannel (st : EngineState) (s : State) (c d : Channel) :
    d ∈ (State.rearmChannel st s c).monitor.conditions ↔
      (d ∈ s.monitor.conditions ∧ (d = c → c.armedIn st = true ∨ (s.channel c).armed = false)) ∨
        (d = c ∧ s.armsOver st c = true) := by
  unfold State.rearmChannel State.armsOver
  split
  · rename_i h
    rw [State.mem_arm, h.1, h.2]
    by_cases hd : d = c
    · subst hd
      cases hl : s.active d <;> simp_all [State.active]
    · simp [hd]
  · split
    · rename_i h
      show d ∈ s.monitor.conditions.filter (· != c) ↔ _
      rw [List.mem_filter, h.1, h.2]
      simp
    · rename_i h1 h2
      cases ha : c.armedIn st <;> cases hb : (s.channel c).armed <;> simp_all

theorem State.rearmChannel_trips (st : EngineState) (s : State) (c : Channel) :
    (State.rearmChannel st s c).monitor.trips = if s.armsOver st c then s.tripsAfter c else s.monitor.trips := by
  unfold State.rearmChannel State.armsOver
  split
  · rename_i h
    unfold State.arm
    dsimp only
    rw [h.1, h.2]
    split
    · rename_i hon
      rw [State.onset_trips_eq, State.active_withChannel, hon]
      cases s.active c <;> rfl
    · rename_i hon
      simp only [hon]
      simp [State.withChannel]
  · rename_i h
    have hno : (c.armedIn st && !(s.channel c).armed) = false := by
      cases ha : c.armedIn st <;> cases hb : (s.channel c).armed <;> simp_all
    simp only [hno, Bool.false_and, Bool.false_eq_true, if_false]
    split <;> rfl

/-! ## All channels re-armed -/

theorem State.armsOver_rearmChannel (st : EngineState) (s : State) {c d : Channel} (h : d ≠ c) :
    (State.rearmChannel st s c).armsOver st d = s.armsOver st d := by
  have hon : (State.rearmChannel st s c).onsetAtArming d = s.onsetAtArming d := by
    unfold State.onsetAtArming State.filtered
    rw [(s.rearmChannel_only st c).frontEnd]
  have hact : (State.rearmChannel st s c).active d = s.active d := by
    rw [Bool.eq_iff_iff]
    simp only [State.active, List.contains_iff_mem]
    rw [State.mem_rearmChannel]
    simp [h]
  unfold State.armsOver
  rw [hon, hact, State.rearmChannel_channel, if_neg h]

theorem State.foldl_rearmChannel_channel (st : EngineState) (cs : List Channel) (hcs : cs.Nodup) (s : State) (d : Channel) :
    (cs.foldl (State.rearmChannel st) s).channel d = if d ∈ cs then s.channelRearmed st d else s.channel d := by
  induction cs generalizing s with
  | nil => rfl
  | cons c cs ih =>
    obtain ⟨hc, hcs⟩ := List.nodup_cons.mp hcs
    rw [List.foldl_cons, ih hcs, State.channelRearmed, State.rearmChannel_channel]
    by_cases hd : d = c
    · subst hd
      simp [hc]
    · simp only [hd, if_false, List.mem_cons, false_or]
      rfl

theorem State.mem_foldl_rearmChannel (st : EngineState) (cs : List Channel) (hcs : cs.Nodup) (s : State) (d : Channel) :
    d ∈ (cs.foldl (State.rearmChannel st) s).monitor.conditions ↔
      (d ∈ s.monitor.conditions ∧ (d ∈ cs → d.armedIn st = true ∨ (s.channel d).armed = false)) ∨
        (d ∈ cs ∧ s.armsOver st d = true) := by
  induction cs generalizing s with
  | nil => simp
  | cons c cs ih =>
    obtain ⟨hc, hcs⟩ := List.nodup_cons.mp hcs
    rw [List.foldl_cons, ih hcs, State.mem_rearmChannel, State.rearmChannel_channel]
    by_cases hd : d = c
    · subst hd
      simp [hc]
    · rw [State.armsOver_rearmChannel st s hd]
      simp [hd]

/-- The TRIP channels of `cs` that a re-arming for `st` newly lists in the Trip List. -/
def State.armingTrips (st : EngineState) (s : State) (cs : List Channel) : List Channel :=
  cs.filter fun c => s.armsOver st c && decide (c.cls = .trip) && !s.tripListed c

theorem State.foldl_rearmChannel_trips (st : EngineState) (cs : List Channel) (hcs : cs.Nodup) (s : State) :
    (cs.foldl (State.rearmChannel st) s).monitor.trips =
      s.monitor.trips ++ (s.armingTrips st cs).map fun c => ⟨c, s.engine.state⟩ := by
  induction cs generalizing s with
  | nil => simp [State.armingTrips]
  | cons c cs ih =>
    obtain ⟨hc, hcs⟩ := List.nodup_cons.mp hcs
    have htr := State.rearmChannel_trips st s c
    have hrest : (State.rearmChannel st s c).armingTrips st cs = s.armingTrips st cs := by
      refine List.filter_congr fun d hd => ?_
      have hne : d ≠ c := fun k => hc (k ▸ hd)
      have hl : (State.rearmChannel st s c).tripListed d = s.tripListed d := by
        unfold State.tripListed
        rw [htr]
        unfold State.tripsAfter
        split_ifs
        · rw [List.any_append]
          simp [Ne.symm hne]
        · rfl
        · rfl
      rw [State.armsOver_rearmChannel st s hne, hl]
    rw [List.foldl_cons, ih hcs, hrest, htr, (s.rearmChannel_only st c).engine]
    unfold State.armingTrips
    rw [List.filter_cons]
    unfold State.tripsAfter
    cases ha : s.armsOver st c <;> by_cases hk : c.cls = .trip <;> cases hl : s.tripListed c <;> simp [hk]

theorem Channel.order_nodup : Channel.order.Nodup := by decide

theorem State.rearmAll_channel (st : EngineState) (s : State) (d : Channel) :
    (s.rearmAll st).channel d = s.channelRearmed st d := by
  rw [State.rearmAll, State.foldl_rearmChannel_channel st _ Channel.order_nodup, if_pos (Channel.mem_order d)]

theorem State.mem_rearmAll (st : EngineState) (s : State) (d : Channel) :
    d ∈ (s.rearmAll st).monitor.conditions ↔
      (d ∈ s.monitor.conditions ∧ (d.armedIn st = true ∨ (s.channel d).armed = false)) ∨ s.armsOver st d = true := by
  rw [State.rearmAll, State.mem_foldl_rearmChannel st _ Channel.order_nodup]
  simp [Channel.mem_order d]

theorem State.rearmAll_trips (st : EngineState) (s : State) :
    (s.rearmAll st).monitor.trips =
      s.monitor.trips ++ (s.armingTrips st Channel.order).map fun c => ⟨c, s.engine.state⟩ :=
  State.foldl_rearmChannel_trips st _ Channel.order_nodup s

theorem State.rearmChannel_latch (st : EngineState) (s : State) (c : Channel) :
    (State.rearmChannel st s c).monitor.latch = s.monitor.latch ∧
      (State.rearmChannel st s c).monitor.faultReported = s.monitor.faultReported := by
  unfold State.rearmChannel State.arm State.onset
  dsimp only
  split_ifs <;> exact ⟨rfl, rfl⟩

theorem State.rearmAll_latch (st : EngineState) (s : State) :
    (s.rearmAll st).monitor.latch = s.monitor.latch ∧
      (s.rearmAll st).monitor.faultReported = s.monitor.faultReported := by
  suffices h : ∀ cs : List Channel, (cs.foldl (State.rearmChannel st) s).monitor.latch = s.monitor.latch ∧
      (cs.foldl (State.rearmChannel st) s).monitor.faultReported = s.monitor.faultReported from h Channel.order
  intro cs
  induction cs generalizing s with
  | nil => exact ⟨rfl, rfl⟩
  | cons c cs ih =>
    obtain ⟨h1, h2⟩ := ih (State.rearmChannel st s c)
    obtain ⟨k1, k2⟩ := State.rearmChannel_latch st s c
    exact ⟨h1.trans k1, h2.trans k2⟩

/-! ## A re-arming that begins no trip -/

/-- No TRIP channel has its onset in a re-arming for `st`. -/
def State.quietArming (st : EngineState) (s : State) : Prop :=
  ∀ c : Channel, c.cls = .trip → s.armsOver st c = false

theorem State.quietArming.trips (h : s.quietArming st) : (s.rearmAll st).monitor.trips = s.monitor.trips := by
  have hnil : s.armingTrips st Channel.order = [] := by
    refine List.filter_eq_nil_iff.mpr fun c _ hc => ?_
    simp only [Bool.and_eq_true, decide_eq_true_eq] at hc
    rw [h c hc.1.2] at hc
    exact absurd hc.1.1 (by decide)
  rw [State.rearmAll_trips, hnil]
  simp

theorem State.quietArming.rearm (h : s.quietArming st) (hst : s.engine.state = some st)
    (hc : s.engine.awaitingChoice = false) : s.rearm = s.rearmAll st := by
  rcases State.rearm_cases hst hc with ⟨-, hr⟩ | ⟨hn, hne, -⟩
  · exact hr
  · exact absurd (h.trips.trans hn) hne

theorem State.presented_of_arbiter (h : t.arbiter = s.arbiter) : t.presented = s.presented := by
  unfold State.presented State.authorityNotch State.holderEntry State.holder State.entry
  rw [h]

theorem State.judgeWake_of_not_laidUp (h : s.engine.state ≠ some .laidUp) : s.judgeWake = s := by
  unfold State.judgeWake
  rw [if_neg fun k => h k.1]

/-- An event outside LAID_UP whose re-arming begins no trip is closed over the channels re-armed once. -/
theorem State.settle_of_quiet (before : State) (judged : Bool) (hst : s.engine.state = some st)
    (hc : s.engine.awaitingChoice = false) (hq : s.quietArming st)
    (hj : st ≠ .laidUp ∨ judged = false ∧ before.presented = s.presented) :
    before.settle judged s = before.close (s.rearmAll st) := by
  have hm := s.rearmAll_only st
  have hst' : (s.rearmAll st).engine.state = some st := by rw [hm.engine, hst]
  have hr := hq.rearm hst hc
  rw [State.settle_eq_close]
  congr 1
  unfold State.rearmed
  rw [hr]
  split
  · rename_i hcond
    rcases hj with hl | ⟨hj, hp⟩
    · have hag := State.armsAgree_of hst' (s.rearmAll_armed st)
      rw [State.judgeWake_of_not_laidUp (by rw [hst']; simpa using hl)]
      exact State.rearm_of_armsAgree _ hag
    · rcases hcond with k | k
      · rw [hj] at k
        cases k
      · exact absurd (hp.trans (State.presented_of_arbiter hm.arbiter).symm) k
  · rfl

end

end Sys2Proof.Machine
end

section
/-! The quiet close of an event: what stands as the event's own change left it, and what the Stepper makes of it. And what
each move of the engine and of its start leaves of the engine, the start and the contactors. -/

namespace Sys2Proof.Machine

/-! ## The quiet close -/

/-- What the close of an event leaves of its own change `w`, where the re-arming for `st` begins no trip and no wake is
taken; `before` is the state that the event began in. -/
structure Settled (before w : State) (st : EngineState) (t : State) : Prop where
  frame : Frame w t
  engine : t.engine = w.engine
  sequencer : t.sequencer = w.sequencer
  arbiter : t.arbiter = w.arbiter
  contactors : sameContactors w t
  trips : t.monitor.trips = w.monitor.trips
  latch : t.monitor.latch = w.monitor.latch
  listed : ∀ d : Channel, d ∈ t.monitor.conditions ↔
    (d ∈ w.monitor.conditions ∧ (d.armedIn st = true ∨ (w.channel d).armed = false)) ∨ w.armsOver st d = true
  channel : ∀ d : Channel, t.channel d = w.channelRearmed st d
  judgement : t.idle.entryJudgementDue = w.idle.entryJudgementDue
  granted : t.stepper.granted = min w.stepper.granted t.targetNotch
  loads : LoadsWithin w → LoadsWithin t
  excitation : t.outputs.excitation = t.stepper.loadRef
  governor : t.outputs.governor = t.formedSpeed ∨
    before.engine.state = some st ∧ t.outputs.governor = w.stepper.speedRef
  monitor : (∀ c : Channel, (w.channel c).armed = c.armedIn st) → w.monitor.conditions = before.monitor.conditions →
    sameMonitor w t
  idleSince : t.idle.idleSince = if t.idleConditions then
      match w.idle.idleSince with
      | none => some t.now
      | some e => if before.holder = t.holder then some e else some t.now
    else none

section

variable {before u w s t : State} {st a : EngineState}

theorem State.holder_of_arbiter (h : t.arbiter = s.arbiter) : t.holder = s.holder := by
  unfold State.holder
  rw [h]

/-- The close of an event in a chosen state, over the channels as they are to stand. -/
theorem State.close_stepper (before : State) (hc : s.engine.awaitingChoice = false) :
    (before.close s).stepper.granted = min s.stepper.granted (before.close s).targetNotch ∧
      (LoadsWithin s → LoadsWithin (before.close s)) ∧
      (before.close s).outputs.excitation = (before.close s).stepper.loadRef ∧
      ((before.close s).outputs.governor = (before.close s).formedSpeed ∨
        before.engine.state = s.engine.state ∧ before.engine.awaitingChoice = s.engine.awaitingChoice ∧
          (before.close s).outputs.governor = s.stepper.speedRef) := by
  obtain ⟨-, hg, hl, hsp, hgov, hexc⟩ := State.stepperAnnounced_stepper (s := before.orderOnsets s) before hc
  have hf := before.announced_stepperFrame s
  refine ⟨?_, fun h => ?_, hexc, ?_⟩
  · have ht : (before.close s).targetNotch = (before.orderOnsets s).targetNotch := hf.targetNotch
    rw [ht]
    exact hg
  · have h1 : LoadsWithin (before.orderOnsets s) := h.of_same rfl rfl rfl fun _ => rfl
    exact (hl h1).of_same rfl rfl rfl fun _ => rfl
  · show (before.stepperAnnounced (before.orderOnsets s)).outputs.governor = _ ∨ _ ∧ _ ∧
      (before.stepperAnnounced (before.orderOnsets s)).outputs.governor = _
    rw [hgov]
    rcases hsp with h | ⟨h1, h2, -, h3⟩
    · exact .inl h
    · exact .inr ⟨h1, h2, h3⟩

theorem State.close_idleSince (before s : State) : (before.close s).idle.idleSince =
    if (before.close s).idleConditions then
      match s.idle.idleSince with
      | none => some (before.close s).now
      | some e => if before.holder = (before.close s).holder then some e else some (before.close s).now
    else none := by
  have hi : (before.stepperAnnounced (before.orderOnsets s)).idle = s.idle := (before.announced_stepperFrame s).idle
  show (if (before.close s).idleConditions then
      match (before.stepperAnnounced (before.orderOnsets s)).idle.idleSince with
      | none => some (before.close s).now
      | some e => if before.holder = (before.close s).holder then some e else some (before.close s).now
    else none) = _
  rw [hi]

/-- The close of a quiet event. -/
theorem State.settled_of_quiet (before : State) (judged : Bool) (hst : w.engine.state = some st)
    (hc : w.engine.awaitingChoice = false) (hq : w.quietArming st)
    (hj : st ≠ .laidUp ∨ judged = false ∧ before.presented = w.presented) :
    Settled before w st (before.settle judged w) := by
  have hm := w.rearmAll_only st
  have hs : (w.rearmAll st).stepper = w.stepper := hm.stepper
  obtain ⟨hg, hl, hexc, hgov⟩ := State.close_stepper (s := w.rearmAll st) before (by rw [hm.engine, hc])
  rw [State.settle_of_quiet before judged hst hc hq hj]
  refine
    { frame := (Frame.foldl (fun _ c k => State.rearmChannel_frame st c k) _ (Frame.refl w)).trans
        (before.close_frame _)
      engine := by rw [State.close_engine, hm.engine]
      sequencer := by rw [State.close_sequencer, hm.sequencer]
      arbiter := by rw [State.close_arbiter, hm.arbiter]
      contactors := ⟨by rw [State.close_starter, hm.outputs], by rw [State.close_prelube, hm.outputs],
        by rw [State.close_fuelRun, hm.outputs]⟩
      trips := by rw [State.close_trips, hq.trips]
      latch := by rw [State.close_latch, (w.rearmAll_latch st).1]
      listed := fun d => by rw [State.close_conditions, mem_inChannelOrder, State.mem_rearmAll]
      channel := fun d => by rw [State.close_channel, State.rearmAll_channel]
      judgement := by rw [State.close_entryJudgementDue, hm.idle]
      granted := by rw [hg, hs]
      loads := fun h => hl (h.of_same (by rw [hs]) (by rw [hs]) (by rw [hs]) fun k => by rw [hm.store])
      excitation := hexc
      governor := by
        rw [hm.engine, hst, hs] at hgov
        exact hgov.imp id fun h => ⟨h.1, h.2.2⟩
      monitor := fun ha hcond => by
        have hsame : w.rearmAll st = w := State.rearmAll_of_armsAgree hst (State.armsAgree_of hst ha)
        have hclose := before.close_monitor w
        rw [hcond, inChannelOrder_of_subset fun _ hd => hd, ← hcond] at hclose
        rw [hsame]
        exact hclose
      idleSince := by rw [before.close_idleSince, hm.idle] }

/-- A re-arming begins no trip where the channels stand armed for the state `a`, unless it arms CRANKCASE over an active
input (R121, R122). -/
theorem State.quietArming_of (ha : ∀ c : Channel, (w.channel c).armed = c.armedIn a)
    (hq : st.turnsUnderPower = true → a.turnsUnderPower = true ∨ w.filtered .crankcaseSwitch = false) :
    w.quietArming st := by
  intro c hcls
  unfold State.armsOver
  rw [ha]
  cases c with
  | overspeed | lubeLow =>
    have : w.onsetAtArming .overspeed = false ∧ w.onsetAtArming .lubeLow = false := ⟨rfl, rfl⟩
    simp [this]
  | crankcase =>
    show (st.turnsUnderPower && !a.turnsUnderPower && w.filtered .crankcaseSwitch && _) = false
    cases hs : st.turnsUnderPower with
    | false => rfl
    | true => rcases hq hs with h | h <;> simp [h]
  | fuelCutoff | coolantLevel => simp [Channel.armedIn]
  | coolantHot1 | coolantHot2 | intakeHot | groundFault | speedSignal | fuelPressureLow | scheduleFault | batteryLow =>
    cases hcls

theorem MonitorSound.armed_eq (h : MonitorSound u) (hc : u.engine.awaitingChoice = false) (ha : u.engine.state = some a)
    (c : Channel) : (u.channel c).armed = c.armedIn a := by
  rw [h.armed hc c, ha]
  rfl

/-- A move of the engine from `v`, which the event's owners left of `before`, whose re-arming arms CRANKCASE over no active
input. -/
theorem Driven.settledFrom {v : State} (before : State) (hd : Driven v w) (hc : v.engine.awaitingChoice = false)
    (harmed : ∀ c : Channel, (v.channel c).armed = c.armedIn a) (hst : w.engine.state = some st)
    (hp : v.arbiter = before.arbiter)
    (hq : st.turnsUnderPower = true → a.turnsUnderPower = true ∨ v.filtered .crankcaseSwitch = false) :
    Settled before w st (before.settle false w) := by
  refine State.settled_of_quiet before false hst (by rw [hd.awaiting, hc])
    (State.quietArming_of (a := a) (fun c => by rw [hd.channel, harmed]) fun k => ?_)
    (.inr ⟨rfl, (State.presented_of_arbiter (hd.arbiter.trans hp)).symm⟩)
  rw [show w.filtered .crankcaseSwitch = v.filtered .crankcaseSwitch by unfold State.filtered; rw [hd.frame.frontEnd]]
  exact hq k

theorem Driven.settled (hd : Driven u w) (hm : MonitorSound u) (hc : u.engine.awaitingChoice = false)
    (ha : u.engine.state = some a) (hst : w.engine.state = some st)
    (hq : st.turnsUnderPower = true → a.turnsUnderPower = true ∨ u.filtered .crankcaseSwitch = false) :
    Settled u w st (u.settle false w) :=
  hd.settledFrom u hc (hm.armed_eq hc ha) hst rfl hq

/-- Where the loads are 0 with the granted notch, they stay so, and EXCITATION with them. -/
theorem Settled.unloaded (h : Settled before w st t) (hg : w.stepper.granted = 0) (ht : w.stepper.loadTarget = 0)
    (hr : w.stepper.loadRef = 0) : t.stepper.granted = 0 ∧ t.stepper.loadRef = 0 ∧ t.outputs.excitation = 0 := by
  have hg' : t.stepper.granted = 0 := by rw [h.granted, hg, Nat.zero_min]
  have hr' := ((h.loads (.of_zero ht hr)).unloaded hg').2
  exact ⟨hg', hr', h.excitation.trans hr'⟩

/-- Where the event changed the state, the speed reference is formed anew. -/
theorem Settled.governor_of_ne (h : Settled before w st t) (hne : before.engine.state ≠ some st) :
    t.outputs.governor = t.formedSpeed := h.governor.resolve_right fun k => hne k.1

theorem State.idleConditions_of_not_runs (h : s.runs = false) : s.idleConditions = false := by
  unfold State.idleConditions
  simp only [h, Bool.false_and]

/-- Outside RUNNING and ISOLATED no idle timer runs after a close. -/
theorem Settled.idle_none (h : Settled before w st t) (hr : t.runs = false) : t.idle.idleSince = none := by
  rw [h.idleSince, State.idleConditions_of_not_runs hr]
  rfl

theorem State.formedSpeed_of_no_notch (h : s.speedNotch = none) : s.formedSpeed = 0 := by
  unfold State.formedSpeed
  rw [h]

/-! ## Moves of the engine -/

@[simp] theorem State.enterRundown_engine (s : State) : s.enterRundown.engine =
    { s.engine with state := some .rundown, cooldownEnd := none, rundownEnd := some (s.now + 60000) } := by
  simp only [State.enterRundown, State.enter_engine]
  rfl

@[simp] theorem State.enterRundown_outputs (s : State) :
    s.enterRundown.outputs = { s.outputs with fuelRun := false } := s.enter_outputs .rundown

@[simp] theorem State.enterRundown_sequencer (s : State) : s.enterRundown.sequencer = s.sequencer :=
  s.enter_sequencer .rundown

@[simp] theorem State.enterCooldown_engine (s : State) : s.enterCooldown.engine =
    { s.engine with state := some .cooldown, cooldownEnd := some (s.now + s.settings.cooldownTime * 1000) } := by
  simp only [State.enterCooldown, State.enter_engine]

@[simp] theorem State.enterCooldown_outputs (s : State) :
    s.enterCooldown.outputs = { s.outputs with fuelRun := true } := s.enter_outputs .cooldown

@[simp] theorem State.enterCooldown_sequencer (s : State) : s.enterCooldown.sequencer = s.sequencer :=
  s.enter_sequencer .cooldown

@[simp] theorem State.enterRunning_engine (s : State) : s.enterRunning.engine =
    { s.engine with state := some (if s.isolationInForce then .isolated else .running) } := s.enter_engine _

@[simp] theorem State.enterRunning_outputs (s : State) : s.enterRunning.outputs = { s.outputs with fuelRun := true } := by
  unfold State.enterRunning
  rw [State.enter_outputs]
  split <;> rfl

@[simp] theorem State.enterRunning_sequencer (s : State) : s.enterRunning.sequencer = s.sequencer := s.enter_sequencer _

/-- Leaving RUNNING leaves nothing granted and no load. -/
theorem State.enter_unloaded (hs : s.engine.state = some .running) (hst : st ≠ .running) :
    (s.enter st).stepper.granted = 0 ∧ (s.enter st).stepper.loadTarget = 0 ∧ (s.enter st).stepper.loadRef = 0 := by
  rw [State.enter_stepper, if_pos ⟨hs, hst⟩]
  exact ⟨rfl, rfl, rfl⟩

/-- The state that a stop enters. -/
def State.stopState (s : State) : EngineState := if 1 ≤ s.settings.cooldownTime then .cooldown else .rundown

theorem State.beginStop_engine (s : State) (k : StopKind) : (s.beginStop k).engine =
    if 1 ≤ s.settings.cooldownTime then
      { s.engine with
        state := some .cooldown, stopKind := some k
        cooldownEnd := some (s.now + s.settings.cooldownTime * 1000) }
    else
      { s.engine with
        state := some .rundown, stopKind := some k, cooldownEnd := none, rundownEnd := some (s.now + 60000) } := by
  unfold State.beginStop
  split
  · exact State.enterCooldown_engine _
  · exact State.enterRundown_engine _

theorem State.beginStop_state (s : State) (k : StopKind) : (s.beginStop k).engine.state = some s.stopState := by
  rw [State.beginStop_engine, State.stopState]
  split <;> rfl

theorem State.beginStop_outputs (s : State) (k : StopKind) :
    (s.beginStop k).outputs = { s.outputs with fuelRun := decide (1 ≤ s.settings.cooldownTime) } := by
  unfold State.beginStop
  split
  · rename_i h
    rw [State.enterCooldown_outputs, decide_eq_true h]
    rfl
  · rename_i h
    rw [State.enterRundown_outputs, decide_eq_false h]
    rfl

theorem State.beginStop_sequencer (s : State) (k : StopKind) : (s.beginStop k).sequencer = s.sequencer := by
  unfold State.beginStop
  split <;> simp

theorem State.beginStop_unloaded (k : StopKind) (hs : s.engine.state = some .running) :
    (s.beginStop k).stepper.granted = 0 ∧ (s.beginStop k).stepper.loadTarget = 0 ∧
      (s.beginStop k).stepper.loadRef = 0 := by
  unfold State.beginStop
  split
  · exact State.enter_unloaded hs (by decide)
  · exact State.enter_unloaded hs (by decide)

theorem State.failedStart_engine (s : State) : s.failedStart.engine =
    if 20 ≤ s.frontEnd.reported ∨ s.outputs.fuelRun = true then
      { s.engine with
        state := some .rundown, stopKind := some .normal, cooldownEnd := none, rundownEnd := some (s.now + 60000) }
    else { s.engine with state := some .stopped } := by
  unfold State.failedStart
  split
  · exact State.enterRundown_engine _
  · exact s.enter_engine .stopped

theorem State.failedStart_outputs (s : State) : s.failedStart.outputs = { s.outputs with fuelRun := false } := by
  unfold State.failedStart
  split
  · exact State.enterRundown_outputs _
  · exact s.enter_outputs .stopped

theorem State.failedStart_sequencer (s : State) : s.failedStart.sequencer = s.sequencer := by
  unfold State.failedStart
  split <;> simp

/-- The engine as the end of its rundown leaves it. -/
theorem State.endRundown_engine (s : State) : s.endRundown.engine = { s.engine with
      state := some (if s.engine.stopKind = some .layup then .laidUp else .stopped)
      layupMark := decide (s.engine.stopKind = some .layup)
      stopKind := none
      cooldownEnd := none
      rundownEnd := none } := by
  unfold State.endRundown
  split
  · rename_i h
    simp [State.dropTimers, h]
  · rename_i h
    simp [State.dropTimers, h]

theorem State.endRundown_outputs (s : State) : s.endRundown.outputs = { s.outputs with fuelRun := false } := by
  unfold State.endRundown
  split
  · exact State.enter_outputs _ .laidUp
  · exact State.enter_outputs _ .stopped

theorem State.endRundown_sequencer (s : State) : s.endRundown.sequencer = s.sequencer := by
  unfold State.endRundown
  split
  · exact State.enter_sequencer _ .laidUp
  · exact State.enter_sequencer _ .stopped

theorem State.endRundown_judgement (h : s.engine.stopKind = some .layup) :
    s.endRundown.idle.entryJudgementDue = true := by
  unfold State.endRundown
  rw [if_pos h]

/-! ## Moves of a start -/

@[simp] theorem State.closeStart_sequencer (s : State) (o : StartOutcome) : (s.closeStart o).sequencer =
    { s.sequencer.idle with
      record := s.sequencer.record.map fun r => { r with outcome := o }
      lockoutEnd := if o = .startFailed then some (s.now + s.settings.starterLockout * 1000)
        else s.sequencer.lockoutEnd } := by
  unfold State.closeStart
  dsimp only
  split <;> rfl

@[simp] theorem State.closeStart_outputs (s : State) (o : StartOutcome) :
    (s.closeStart o).outputs = { s.outputs with starter := false, prelube := false } := by
  unfold State.closeStart
  dsimp only
  split <;> rfl

/-- The outcomes of a start that fails or is cancelled (R42). -/
def StartOutcome.fails : StartOutcome → Bool
  | .noPrelubePressure | .startFailed | .speedErratic | .noOilPressure | .cancelled => true
  | .inProgress | .runningReached | .tripped | .reset => false

theorem State.endStart_of_fails {o : StartOutcome} (h : o.fails = true) : s.endStart o = (s.closeStart o).failedStart := by
  cases o <;> first | rfl | cases h

theorem State.endStart_engine {o : StartOutcome} (h : o.fails = true) : (s.endStart o).engine =
    if 20 ≤ s.frontEnd.reported ∨ s.outputs.fuelRun = true then
      { s.engine with
        state := some .rundown, stopKind := some .normal, cooldownEnd := none, rundownEnd := some (s.now + 60000) }
    else { s.engine with state := some .stopped } := by
  have hf := State.closeStart_frame o (Frame.refl s)
  rw [State.endStart_of_fails h, State.failedStart_engine, hf.frontEnd, hf.now, State.closeStart_engine,
    State.closeStart_fuelRun]

theorem State.endStart_outputs {o : StartOutcome} (h : o.fails = true) : (s.endStart o).outputs =
    { s.outputs with starter := false, prelube := false, fuelRun := false } := by
  rw [State.endStart_of_fails h, State.failedStart_outputs, State.closeStart_outputs]

theorem State.endStart_sequencer {o : StartOutcome} (h : o.fails = true) :
    (s.endStart o).sequencer = (s.closeStart o).sequencer := by
  rw [State.endStart_of_fails h, State.failedStart_sequencer]

@[simp] theorem State.enterPhase_engine (s : State) (p : Phase) :
    (s.enterPhase p).engine = { s.engine with state := some (.starting p) } := s.enter_engine (.starting p)

@[simp] theorem State.enterPhase_outputs (s : State) (p : Phase) : (s.enterPhase p).outputs =
    { s.outputs with
      starter := p.outputs.1, prelube := p.outputs.2, fuelRun := EngineState.fuel (.starting p) } := by
  simp [State.enterPhase]

@[simp] theorem State.enterPhase_sequencer (s : State) (p : Phase) : (s.enterPhase p).sequencer =
    { s.sequencer with record := s.sequencer.record.map fun r => { r with furthest := r.furthest.later p } } := by
  simp [State.enterPhase]

/-- CRANK as it is entered: its window, its counts and its contactors (R61). -/
theorem State.enterCrank_start (s : State) :
    s.enterCrank.engine = { s.engine with state := some (.starting .crank) } ∧
      s.enterCrank.sequencer = { s.sequencer with
        timer := some (s.now + s.settings.crankWindow * 1000)
        run := some 0
        peak := some s.frontEnd.reported
        record := s.sequencer.record.map fun r =>
          { r with attemptsBegun := r.attemptsBegun + 1, furthest := r.furthest.later .crank } } ∧
      s.enterCrank.outputs = { s.outputs with starter := true, prelube := true, fuelRun := true } := by
  refine ⟨State.enterPhase_engine _ _, ?_, State.enterPhase_outputs _ _⟩
  unfold State.enterCrank
  dsimp only
  rw [State.enterPhase_sequencer]
  simp only [State.withRecord_sequencer, Option.map_map]
  rfl

/-- REST as it is entered (R68). -/
theorem State.enterRest_start (s : State) :
    s.enterRest.engine = { s.engine with state := some (.starting .rest) } ∧
      s.enterRest.sequencer = { s.sequencer with
        timer := some (s.now + s.settings.crankRest * 1000)
        run := none
        peak := none
        record := s.sequencer.record.map fun r => { r with furthest := r.furthest.later .rest } } ∧
      s.enterRest.outputs = { s.outputs with starter := false, prelube := true, fuelRun := false } :=
  ⟨State.enterPhase_engine _ _, State.enterPhase_sequencer _ _, State.enterPhase_outputs _ _⟩

/-- CATCH as it is entered (R65). -/
theorem State.enterCatch_start (s : State) :
    s.enterCatch.engine = { s.engine with state := some (.starting .catching) } ∧
      s.enterCatch.sequencer = { s.sequencer with
        timer := some (s.now + 10000)
        run := some 0
        record := s.sequencer.record.map fun r => { r with furthest := r.furthest.later .catching } } ∧
      s.enterCatch.outputs = { s.outputs with starter := false, prelube := true, fuelRun := true } :=
  ⟨State.enterPhase_engine _ _, State.enterPhase_sequencer _ _, State.enterPhase_outputs _ _⟩

/-- WARM as it is entered (R70). -/
theorem State.enterWarm_start (s : State) :
    s.enterWarm.engine = { s.engine with state := some (.starting .warm) } ∧
      s.enterWarm.sequencer = { s.sequencer with
        timer := some (s.now + 20000)
        run := none
        peak := none
        lubeMinimum := some s.idleLubeMinimum
        warmTime := some s.warmDuration
        lubeSeen := some false
        record := s.sequencer.record.map fun r => { r with furthest := r.furthest.later .warm } } ∧
      s.enterWarm.outputs = { s.outputs with starter := false, prelube := false, fuelRun := true } :=
  ⟨State.enterPhase_engine _ _, State.enterPhase_sequencer _ _, State.enterPhase_outputs _ _⟩

end

end Sys2Proof.Machine
end

section
/-! The expiries of the engine's timers, of the idle timer and of the start's phases: O38, O44, O45, O46 and O48. -/

namespace Sys2Proof.Machine

section

variable {s t u w : State} {st a : EngineState} {e : Nat}

/-! ## The events -/

theorem MonitorSound.reach (h : MonitorSound s) (e : Nat) : MonitorSound (s.reach e) :=
  h.of_same rfl rfl rfl

theorem exec_cooldownExpiry (hl : s.live = true) (hst : s.engine.state = some .cooldown) (he : s.engine.cooldownEnd = some e) :
    exec .cooldownExpiry s = .next ((s.reach e).settle false (s.reach e).enterRundown) := by
  show execCooldownExpiry s = _
  unfold execCooldownExpiry
  rw [he]
  dsimp only
  rw [if_pos ⟨hl, hst⟩]
  rfl

theorem exec_rundownExpiry (hl : s.live = true) (hst : s.engine.state = some .rundown) (he : s.engine.rundownEnd = some e) :
    exec .rundownExpiry s = .next ((s.reach e).settle false (s.reach e).endRundown) := by
  show execRundownExpiry s = _
  unfold execRundownExpiry
  rw [he]
  dsimp only
  rw [if_pos ⟨hl, hst⟩]
  rfl

theorem exec_idleTimerExpiry (hl : s.live = true) (hr : s.runs = true) (he : s.idle.idleSince = some e) :
    exec .idleTimerExpiry s = .next ((s.reach (e + s.settings.idleLimit * 1000)).settle false
      ((s.reach (e + s.settings.idleLimit * 1000)).beginStop .layup)) := by
  show execIdleTimerExpiry s = _
  unfold execIdleTimerExpiry
  rw [he]
  dsimp only
  rw [if_pos hl]
  have hreq : (s.reach (e + s.settings.idleLimit * 1000)).layupRequest =
      (s.reach (e + s.settings.idleLimit * 1000)).beginStop .layup := if_pos hr
  unfold State.event
  rw [hreq]

/-- An expiry of the phase timer in its phase. -/
theorem State.phaseExpiry_of {p : Phase} (change : State → State) (hl : s.live = true)
    (hst : s.engine.state = some (.starting p)) (he : s.sequencer.timer = some e) :
    s.phaseExpiry p change = (s.reach e).settle false (change (s.reach e).dropPhaseTimer) := by
  unfold State.phaseExpiry
  rw [he]
  dsimp only
  rw [if_pos ⟨hl, hst⟩]
  rfl

theorem Settled.now (h : Settled u w st t) : t.now = w.now := h.frame.now

/-- The end of a rundown. -/
theorem Settled.rundownOver (h : Settled s u.endRundown st t) (hs : s.engine.state = some .rundown)
    (hst : u.endRundown.engine.state = some st) : rundownOver u t := by
  have ht : t.engine.state = some st := by rw [h.engine, hst]
  have hstand : st ≠ .rundown ∧ t.speedNotch = none := by
    rw [State.endRundown_engine] at hst
    unfold State.speedNotch
    rw [ht]
    cases hst
    split <;> exact ⟨by decide, rfl⟩
  refine ⟨by rw [h.engine, State.endRundown_engine], ?_, ?_, fun hk => ?_⟩
  · rw [h.contactors.2.2, State.endRundown_outputs]
  · rw [h.governor_of_ne (by rw [hs]; simpa using hstand.1.symm), State.formedSpeed_of_no_notch hstand.2]
  · rw [h.judgement, State.endRundown_judgement hk]

theorem State.endRundown_state (s : State) : s.endRundown.engine.state =
    some (if s.engine.stopKind = some .layup then .laidUp else .stopped) := by rw [State.endRundown_engine]

/-! ## Measurements -/

theorem State.measure_senses (u : State) : u.measure.frontEnd.inputs = u.frontEnd.inputs ∧
    u.measure.frontEnd.scan = u.frontEnd.scan := by
  obtain ⟨-, -, -, -, -, hscan, -, hinputs, -⟩ := FrontEnd.judgeQuality_pins u.countPulses.frontEnd u.outputs.fuelRun
  have hf := FrontEnd.judgeSpeed_eq (u.countPulses.frontEnd.judgeQuality u.outputs.fuelRun) u.frontEnd.quality
  exact ⟨(congrArg FrontEnd.inputs hf).trans hinputs, (congrArg FrontEnd.scan hf).trans hscan⟩

@[simp] theorem State.measure_filtered (u : State) (i : Input) : u.measure.filtered i = u.filtered i := by
  unfold State.filtered
  rw [u.measure_senses.1]

@[simp] theorem State.measure_reading (u : State) (c : Analog) : u.measure.reading c = u.reading c :=
  State.reading_of_scan u.measure_senses.2 c

/-- Where SPEED_SIGNAL is not armed the Monitor takes nothing of a measurement. -/
theorem State.measurementChange_of_unarmed (h : (u.channel .speedSignal).armed = false) :
    u.measurementChange = u.measure.takeMeasurement u.frontEnd.quality := by
  unfold State.measurementChange State.monitorQuality
  rw [if_pos (show (u.measure.channel .speedSignal).armed = false from h)]

/-- A measurement in a state that does not arm SPEED_SIGNAL, where no trip begins. -/
theorem MonitorSound.settled_measurement (hm : MonitorSound u) (hc : u.engine.awaitingChoice = false)
    (ha : u.engine.state = some a) (hsp : Channel.speedSignal.armedIn a = false)
    (hst : (u.measure.takeMeasurement u.frontEnd.quality).engine.state = some st)
    (hq : st.turnsUnderPower = true → a.turnsUnderPower = true ∨ u.filtered .crankcaseSwitch = false) :
    Settled u (u.measure.takeMeasurement u.frontEnd.quality) st
      (u.settle u.engine.awaitingChoice u.measurementChange) := by
  rw [State.measurementChange_of_unarmed (by rw [hm.armed_eq hc ha, hsp]), hc]
  refine ((Driven.refl u.measure).takeMeasurement u.frontEnd.quality hc).settledFrom u (a := a) hc
    (fun c => hm.armed_eq hc ha c) hst rfl fun k => ?_
  rw [State.measure_filtered]
  exact hq k

end

/-- Settles O38: each clause is the quiet close of the end of a cool-down or of a rundown. -/
theorem cooldownAndRundownEnd : Obligations.CooldownAndRundownEnd := by
  intro e s hl hc hm
  refine ⟨fun hst he => ?cooldown, fun hst he => ?rundown, fun hst => ?measurement⟩
  case cooldown =>
    have hd : Driven (s.reach e) (s.reach e).enterRundown := (Driven.refl _).enterRundown
    have h := hd.settled (a := .cooldown) (st := .rundown) (hm.reach e) hc hst (by simp) fun _ => .inl rfl
    have ht : ((s.reach e).settle false (s.reach e).enterRundown).engine.state = some .rundown := by simp [h.engine]
    refine ⟨_, exec_cooldownExpiry hl hst he, h.now.trans hd.frame.now, ?_, ?_, ?_, h.arbiter.trans hd.arbiter, ?_,
      h.trips.trans hd.trips⟩
    · rw [h.engine, State.enterRundown_engine]
      rfl
    · rw [h.contactors.2.2, State.enterRundown_outputs]
    · rw [h.governor_of_ne (by rw [State.reach_engine, hst]; decide)]
      exact State.formedSpeed_of_no_notch (by unfold State.speedNotch; rw [ht])
    · rw [h.sequencer, State.enterRundown_sequencer]
      rfl
  case rundown =>
    have hd : Driven (s.reach e) (s.reach e).endRundown := (Driven.refl _).endRundown
    have h := hd.settled (a := .rundown) (hm.reach e) hc hst (State.endRundown_state _) fun _ => .inl rfl
    refine ⟨_, exec_rundownExpiry hl hst he, h.now.trans hd.frame.now, h.rundownOver hst (State.endRundown_state _),
      h.arbiter.trans hd.arbiter, ?_, h.trips.trans hd.trips⟩
    rw [h.sequencer, State.endRundown_sequencer]
    rfl
  case measurement =>
    refine ⟨_, exec_speedMeasurement hl, ?_⟩
    generalize hu : s.reach s.frontEnd.nextMeasurement = u
    have hst' : u.engine.state = some .rundown := by rw [← hu]; exact hst
    have hc' : u.engine.awaitingChoice = false := by rw [← hu]; exact hc
    have hm' : MonitorSound u := hu ▸ hm.reach _
    have he : u.engine = s.engine ∧ u.arbiter = s.arbiter ∧ u.sequencer = s.sequencer ∧ u.monitor = s.monitor := by
      subst hu
      exact ⟨rfl, rfl, rfl, rfl⟩
    obtain ⟨heng, harb, hseq, hmon⟩ := he
    have hd : Driven u.measure (u.measure.takeMeasurement u.frontEnd.quality) := (Driven.refl _).takeMeasurement _ hc'
    have htake : u.measure.takeMeasurement u.frontEnd.quality =
        if u.measure.frontEnd.reported < 20 then u.measure.endRundown else u.measure := by
      unfold State.takeMeasurement
      rw [show u.measure.engine = u.engine from rfl, hc', hst']
      rfl
    rw [show s.engine.awaitingChoice = u.engine.awaitingChoice by rw [heng]]
    have hst2 : (u.measure.takeMeasurement u.frontEnd.quality).engine.state =
        some (if u.measure.frontEnd.reported < 20 then
          if u.engine.stopKind = some .layup then .laidUp else .stopped else .rundown) := by
      rw [htake]
      split
      · exact State.endRundown_state _
      · exact hst'
    have h := hm'.settled_measurement hc' hst' rfl hst2 fun _ => .inl rfl
    have hfr := h.frame.frontEnd.trans hd.frame.frontEnd
    rw [hfr]
    refine ⟨fun hlt => ?_, fun hge => ?_, h.arbiter.trans (hd.arbiter.trans harb), ?_, ?_⟩
    · rw [if_pos hlt] at hst2
      rw [htake, if_pos hlt, if_pos hlt] at h
      have hover := h.rundownOver (u := u.measure) hst' (State.endRundown_state _)
      rw [rundownOver, show u.measure.engine = s.engine from heng] at hover
      exact hover
    · rw [h.engine, htake, if_neg (Nat.not_lt.mpr hge)]
      exact heng
    · rw [h.sequencer, htake]
      split
      · rw [State.endRundown_sequencer]
        exact hseq
      · exact hseq
    · rw [h.trips, hd.trips]
      exact congrArg Monitor.trips hmon

/-- Settles O48: the idle limit begins a layup stop, which leaves RUNNING and ISOLATED. -/
theorem idleLimitBeginsLayup : Obligations.IdleLimitBeginsLayup := by
  intro e s hl hc hruns hm he
  refine ⟨_, exec_idleTimerExpiry hl hruns he, ?_⟩
  generalize hu : s.reach (e + s.settings.idleLimit * 1000) = u
  have hm' : MonitorSound u := hu ▸ hm.reach _
  have hsame : u.now = max s.now (e + s.settings.idleLimit * 1000) ∧ u.engine = s.engine ∧ u.arbiter = s.arbiter ∧
      u.sequencer = s.sequencer ∧ u.monitor = s.monitor ∧ u.settings = s.settings ∧ u.runs = s.runs := by
    subst hu
    exact ⟨rfl, rfl, rfl, rfl, rfl, rfl, rfl⟩
  obtain ⟨hnow, heng, harb, hseq, hmon, hset, hr⟩ := hsame
  rw [← hset, ← heng]
  rw [← heng] at hc
  rw [← hset] at hnow
  obtain ⟨a, ha, hpower⟩ : ∃ a : EngineState, u.engine.state = some a ∧ a.turnsUnderPower = true := by
    rw [← hr] at hruns
    simp only [State.runs, Bool.or_eq_true, beq_iff_eq] at hruns
    rcases hruns with h | h <;> exact ⟨_, h, rfl⟩
  have hd : Driven u (u.beginStop .layup) := (Driven.refl u).beginStop .layup
  have h := hd.settled hm' hc ha (u.beginStop_state .layup) fun _ => .inl hpower
  have heng' := h.engine.trans (u.beginStop_engine .layup)
  have hfuel : (u.settle false (u.beginStop .layup)).outputs.fuelRun = decide (1 ≤ u.settings.cooldownTime) := by
    rw [h.contactors.2.2, State.beginStop_outputs]
  have hnow' : (u.settle false (u.beginStop .layup)).now = u.now := h.now.trans hd.frame.now
  have hstop : (u.settle false (u.beginStop .layup)).runs = false := by
    unfold State.runs
    rw [h.engine, State.beginStop_state, State.stopState]
    split <;> rfl
  refine ⟨hnow'.trans hnow, fun hcd => ⟨?_, ?_⟩, fun hcd => ⟨?_, ?_⟩, ?_, fun hrun => ?_,
    h.arbiter.trans (hd.arbiter.trans harb), ?_, ?_⟩
  · rw [heng', if_pos hcd, hnow']
  · rw [hfuel, decide_eq_true hcd]
  · rw [heng', if_neg (by omega), hnow']
  · rw [hfuel, decide_eq_false (by omega)]
  · exact h.idle_none hstop
  · obtain ⟨hg, ht, hload⟩ := State.beginStop_unloaded .layup hrun
    obtain ⟨h1, h2, -⟩ := h.unloaded hg ht hload
    exact ⟨h1, h2⟩
  · rw [h.trips, hd.trips, hmon]
  · rw [h.sequencer, State.beginStop_sequencer, hseq]

end Sys2Proof.Machine
end

section
/-! The course of a start: what its failing, its catching and its further attempts leave, and the expiries of its phases:
O44, O45 and O46. -/

namespace Sys2Proof.Machine

section

variable {before u v w s t : State} {st a : EngineState} {e : Nat} {r : StartRecord} {o : StartOutcome}
  {why : AttemptReason}

/-- A move of the engine where CRANKCASE stands armed or its input inactive: no trip begins, whatever state it enters. -/
theorem Driven.settledAny (before : State) (hd : Driven v w) (hc : v.engine.awaitingChoice = false)
    (ha : v.engine.state = some a) (harmed : ∀ c : Channel, (v.channel c).armed = c.armedIn a)
    (hp : v.arbiter = before.arbiter) (hq : a.turnsUnderPower = true ∨ v.filtered .crankcaseSwitch = false) :
    ∃ st : EngineState, w.engine.state = some st ∧ Settled before w st (before.settle false w) := by
  obtain ⟨st, hst⟩ := Option.ne_none_iff_exists'.mp (hd.chosen (by rw [ha]; simp))
  exact ⟨st, hst, hd.settledFrom before hc harmed hst hp fun _ => hq⟩

/-- The same engine and start, but for the phase timer and the peak. -/
structure SameStart (s v : State) : Prop where
  engine : v.engine = s.engine
  settings : v.settings = s.settings
  fuelRun : v.outputs.fuelRun = s.outputs.fuelRun
  sequencer : v.sequencer = { s.sequencer with timer := v.sequencer.timer, peak := v.sequencer.peak }

theorem SameStart.idle (h : SameStart s v) : v.sequencer.idle = s.sequencer.idle := by
  rw [h.sequencer]
  rfl

theorem SameStart.record (h : SameStart s v) : v.sequencer.record = s.sequencer.record := by rw [h.sequencer]

theorem SameStart.dropPhaseTimer (s : State) (e : Nat) : SameStart s (s.reach e).dropPhaseTimer := ⟨rfl, rfl, rfl, rfl⟩

/-! ## What the moves of a start leave at the close -/

theorem Settled.startFails (h : Settled before (v.endStart o) st t) (hv : SameStart s v) (ho : o.fails = true)
    (hne : o ≠ .startFailed) : startFails s t o := by
  have hf := State.endStart_frame o (Frame.refl v)
  have hlock : v.sequencer.lockoutEnd = s.sequencer.lockoutEnd := by rw [hv.sequencer]
  refine ⟨?_, ?_, ?_, ?_, ?_⟩
  · rw [h.sequencer, State.endStart_sequencer ho, State.closeStart_sequencer, if_neg hne, hv.idle, hv.record, hlock]
    rfl
  · rw [h.contactors.1, State.endStart_outputs ho]
  · rw [h.contactors.2.1, State.endStart_outputs ho]
  · rw [h.contactors.2.2, State.endStart_outputs ho]
  · rw [h.engine, State.endStart_engine ho, hv.engine, hv.fuelRun, h.frame.frontEnd, h.frame.now, hf.frontEnd, hf.now]

theorem Settled.crankEntered (h : Settled before v.enterCrank st t) : crankEntered v t := by
  obtain ⟨heng, hseq, hout⟩ := v.enterCrank_start
  have hf := State.enterCrank_frame (Frame.refl v)
  refine ⟨h.engine.trans heng, ?_, ?_, ?_, ?_⟩
  · rw [h.sequencer, hseq, h.frame.now, h.frame.frontEnd, hf.now, hf.frontEnd]
  · rw [h.contactors.1, hout]
  · rw [h.contactors.2.1, hout]
  · rw [h.contactors.2.2, hout]

theorem State.appendAttempt_sequencer (why : AttemptReason) (hr : v.sequencer.record = some r) :
    (v.appendAttempt why).sequencer =
      { v.sequencer with
        record := some { r with attempts := attemptsAfter v r why (v.sequencer.peak.getD 0) } } := by
  have ha : v.attempts = r.attempts := by
    unfold State.attempts
    rw [hr]
    rfl
  unfold State.appendAttempt attemptsAfter
  rw [ha]
  split
  · rw [State.withRecord_sequencer, hr]
    rfl
  · rw [← hr]

theorem State.appendAttempt_stands (v : State) (why : AttemptReason) :
    (v.appendAttempt why).outputs = v.outputs ∧ (v.appendAttempt why).settings = v.settings ∧
      (v.appendAttempt why).now = v.now ∧ (v.appendAttempt why).frontEnd = v.frontEnd := by
  unfold State.appendAttempt
  split <;> exact ⟨rfl, rfl, rfl, rfl⟩

/-- A failed attempt of a fuelled engine (R67 to R69). -/
theorem Settled.attemptFailed (h : Settled before (v.failAttempt why) st t) (hv : SameStart s v)
    (hr : s.sequencer.record = some r) (hfuel : s.outputs.fuelRun = true) :
    attemptFailed s t r why (v.sequencer.peak.getD 0) := by
  have hseq := State.appendAttempt_sequencer (v := v) why (hv.record.trans hr)
  have hafter : attemptsAfter v r why (v.sequencer.peak.getD 0) = attemptsAfter s r why (v.sequencer.peak.getD 0) := by
    unfold attemptsAfter
    rw [hv.settings]
  rw [hafter] at hseq
  obtain ⟨hout, hset, hnow, -⟩ := v.appendAttempt_stands why
  have heng : (v.appendAttempt why).engine = s.engine := (v.appendAttempt_engine why).trans hv.engine
  have hatt : (v.appendAttempt why).attempts = attemptsAfter s r why (v.sequencer.peak.getD 0) := by
    unfold State.attempts
    rw [hseq]
    rfl
  have hw : v.failAttempt why =
      if (attemptsAfter s r why (v.sequencer.peak.getD 0)).length < s.settings.crankAttempts then
        (v.appendAttempt why).enterRest
      else (v.appendAttempt why).endStart .startFailed := by
    unfold State.failAttempt
    dsimp only
    rw [hatt, hv.settings]
  have hf := State.failAttempt_frame why (Frame.refl v)
  have hnow' : t.now = v.now := h.frame.now.trans hf.now
  have hset' : v.settings = s.settings := hv.settings
  unfold Sys2Proof.Machine.attemptFailed
  rw [hnow']
  split
  · rename_i hlt
    rw [if_pos hlt] at hw
    rw [hw] at h
    obtain ⟨hreng, hrseq, hrout⟩ := (v.appendAttempt why).enterRest_start
    refine ⟨?_, ?_, ?_, ?_, ?_⟩
    · rw [h.engine, hreng, heng]
    · rw [h.sequencer, hrseq, hseq, hnow, hset, hset', hv.sequencer]
      rfl
    · rw [h.contactors.1, hrout]
    · rw [h.contactors.2.1, hrout]
    · rw [h.contactors.2.2, hrout]
  · rename_i hlt
    rw [if_neg hlt] at hw
    rw [hw] at h
    have ho : StartOutcome.startFailed.fails = true := rfl
    refine ⟨?_, ?_, ?_, ?_, ?_⟩
    · rw [h.engine, State.endStart_engine ho, if_pos (.inr (by rw [hout, hv.fuelRun, hfuel])), heng, hnow]
    · rw [h.sequencer, State.endStart_sequencer ho, State.closeStart_sequencer, if_pos rfl, hseq, hnow, hset, hset',
        hv.sequencer]
      rfl
    · rw [h.contactors.1, State.endStart_outputs ho]
    · rw [h.contactors.2.1, State.endStart_outputs ho]
    · rw [h.contactors.2.2, State.endStart_outputs ho]

/-! ## The phases' expiries -/

/-- An expiry of the phase timer that begins no trip. -/
theorem MonitorSound.settled_phaseExpiry (hm : MonitorSound s) (hc : s.engine.awaitingChoice = false)
    (ha : s.engine.state = some a) (e : Nat) (hq : a.turnsUnderPower = true ∨ s.filtered .crankcaseSwitch = false)
    {change : State → State} (hd : Driven (s.reach e).dropPhaseTimer (change (s.reach e).dropPhaseTimer)) :
    ∃ st : EngineState, Settled (s.reach e) (change (s.reach e).dropPhaseTimer) st
      ((s.reach e).settle false (change (s.reach e).dropPhaseTimer)) := by
  obtain ⟨st, -, h⟩ := hd.settledAny (s.reach e) hc ha (fun c => hm.armed_eq hc ha c) rfl hq
  exact ⟨st, h⟩

theorem State.prelubeCheck_of_pressure (h : 30 ≤ s.reading .lube) : s.prelubeCheck =
    ({ s with sequencer := { s.sequencer with creditEnd := some (s.now + 120000) } } : State).enterCrank := if_pos h

theorem State.prelubeCheck_of_none (h : s.reading .lube < 30) : s.prelubeCheck = s.endStart .noPrelubePressure :=
  if_neg (not_le.mpr h)

end

/-- Settles O44, by the pressure at the end of PRELUBE and by the speed at the end of REST. -/
theorem prelubeAndRestLeadToCrank : Obligations.PrelubeAndRestLeadToCrank := by
  intro e s hl hc hm hcrank he
  refine ⟨fun hst => ?prelube, fun hst => ?rest⟩
  case prelube =>
    have hd : Driven (s.reach e).dropPhaseTimer (s.reach e).dropPhaseTimer.prelubeCheck := (Driven.refl _).prelubeCheck
    obtain ⟨st, h⟩ := hm.settled_phaseExpiry hc hst e (.inr hcrank) hd
    have hnow := h.frame.now.trans hd.frame.now
    refine ⟨_, congrArg Host.Outcome.next (State.phaseExpiry_of State.prelubeCheck hl hst he), hnow,
      h.arbiter.trans hd.arbiter, h.trips.trans hd.trips, fun hlube => ?_, fun hlube => ?_⟩
    · rw [State.prelubeCheck_of_pressure (s := (s.reach e).dropPhaseTimer) hlube] at h
      obtain ⟨heng, hseq, hstarter, hprelube, hfuel⟩ := h.crankEntered
      have hfr := h.frame.frontEnd.trans (State.enterCrank_frame (Frame.refl _)).frontEnd
      rw [← State.prelubeCheck_of_pressure (s := (s.reach e).dropPhaseTimer) hlube] at heng hseq hstarter hprelube hfuel hfr
      rw [hseq, hfr]
      rw [hnow]
      exact ⟨rfl, heng, rfl, rfl, rfl, rfl, hstarter, hprelube, hfuel⟩
    · rw [State.prelubeCheck_of_none (s := (s.reach e).dropPhaseTimer) hlube] at h
      obtain ⟨hseq, hstarter, hprelube, hfuel, heng⟩ := h.startFails (SameStart.dropPhaseTimer s e) rfl (by decide)
      have hfr := h.frame.frontEnd.trans (State.endStart_frame .noPrelubePressure (Frame.refl _)).frontEnd
      rw [← State.prelubeCheck_of_none (s := (s.reach e).dropPhaseTimer) hlube] at hseq hstarter hprelube hfuel heng hfr
      refine ⟨hseq, hstarter, hprelube, hfuel, ?_⟩
      rw [heng, hfr]
      show (if 20 ≤ s.frontEnd.reported ∨ s.outputs.fuelRun = true then _ else _ : Engine).state = _
      split <;> rfl
  case rest =>
    have hd : Driven (s.reach e).dropPhaseTimer (s.reach e).dropPhaseTimer.restTest := (Driven.refl _).restTest
    obtain ⟨st, h⟩ := hm.settled_phaseExpiry hc hst e (.inr hcrank) hd
    have hnow := h.frame.now.trans hd.frame.now
    have htest : (s.reach e).dropPhaseTimer.restTest = if s.frontEnd.reported < 20 then
        (s.reach e).dropPhaseTimer.enterCrank else (s.reach e).dropPhaseTimer := by
      unfold State.restTest
      exact if_congr (and_iff_right rfl) rfl rfl
    refine ⟨_, congrArg Host.Outcome.next (State.phaseExpiry_of State.restTest hl hst he), hnow,
      h.arbiter.trans hd.arbiter, h.trips.trans hd.trips, fun hlt => ?_, fun hge => ?_⟩
    · have hw := htest.trans (if_pos hlt)
      rw [hw] at h hnow ⊢
      obtain ⟨heng, hseq, hstarter, hprelube, hfuel⟩ := h.crankEntered
      have hfr := h.frame.frontEnd.trans (State.enterCrank_frame (Frame.refl _)).frontEnd
      rw [hseq, hfr, hnow]
      exact ⟨heng, rfl, rfl, rfl, rfl, hstarter, hprelube, hfuel⟩
    · have hw := htest.trans (if_neg (Nat.not_lt.mpr hge))
      rw [h.engine, h.sequencer, hw]
      exact ⟨rfl, rfl⟩

section

variable {s t : State} {r : StartRecord} {why : AttemptReason}

/-- A failed attempt with the list below CRANK_ATTEMPTS, as O45 reads it. -/
theorem attemptFailed.below {peak : Nat} (h : attemptFailed s t r why peak)
    (hlt : r.attempts.length < s.settings.crankAttempts) :
    (r.attempts.length + 1 < s.settings.crankAttempts →
      t.engine = { s.engine with state := some (.starting .rest) } ∧
      t.sequencer = { s.sequencer with
        timer := some (t.now + s.settings.crankRest * 1000), run := none, peak := none
        record := some { r with attempts := r.attempts ++ [⟨why, peak⟩], furthest := r.furthest.later .rest } } ∧
      t.outputs.starter = false ∧ t.outputs.prelube = true ∧ t.outputs.fuelRun = false) ∧
    (r.attempts.length + 1 = s.settings.crankAttempts →
      t.engine = { s.engine with
        state := some .rundown, stopKind := some .normal, cooldownEnd := none, rundownEnd := some (t.now + 60000) } ∧
      t.sequencer = { s.sequencer.idle with
        record := some { r with attempts := r.attempts ++ [⟨why, peak⟩], outcome := .startFailed }
        lockoutEnd := some (t.now + s.settings.starterLockout * 1000) } ∧
      t.outputs.starter = false ∧ t.outputs.prelube = false ∧ t.outputs.fuelRun = false) := by
  have hafter : attemptsAfter s r why peak = r.attempts ++ [⟨why, peak⟩] := if_pos hlt
  unfold attemptFailed at h
  rw [hafter] at h
  have hlen : (r.attempts ++ [(⟨why, peak⟩ : Attempt)]).length = r.attempts.length + 1 := by simp
  rw [hlen] at h
  refine ⟨fun k => ?_, fun k => ?_⟩
  · rw [if_pos k] at h
    exact h
  · rw [if_neg (by omega)] at h
    exact h

end

/-- Settles O45: each window's expiry is a failed attempt of a fuelled engine. -/
theorem windowsFailTheAttempt : Obligations.WindowsFailTheAttempt := by
  intro e r s hl hc hm hcrank hfuel hr hlt he
  have expiry {p : Phase} (why : AttemptReason) (hst : s.engine.state = some (.starting p)) :
      attemptFailed s ((s.reach e).settle false ((s.reach e).dropPhaseTimer.failAttempt why)) r why
        (s.sequencer.peak.getD 0) ∧
      ((s.reach e).settle false ((s.reach e).dropPhaseTimer.failAttempt why)).now = max s.now e ∧
      ((s.reach e).settle false ((s.reach e).dropPhaseTimer.failAttempt why)).arbiter = s.arbiter ∧
      ((s.reach e).settle false ((s.reach e).dropPhaseTimer.failAttempt why)).monitor.trips = s.monitor.trips := by
    have hd : Driven (s.reach e).dropPhaseTimer ((s.reach e).dropPhaseTimer.failAttempt why) :=
      (Driven.refl _).failAttempt why
    obtain ⟨st, h⟩ := hm.settled_phaseExpiry hc hst e (.inr hcrank) (change := fun u => u.failAttempt why) hd
    exact ⟨h.attemptFailed (SameStart.dropPhaseTimer s e) hr hfuel, h.frame.now.trans hd.frame.now,
      h.arbiter.trans hd.arbiter, h.trips.trans hd.trips⟩
  refine ⟨fun hst => ?_, fun hst => ?_⟩
  · obtain ⟨hfail, hnow, harb, htrips⟩ := expiry .noFire hst
    exact ⟨_, congrArg Host.Outcome.next (State.phaseExpiry_of (fun t => t.failAttempt .noFire) hl hst he), hnow, harb,
      htrips, hfail.below hlt⟩
  · obtain ⟨hfail, hnow, harb, htrips⟩ := expiry .noCatch hst
    exact ⟨_, congrArg Host.Outcome.next (State.phaseExpiry_of (fun t => t.failAttempt .noCatch) hl hst he), hnow, harb,
      htrips, hfail.below hlt⟩

/-- A start that reaches its running state (R40, R72). -/
theorem Settled.startReached {before v t : State} {st : EngineState}
    (h : Settled before (v.endStart .runningReached) st t) :
    t.sequencer = { v.sequencer.idle with
      record := v.sequencer.record.map fun r => { r with outcome := .runningReached } } ∧
    t.engine = { v.engine with
      state := some (if v.engine.isolateFlag || v.filtered .isolateSwitch then .isolated else .running) } ∧
    t.outputs.starter = false ∧ t.outputs.prelube = false ∧ t.outputs.fuelRun = true := by
  have hw : v.endStart .runningReached = (v.closeStart .runningReached).enterRunning := rfl
  have hf := State.closeStart_frame .runningReached (Frame.refl v)
  have hiso : (v.closeStart .runningReached).isolationInForce = (v.engine.isolateFlag || v.filtered .isolateSwitch) := by
    unfold State.isolationInForce State.filtered
    rw [State.closeStart_engine, hf.frontEnd]
  rw [hw] at h
  refine ⟨?_, ?_, ?_, ?_, ?_⟩
  · rw [h.sequencer, State.enterRunning_sequencer, State.closeStart_sequencer, if_neg (by decide)]
    rfl
  · rw [h.engine, State.enterRunning_engine, hiso, State.closeStart_engine]
  · rw [h.contactors.1, State.enterRunning_outputs, State.closeStart_outputs]
  · rw [h.contactors.2.1, State.enterRunning_outputs, State.closeStart_outputs]
  · rw [h.contactors.2.2, State.enterRunning_outputs]

/-- Settles O46, by the timer that expires and, for the warm timer, the pressure. -/
theorem warmEndsTheStart : Obligations.WarmEndsTheStart := by
  intro e s hl hc hm hst he
  have noOil {t : State} {st : EngineState}
      (h : Settled (s.reach e) ((s.reach e).dropPhaseTimer.endStart .noOilPressure) st t) :
      t.outputs.starter = false ∧ t.outputs.prelube = false ∧
      t.sequencer = { s.sequencer.idle with
        record := s.sequencer.record.map fun r => { r with outcome := .noOilPressure } } ∧
      t.engine.state = some (if 20 ≤ s.frontEnd.reported ∨ s.outputs.fuelRun = true then .rundown else .stopped) ∧
      t.outputs.fuelRun = false := by
    obtain ⟨hseq, hstarter, hprelube, hfuel, heng⟩ := h.startFails (SameStart.dropPhaseTimer s e) rfl (by decide)
    refine ⟨hstarter, hprelube, hseq, ?_, hfuel⟩
    rw [heng, h.frame.frontEnd, (State.endStart_frame .noOilPressure (Frame.refl _)).frontEnd]
    show (if 20 ≤ s.frontEnd.reported ∨ s.outputs.fuelRun = true then _ else _ : Engine).state = _
    split <;> rfl
  refine ⟨fun hseen => ?_, fun hseen => ?_⟩
  · have hd : Driven (s.reach e).dropPhaseTimer ((s.reach e).dropPhaseTimer.endStart .noOilPressure) :=
      (Driven.refl _).endStart _
    obtain ⟨st, h⟩ := hm.settled_phaseExpiry hc hst e (.inl rfl) (change := fun u => u.endStart .noOilPressure) hd
    refine ⟨_, ?_, h.frame.now.trans hd.frame.now, h.arbiter.trans hd.arbiter, h.trips.trans hd.trips, noOil h⟩
    exact congrArg Host.Outcome.next ((if_pos hseen).trans (State.phaseExpiry_of _ hl hst he))
  · have hd : Driven (s.reach e).dropPhaseTimer (s.reach e).dropPhaseTimer.warmCheck := (Driven.refl _).warmCheck
    obtain ⟨st, h⟩ := hm.settled_phaseExpiry hc hst e (.inl rfl) hd
    refine ⟨_, congrArg Host.Outcome.next ((if_pos hseen).trans (State.phaseExpiry_of State.warmCheck hl hst he)),
      h.frame.now.trans hd.frame.now, h.arbiter.trans hd.arbiter, h.trips.trans hd.trips, ?_⟩
    have hw : (s.reach e).dropPhaseTimer.warmCheck =
        if (s.sequencer.lubeMinimum.getD 0 : Int) ≤ s.reading .lube then
          (s.reach e).dropPhaseTimer.endStart .runningReached
        else (s.reach e).dropPhaseTimer.endStart .noOilPressure := rfl
    rw [hw] at h ⊢
    by_cases hp : (s.sequencer.lubeMinimum.getD 0 : Int) ≤ s.reading .lube
    · rw [if_pos hp] at h ⊢
      obtain ⟨hseq, heng, hstarter, hprelube, hfuel⟩ := h.startReached
      exact ⟨hstarter, hprelube, fun _ => ⟨hseq, heng, hfuel⟩, fun k => absurd hp (not_le.mpr k)⟩
    · rw [if_neg hp] at h ⊢
      obtain ⟨hstarter, hprelube, hseq, hstate, hfuel⟩ := noOil h
      exact ⟨hstarter, hprelube, fun k => absurd k hp, fun _ => ⟨hseq, hstate, hfuel⟩⟩

end Sys2Proof.Machine
end

section
/-! The measurements of a start: O37. -/

namespace Sys2Proof.Machine

section

variable {before v s t : State} {st : EngineState} {was : SpeedQuality}

/-! ## The branches of a measurement in CRANK, CATCH and REST -/

theorem State.crankMeasurement_lost (hw : was = .good) (hq : v.frontEnd.quality = .lost) :
    v.crankMeasurement was = v.raisePeak.endStart .speedErratic := if_pos ⟨hw, hq⟩

theorem State.crankMeasurement_erratic (hw : was = .good) (hq : v.frontEnd.quality = .erratic) :
    v.crankMeasurement was = if v.settings.erraticPolicy = 1 then v.raisePeak.failAttempt .speedErratic
      else v.raisePeak.endStart .speedErratic := by
  unfold State.crankMeasurement
  dsimp only
  rw [if_neg (by rw [hq]; simp), if_pos ⟨hw, hq⟩]

theorem State.crankMeasurement_good (hq : v.frontEnd.quality = .good) :
    v.crankMeasurement was =
      if 160 ≤ v.frontEnd.measured.getD 0 then
        if 6 ≤ v.sequencer.run.getD 0 + 1 then v.raisePeak.enterCatch else v.raisePeak.withRun (v.sequencer.run.getD 0 + 1)
      else v.raisePeak.withRun 0 := by
  have hf : v.firingTest = decide (160 ≤ v.frontEnd.measured.getD 0) := by
    unfold State.firingTest
    rw [hq]
    rfl
  unfold State.crankMeasurement
  dsimp only
  rw [if_neg (by rw [hq]; simp), if_neg (by rw [hq]; simp), hf]
  simp only [decide_eq_true_eq]

theorem State.crankMeasurement_bad (hw : was ≠ .good) (hq : v.frontEnd.quality ≠ .good) :
    v.crankMeasurement was = v.raisePeak.withRun 0 := by
  have hf : v.firingTest = false := by
    unfold State.firingTest
    rw [beq_false_of_ne hq]
    rfl
  unfold State.crankMeasurement
  dsimp only
  rw [if_neg (fun k => hw k.1), if_neg (fun k => hw k.1), hf]
  rfl

theorem State.catchMeasurement_eq : v.catchMeasurement =
    if 280 ≤ v.frontEnd.reported then v.raisePeak.enterWarm
    else if v.frontEnd.reported < 60 then
      if 3 ≤ v.sequencer.run.getD 0 + 1 then v.raisePeak.failAttempt .stall
      else v.raisePeak.withRun (v.sequencer.run.getD 0 + 1)
    else v.raisePeak.withRun 0 := rfl

theorem State.restTest_state (hst : v.engine.state = some (.starting .rest)) :
    ∃ p : Phase, v.restTest.engine.state = some (.starting p) ∧ (EngineState.starting p).turnsUnderPower = false := by
  unfold State.restTest
  split
  · exact ⟨.crank, by rw [v.enterCrank_start.1], rfl⟩
  · exact ⟨.rest, hst, rfl⟩

/-! ## What the close leaves -/

/-- The state `v` of a measurement differs from `s`, in which it was taken, by the Front End and the clock. -/
structure Measured (s v : State) : Prop where
  engine : v.engine = s.engine
  sequencer : v.sequencer = s.sequencer
  outputs : v.outputs = s.outputs
  store : v.store = s.store
  reading : ∀ c : Analog, v.reading c = s.reading c

theorem Measured.settings (h : Measured s v) : v.settings = s.settings := by
  unfold State.settings
  rw [h.store]

theorem Measured.raisePeak (h : Measured s v) : SameStart s v.raisePeak where
  engine := h.engine
  settings := h.settings
  fuelRun := by
    show v.outputs.fuelRun = _
    rw [h.outputs]
  sequencer := by
    show ({ v.sequencer with peak := some (max (v.sequencer.peak.getD 0) v.frontEnd.reported) } : Sequencer) =
      { s.sequencer with
        timer := v.sequencer.timer, peak := some (max (v.sequencer.peak.getD 0) v.frontEnd.reported) }
    rw [h.sequencer]

theorem Measured.peak (h : Measured s v) :
    v.raisePeak.sequencer.peak = some (max (s.sequencer.peak.getD 0) v.frontEnd.reported) := by
  show some (max (v.sequencer.peak.getD 0) _) = _
  rw [h.sequencer]

/-- The counts of a measurement that neither catches nor fails. -/
theorem Settled.run_counted {n : Nat} (h : Settled before (v.raisePeak.withRun n) st t) (hv : Measured s v) :
    t.engine = s.engine ∧ t.sequencer = { s.sequencer with
      run := some n, peak := some (max (s.sequencer.peak.getD 0) v.frontEnd.reported) } := by
  refine ⟨h.engine.trans hv.engine, ?_⟩
  rw [h.sequencer]
  show ({ v.sequencer with run := some n, peak := some (max (v.sequencer.peak.getD 0) v.frontEnd.reported) } : Sequencer) = _
  rw [hv.sequencer]

/-- CATCH entered from CRANK (R62, R65). -/
theorem Settled.catchEntered (h : Settled before v.raisePeak.enterCatch st t) (hv : Measured s v) :
    t.engine = { s.engine with state := some (.starting .catching) } ∧
      t.sequencer.timer = some (t.now + 10000) ∧ t.sequencer.run = some 0 ∧
      t.sequencer.peak = some (max (s.sequencer.peak.getD 0) v.frontEnd.reported) ∧
      t.outputs.starter = false ∧ t.outputs.prelube = true ∧ t.outputs.fuelRun = true := by
  obtain ⟨heng, hseq, hout⟩ := v.raisePeak.enterCatch_start
  have hnow : t.now = v.raisePeak.now := h.frame.now.trans (State.enterCatch_frame (Frame.refl _)).now
  refine ⟨?_, ?_, ?_, ?_, ?_, ?_, ?_⟩
  · rw [h.engine, heng, hv.raisePeak.engine]
  · rw [h.sequencer, hseq, hnow]
  · rw [h.sequencer, hseq]
  · rw [h.sequencer, hseq]
    exact hv.peak
  · rw [h.contactors.1, hout]
  · rw [h.contactors.2.1, hout]
  · rw [h.contactors.2.2, hout]

/-- WARM entered from CATCH (R65, R70). -/
theorem Settled.warmEntered (h : Settled before v.raisePeak.enterWarm st t) (hv : Measured s v) :
    t.engine = { s.engine with state := some (.starting .warm) } ∧
      t.sequencer.timer = some (t.now + 20000) ∧ t.sequencer.lubeSeen = some false ∧
      t.sequencer.lubeMinimum = some (s.store.look (lubeLookup (min 9 (s.store.scheduledSpeed 0 / 100)))).toNat ∧
      t.sequencer.warmTime = some (s.store.look (warmLookup (coolantBand (s.reading .coolant)))).toNat ∧
      t.outputs.starter = false ∧ t.outputs.prelube = false ∧ t.outputs.fuelRun = true := by
  obtain ⟨heng, hseq, hout⟩ := v.raisePeak.enterWarm_start
  have hnow : t.now = v.raisePeak.now := h.frame.now.trans (State.enterWarm_frame (Frame.refl _)).now
  have hstore : v.raisePeak.store = s.store := hv.store
  have hread : v.raisePeak.reading .coolant = s.reading .coolant := hv.reading _
  refine ⟨?_, ?_, ?_, ?_, ?_, ?_, ?_, ?_⟩
  · rw [h.engine, heng, hv.raisePeak.engine]
  · rw [h.sequencer, hseq, hnow]
  · rw [h.sequencer, hseq]
  · rw [h.sequencer, hseq]
    unfold State.idleLubeMinimum State.idleSpeed speedBand
    rw [hstore]
  · rw [h.sequencer, hseq]
    unfold State.warmDuration
    rw [hstore, hread]
  · rw [h.contactors.1, hout]
  · rw [h.contactors.2.1, hout]
  · rw [h.contactors.2.2, hout]

end

/-- Settles O37: a measurement's branches in CRANK, CATCH and REST, each at its quiet close. -/
theorem engineFiresAndCatches : Obligations.EngineFiresAndCatches := by
  intro s hl hc hm hphase
  refine ⟨_, exec_speedMeasurement hl, ?_⟩
  generalize hu : s.reach s.frontEnd.nextMeasurement = u
  have hm' : MonitorSound u := hu ▸ hm.reach _
  have hsame : Measured s u.measure ∧ u.engine = s.engine ∧ u.monitor = s.monitor ∧ u.arbiter = s.arbiter ∧
      u.filtered = s.filtered ∧ u.frontEnd = s.frontEnd := by
    subst hu
    exact ⟨⟨rfl, rfl, rfl, rfl, State.measure_reading _⟩, rfl, rfl, rfl, rfl, rfl⟩
  obtain ⟨hv, heng, hmon, harb, hfilt, hfe⟩ := hsame
  have hc' : u.engine.awaitingChoice = false := by rw [heng, hc]
  have hd : Driven u.measure (u.measure.takeMeasurement u.frontEnd.quality) := (Driven.refl _).takeMeasurement _ hc'
  have settled : ∃ st : EngineState, Settled u (u.measure.takeMeasurement u.frontEnd.quality) st
      (u.settle u.engine.awaitingChoice u.measurementChange) := by
    obtain ⟨st, hst⟩ := Option.ne_none_iff_exists'.mp (hd.chosen (by
      rw [show u.measure.engine = s.engine from heng]
      rcases hphase with ⟨h, -⟩ | h | h <;> simp [h]))
    refine ⟨st, ?_⟩
    rw [← heng] at hphase
    rcases hphase with ⟨h, hcrank⟩ | h | h
    · exact hm'.settled_measurement hc' h rfl hst fun _ => .inr (by rw [hfilt]; exact hcrank)
    · exact hm'.settled_measurement hc' h rfl hst fun _ => .inl rfl
    · refine hm'.settled_measurement hc' h rfl hst fun k => ?_
      have htake : u.measure.takeMeasurement u.frontEnd.quality = u.measure.restTest := by
        unfold State.takeMeasurement
        rw [show u.measure.engine = u.engine from rfl, hc', h]
        rfl
      obtain ⟨p, hp, hstill⟩ := State.restTest_state (v := u.measure) h
      rw [htake, hp] at hst
      cases hst
      rw [hstill] at k
      cases k
  obtain ⟨st, h⟩ := settled
  rw [heng, hc] at h
  rw [hc]
  have htake : u.measure.takeMeasurement u.frontEnd.quality =
      match s.engine.state with
      | some (.starting .crank) => u.measure.crankMeasurement s.frontEnd.quality
      | some (.starting .catching) => u.measure.catchMeasurement
      | some (.starting .rest) => u.measure.restTest
      | some .rundown => if u.measure.frontEnd.reported < 20 then u.measure.endRundown else u.measure
      | _ => u.measure := by
    unfold State.takeMeasurement
    rw [show u.measure.engine = s.engine from heng, hc, hfe]
    rfl
  have hfr : (u.settle false u.measurementChange).frontEnd = u.measure.frontEnd := h.frame.frontEnd.trans hd.frame.frontEnd
  have htrips : (u.settle false u.measurementChange).monitor.trips = s.monitor.trips := by
    rw [h.trips, hd.trips, show u.measure.monitor = s.monitor from hmon]
  have harb' : (u.settle false u.measurementChange).arbiter = s.arbiter := h.arbiter.trans (hd.arbiter.trans harb)
  generalize u.settle false u.measurementChange = t at h hfr htrips harb' ⊢
  rw [htake] at h
  clear htake hd
  generalize u.measure = v at h hv hfr
  rw [hfr]
  refine ⟨htrips, harb', fun hst hgood => ?good, fun hst hw hbad => ?bad, fun hst hw hlost => ?lost,
    fun hst hw herr hpol => ?abandon, fun hst hw herr hpol r hr hfuel => ?recrank, fun hst h280 => ?warm,
    fun hst h60 h280 => ?hold, fun hst h60 hrun => ?below, fun hst h60 hrun r hr hfuel => ?stall,
    fun hst ht h20 => ?crank, fun hst ht => ?wait⟩
  all_goals simp only [hst] at h
  case good =>
    rw [State.crankMeasurement_good hgood, hv.sequencer] at h
    refine ⟨?_, fun hlow => ?_, fun hhigh hrun => ?_, fun hhigh hrun => ?_⟩
    · split at h
      · split at h
        · exact (h.catchEntered hv).2.2.2.1
        · rw [(h.run_counted hv).2]
      · rw [(h.run_counted hv).2]
    · rw [if_neg (by omega)] at h
      rw [(h.run_counted hv).1, (h.run_counted hv).2]
      exact ⟨rfl, rfl⟩
    · rw [if_pos hhigh, if_neg (by omega)] at h
      rw [(h.run_counted hv).1, (h.run_counted hv).2]
      exact ⟨rfl, rfl⟩
    · rw [if_pos hhigh, if_pos (by omega)] at h
      obtain ⟨h1, h2, h3, -, h5, h6, h7⟩ := h.catchEntered hv
      exact ⟨h1, h2, h3, h5, h6, h7⟩
  case bad =>
    rw [State.crankMeasurement_bad hw hbad] at h
    exact h.run_counted hv
  case lost =>
    rw [State.crankMeasurement_lost hw hlost] at h
    exact h.startFails hv.raisePeak rfl (by decide)
  case abandon =>
    rw [State.crankMeasurement_erratic hw herr, hv.settings, if_neg hpol] at h
    exact h.startFails hv.raisePeak rfl (by decide)
  case recrank =>
    rw [State.crankMeasurement_erratic hw herr, hv.settings, if_pos hpol] at h
    have hfail := h.attemptFailed hv.raisePeak hr hfuel
    rwa [hv.peak] at hfail
  case warm =>
    rw [State.catchMeasurement_eq, if_pos h280] at h
    exact h.warmEntered hv
  case hold =>
    rw [State.catchMeasurement_eq, if_neg (by omega), if_neg (by omega)] at h
    exact h.run_counted hv
  case below =>
    rw [State.catchMeasurement_eq, if_neg (by omega), if_pos h60, hv.sequencer, if_neg (by omega)] at h
    exact h.run_counted hv
  case stall =>
    rw [State.catchMeasurement_eq, if_neg (by omega), if_pos h60, hv.sequencer, if_pos (by omega)] at h
    have hfail := h.attemptFailed hv.raisePeak hr hfuel
    rwa [hv.peak] at hfail
  case crank =>
    have hw : v.restTest = v.enterCrank := if_pos ⟨hv.sequencer ▸ ht, h20⟩
    rw [hw] at h
    have hcrank := h.crankEntered
    rw [crankEntered, hv.engine, hv.sequencer, hv.settings] at hcrank
    exact hcrank
  case wait =>
    have hw : v.restTest = v := if_neg fun k => by
      rw [hv.sequencer] at k
      rcases ht with ht | ht
      · exact ht k.1
      · omega
    rw [hw] at h
    exact ⟨h.engine.trans hv.engine, h.sequencer.trans hv.sequencer⟩

end Sys2Proof.Machine
end

section
/-! The orders to the engine that begin no trip: STOP, ISOLATE and START (O18, O20, O22). -/

namespace Sys2Proof.Machine

section

variable {before w s t c : State} {st a : EngineState} {l : Link} {act : Sys2Proof.Action}

/-! ## An accepted order of one action -/

/-- The reply of an order of one action that is neither CLAIM nor READ is the plain acceptance; nothing else moves but the
commit. -/
theorem State.takeOrder_one_accepted (h : s.doAction l 0 act = .ok w) (hc : act.code ≠ 1) (hr : act.code ≠ 10) :
    s.takeOrder l [act] = (s.commit [act] w).answer l (acceptedBody (s.commit [act] w) 1) := by
  have hrun : State.runActions l 1 0 [] [act] s = .ok w := by rw [State.runActions_one, h]
  rw [State.takeOrder_accepted hrun, State.acceptBody_of_code _ l hc hr]
  rfl

/-- An order that begins no FULL start and writes no wake enable is committed by the close of its last view. -/
theorem State.commit_plain {as : List Sys2Proof.Action} (hf : as.any Action.startsFull = false)
    (hw : as.any Action.writesWake = false) (w : State) : s.commit as w = s.settle false w := by
  unfold State.commit
  rw [State.completed_of_no_start hf, hw]

theorem State.offers_chosen {as : List Sys2Proof.Action} (h : s.offers l as = true) :
    s.live = true ∧ s.engine.awaitingChoice = false := by
  have ho := ((s.offers_iff l as).mp h).1
  simpa [State.orderUnitOpen] using ho

theorem sameWorld_of_frame (h : Frame s t) : sameWorld s t := ⟨h.now, h.supply, h.resetSince, h.frontEnd, h.pending⟩

/-- Where the state entered arms no further channel, the list loses the channels it does not arm. -/
theorem Settled.listed_of_subset (h : Settled before w st t) (harmed : ∀ c : Channel, (w.channel c).armed = c.armedIn a)
    (hl : ∀ c : Channel, c ∈ w.monitor.conditions → (w.channel c).armed = true)
    (hsub : ∀ c : Channel, c.armedIn st = true → c.armedIn a = true) (d : Channel) :
    d ∈ t.monitor.conditions ↔ d ∈ w.monitor.conditions ∧ d.armedIn st = true := by
  have hover : w.armsOver st d = false := by
    unfold State.armsOver
    rw [harmed]
    cases h1 : d.armedIn st with
    | false => rfl
    | true =>
      rw [hsub d h1]
      rfl
  rw [h.listed, hover]
  simp only [Bool.false_eq_true, or_false]
  refine and_congr_right fun hd => or_iff_left ?_
  rw [hl d hd]
  decide

/-! ## STOP -/

theorem State.doStop_accepted (hh : s.holds l = true) (hr : s.stopRefusal = none) :
    s.doAction l 0 .stop = .ok s.stopEffect := by
  simp [State.doAction, State.doStop, hh, hr]

theorem State.doStop_refused {code : RefusalCode} (hh : s.holds l = true) (hr : s.stopRefusal = some code) :
    s.doAction l 0 .stop = .error code := by
  simp [State.doAction, State.doStop, hh, hr]

/-- The state that an accepted STOP enters from the state `a`. -/
def State.stoppedFrom (s : State) (a : EngineState) : EngineState :=
  match a with
  | .running => s.stopState
  | .isolated => s.stopState
  | .laidUp => .stopped
  | a => a

theorem State.stopEffect_state (ha : s.engine.state = some a) :
    s.stopEffect.engine.state = some (s.stoppedFrom a) := by
  unfold State.stopEffect
  rw [ha]
  cases a with
  | running | isolated => exact s.beginStop_state .normal
  | laidUp => rw [State.enter_engine]; rfl
  | starting p => exact ha
  | stopped | cooldown | rundown | tripped => exact ha

/-- RUNNING and ISOLATED arm every channel (R121). -/
theorem Channel.armedIn_running (c : Channel) : c.armedIn .running = true := by cases c <;> rfl

theorem Channel.armedIn_isolated (c : Channel) : c.armedIn .isolated = true := by cases c <;> rfl

/-- A STOP arms no channel, and moves of the contactors FUEL_RUN alone. -/
theorem State.stoppedFrom_arms (s : State) (a : EngineState) (d : Channel) (h : d.armedIn (s.stoppedFrom a) = true) :
    d.armedIn a = true := by
  cases a with
  | running => exact d.armedIn_running
  | isolated => exact d.armedIn_isolated
  | laidUp => exact h
  | starting p => exact h
  | stopped | cooldown | rundown | tripped => exact h

theorem State.stopEffect_stands (s : State) :
    s.stopEffect.sequencer = s.sequencer ∧ s.stopEffect.outputs.starter = s.outputs.starter ∧
      s.stopEffect.outputs.prelube = s.outputs.prelube := by
  unfold State.stopEffect
  split
  · simp
  · simp [State.beginStop_sequencer, State.beginStop_outputs]
  · simp [State.beginStop_sequencer, State.beginStop_outputs]
  · exact ⟨rfl, rfl, rfl⟩

theorem State.stopEffect_of_runs (h : s.runs = true) : s.stopEffect = s.beginStop .normal := by
  simp only [State.runs, Bool.or_eq_true, beq_iff_eq] at h
  unfold State.stopEffect
  rcases h with h | h <;> rw [h]

theorem State.stopEffect_of_stopping (h : s.engine.state = some .cooldown ∨ s.engine.state = some .rundown) :
    s.stopEffect = s.withStopKind (some .normal) := by
  unfold State.stopEffect
  rcases h with h | h <;> rw [h]

theorem State.runs_state (h : s.runs = true) : s.engine.state = some .running ∨ s.engine.state = some .isolated := by
  simpa [State.runs] using h

end

/-- Settles O20, by the state in which the STOP finds the engine. -/
theorem stopBeginsTheStop : Obligations.StopBeginsTheStop := by
  intro l s ho hh
  obtain ⟨hlive, hc⟩ := State.offers_chosen ho
  refine ⟨s.takeOrder l [.stop], exec_orderCommand_of_offers (a := .stop) ho, fun hst hm => ?accepted,
    fun ⟨p, hp⟩ => ?starting, fun hst => ?standing⟩
  case starting =>
    exact State.takeOrder_one_refused (State.doStop_refused hh (by unfold State.stopRefusal; rw [hp]))
  case standing =>
    refine State.takeOrder_one_refused (State.doStop_refused hh ?_)
    unfold State.stopRefusal
    rcases hst with h | h <;> rw [h]
  case accepted =>
    obtain ⟨a, ha, hno⟩ : ∃ a : EngineState, s.engine.state = some a ∧ s.stopRefusal = none := by
      unfold State.stopRefusal
      rcases hst with h | h | h | h
      · rcases State.runs_state h with h | h <;> exact ⟨_, h, by rw [h]⟩
      all_goals exact ⟨_, h, by rw [h]⟩
    rw [State.takeOrder_one_accepted (State.doStop_accepted hh hno) (by decide) (by decide),
      State.commit_plain (by decide) (by decide)]
    have hd : Driven s s.stopEffect := (Driven.refl s).stopEffect
    have h := hd.settled hm hc ha (State.stopEffect_state ha) fun k => .inl (s.stoppedFrom_arms a .overspeed k)
    have hfr : Frame s (s.settle false s.stopEffect) := hd.frame.trans h.frame
    obtain ⟨hseq, hstarter, hprelube⟩ := s.stopEffect_stands
    have hl := h.listed_of_subset (a := a) (fun c => by rw [hd.channel, hm.armed_eq hc ha])
      (fun c hcond => by rw [hd.channel]; exact hm.listed c (hd.conditions ▸ hcond)) (s.stoppedFrom_arms a)
    generalize s.settle false s.stopEffect = c at h hfr hl ⊢
    have hworld : sameWorld s c := sameWorld_of_frame hfr
    have hto : c.engine.state = some (s.stoppedFrom a) := by rw [h.engine, State.stopEffect_state ha]
    refine ⟨fun hr hcd => ⟨?_, ?_⟩, fun hr hcd => ⟨?_, ?_, ?_⟩, fun hk => ?_, fun hk => ?_, fun hk => ?_,
      fun d => ?_, h.trips.trans hd.trips, h.arbiter.trans hd.arbiter, h.sequencer.trans hseq, hfr.contents, hworld,
      h.contactors.1.trans hstarter, h.contactors.2.1.trans hprelube, answersOnly_answer_accepted l 1 hfr.ports⟩
    · refine h.engine.trans ?_
      rw [State.stopEffect_of_runs hr, State.beginStop_engine, if_pos hcd]
    · refine h.contactors.2.2.trans ?_
      rw [State.stopEffect_of_runs hr, State.beginStop_outputs, decide_eq_true hcd]
    · refine h.engine.trans ?_
      rw [State.stopEffect_of_runs hr, State.beginStop_engine, if_neg (by omega)]
    · refine h.contactors.2.2.trans ?_
      rw [State.stopEffect_of_runs hr, State.beginStop_outputs, decide_eq_false (by omega)]
    · have hstate : c.engine.state = some .rundown := by
        rw [h.engine, State.stopEffect_of_runs hr, State.beginStop_engine, if_neg (by omega)]
      refine (h.governor_of_ne ?_).trans (State.formedSpeed_of_no_notch ?_)
      · rw [← hto, hstate]
        rcases State.runs_state hr with k | k <;> rw [k] <;> decide
      · unfold State.speedNotch
        rw [hstate]
    · rw [State.stopEffect_of_stopping hk] at h
      exact ⟨h.engine, h.contactors.2.2⟩
    · have heff : s.stopEffect = (s.withLayupMark false).enter .stopped := by
        unfold State.stopEffect
        rw [hk]
      rw [heff] at h
      refine ⟨h.engine.trans (State.enter_engine _ _), h.contactors.2.2.trans ?_⟩
      rw [State.enter_outputs]
      rfl
    · rw [State.stopEffect_of_runs (by rw [State.runs, hk]; rfl)] at h
      obtain ⟨hg, ht, hr⟩ := State.beginStop_unloaded .normal hk
      exact h.unloaded hg ht hr
    · show d ∈ c.monitor.conditions ↔ d ∈ s.monitor.conditions ∧ armedFor c.engine.state d = true
      rw [hl d, hto, hd.conditions]
      rfl

/-! ## ISOLATE -/

section

variable {s t : State} {l : Link} {o : Byte} {on : Bool}

theorem State.doIsolate_accepted (hh : s.holds l = true) (ho : switchOf o = some on) :
    s.doAction l 0 (.isolate o) = .ok (s.isolateEffect on) := by
  simp [State.doAction, State.doIsolate, hh, ho]

/-- The state that isolation asks for, taken in RUNNING and ISOLATED alone (R41). -/
theorem State.isolateEffect_engine (s : State) (on : Bool) : (s.isolateEffect on).engine = { s.engine with
    isolateFlag := on
    state := if s.runs then some (if on || s.filtered .isolateSwitch then .isolated else .running)
      else s.engine.state } := by
  have hiso : ({ s with engine := { s.engine with isolateFlag := on } } : State).isolationInForce =
      (on || s.filtered .isolateSwitch) := rfl
  unfold State.isolateEffect State.judgeIsolation
  rw [hiso]
  generalize (on || s.filtered .isolateSwitch) = x
  dsimp only
  cases hr : s.runs with
  | true =>
    rcases State.runs_state hr with h | h <;> cases x <;> simp [h]
  | false =>
    simp only [State.runs, Bool.or_eq_false_iff, beq_eq_false_iff_ne] at hr
    rw [if_neg fun k => hr.1 k.1, if_neg fun k => hr.2 k.1]
    rfl

theorem State.isolateEffect_stands (s : State) (on : Bool) :
    (s.isolateEffect on).sequencer = s.sequencer ∧
      ((s.isolateEffect on).outputs = s.outputs ∨
        s.runs = true ∧ (s.isolateEffect on).outputs = { s.outputs with fuelRun := true }) := by
  unfold State.isolateEffect State.judgeIsolation
  split_ifs with h1 h2
  · refine ⟨State.enter_sequencer _ _, .inr ⟨?_, State.enter_outputs _ _⟩⟩
    unfold State.runs
    rw [show s.engine.state = _ from h1.1]
    rfl
  · refine ⟨State.enter_sequencer _ _, .inr ⟨?_, State.enter_outputs _ _⟩⟩
    unfold State.runs
    rw [show s.engine.state = _ from h2.1]
    rfl
  · exact ⟨rfl, .inl rfl⟩

theorem State.isolateEffect_unloaded (hs : s.engine.state = some .running)
    (hto : (s.isolateEffect on).engine.state = some .isolated) :
    (s.isolateEffect on).stepper.granted = 0 ∧ (s.isolateEffect on).stepper.loadTarget = 0 ∧
      (s.isolateEffect on).stepper.loadRef = 0 := by
  unfold State.isolateEffect State.judgeIsolation at hto ⊢
  split_ifs at hto ⊢ with h1 h2
  · exact State.enter_unloaded hs (by decide)
  · exact absurd (hs.symm.trans h2.1) (by decide)
  · exact absurd (hs.symm.trans hto) (by decide)

end

/-- Settles O22: RUNNING and ISOLATED arm the same channels, so the close leaves the Monitor, and both have FUEL_RUN on. -/
theorem isolateSetsTheFlag : Obligations.IsolateSetsTheFlag := by
  intro l o on s ho hh hon he hm
  obtain ⟨hlive, hc⟩ := State.offers_chosen ho
  refine ⟨s.takeOrder l [.isolate o], exec_orderCommand_of_offers (a := .isolate o) ho, ?_⟩
  rw [State.takeOrder_one_accepted (State.doIsolate_accepted hh hon) (show 7 ≠ 1 by decide) (show 7 ≠ 10 by decide),
    State.commit_plain (by rfl) (by rfl)]
  obtain ⟨a, ha⟩ := Option.ne_none_iff_exists'.mp (he.chosen hc)
  have hd : Driven s (s.isolateEffect on) := (Driven.refl s).isolateEffect on
  have heng := s.isolateEffect_engine on
  obtain ⟨st, hst⟩ := Option.ne_none_iff_exists'.mp (hd.chosen (he.chosen hc))
  have hmove : st = a ∨ (a = .running ∨ a = .isolated) ∧ (st = .running ∨ st = .isolated) := by
    rw [heng] at hst
    cases hr : s.runs with
    | false =>
      simp only [hr, Bool.false_eq_true, if_false] at hst
      exact .inl (Option.some.inj (hst.symm.trans ha))
    | true =>
      simp only [hr, if_true, Option.some.injEq] at hst
      refine .inr ⟨?_, ?_⟩
      · simpa [ha] using State.runs_state hr
      · rw [← hst]
        split
        · exact .inr rfl
        · exact .inl rfl
  have harms (c : Channel) : c.armedIn st = c.armedIn a := by
    rcases hmove with rfl | ⟨ha' | ha', hst' | hst'⟩
    · rfl
    all_goals subst ha' hst'; cases c <;> rfl
  have hfuel : st.fuel = a.fuel := by
    rcases hmove with rfl | ⟨ha' | ha', hst' | hst'⟩
    · rfl
    all_goals subst ha' hst'; rfl
  have h := hd.settled hm hc ha hst fun k => .inl ((harms .overspeed).symm.trans k)
  have hfr : Frame s (s.settle false (s.isolateEffect on)) := hd.frame.trans h.frame
  generalize s.settle false (s.isolateEffect on) = c at h hfr ⊢
  have hworld : sameWorld s c := sameWorld_of_frame hfr
  have hmon : sameMonitor s c := by
    have hsame := h.monitor (fun d => by rw [hd.channel, hm.armed_eq hc ha, harms]) hd.conditions
    rw [sameMonitor, hd.monitor] at hsame
    exact hsame
  obtain ⟨hseq, hout⟩ := s.isolateEffect_stands on
  have hcont : sameContactors s c := by
    obtain ⟨h1, h2, h3⟩ := h.contactors
    refine ⟨h1.trans ?_, h2.trans ?_, h3.trans ?_⟩
    · rcases hout with k | ⟨-, k⟩ <;> rw [k]
    · rcases hout with k | ⟨-, k⟩ <;> rw [k]
    · rcases hout with k | ⟨hr, k⟩
      · rw [k]
      · rw [k]
        rcases State.runs_state hr with hs | hs <;> exact (he.fuel _ hc hs).symm
  refine ⟨h.engine.trans heng, fun hrun hiso => ?_, h.arbiter.trans hd.arbiter, h.sequencer.trans hseq, hmon, hcont,
    hfr.contents, hworld, answersOnly_answer_accepted l 1 hfr.ports⟩
  have hto : (s.isolateEffect on).engine.state = some .isolated := h.engine ▸ hiso
  obtain ⟨hg, ht, hr⟩ := State.isolateEffect_unloaded hrun hto
  exact h.unloaded hg ht hr

end Sys2Proof.Machine
end

section
/-! START: the beginning of a FULL start, which a wake begins too, and of one in CRANK (O18). -/

namespace Sys2Proof.Machine

section

variable {s t : State} {who : Initiator} {l : Link} {m : Byte} {mode : StartMode}

theorem State.openStart_full (s : State) (who : Initiator) :
    (s.openStart who .full).engine = { s.engine with state := some (.starting .prelube), layupMark := false } ∧
      (s.openStart who .full).sequencer =
        { s.sequencer with record := some ⟨who, .full, .prelube, .inProgress, 0, []⟩ } ∧
      (s.openStart who .full).outputs = { s.outputs with starter := false, prelube := true, fuelRun := false } :=
  ⟨State.enterPhase_engine _ _, State.enterPhase_sequencer _ _, State.enterPhase_outputs _ _⟩

theorem State.openStart_skip (s : State) (who : Initiator) :
    (s.openStart who .skipPrelube).engine = { s.engine with state := some (.starting .crank), layupMark := false } ∧
      (s.openStart who .skipPrelube).sequencer = { s.sequencer with
        timer := some (s.now + s.settings.crankWindow * 1000)
        run := some 0
        peak := some s.frontEnd.reported
        record := some ⟨who, .skipPrelube, .crank, .inProgress, 1, []⟩ } ∧
      (s.openStart who .skipPrelube).outputs = { s.outputs with starter := true, prelube := true, fuelRun := true } := by
  obtain ⟨heng, hseq, hout⟩ := State.enterCrank_start ({ s.withLayupMark false with
    sequencer := { s.sequencer with record := some (StartRecord.begun who .skipPrelube .crank) } })
  exact ⟨heng, hseq, hout⟩

/-- The prelube check with pressure (R59 to R61). -/
theorem State.prelubeCheck_crank (h : 30 ≤ s.reading .lube) :
    s.prelubeCheck.engine = { s.engine with state := some (.starting .crank) } ∧
      s.prelubeCheck.sequencer = { s.sequencer with
        timer := some (s.now + s.settings.crankWindow * 1000)
        run := some 0
        peak := some s.frontEnd.reported
        creditEnd := some (s.now + 120000)
        record := s.sequencer.record.map fun r =>
          { r with attemptsBegun := r.attemptsBegun + 1, furthest := r.furthest.later .crank } } ∧
      s.prelubeCheck.outputs = { s.outputs with starter := true, prelube := true, fuelRun := true } := by
  rw [State.prelubeCheck_of_pressure h]
  exact State.enterCrank_start _

/-- The prelube check without pressure (R42, R59, R72). -/
theorem State.prelubeCheck_fails (h : s.reading .lube < 30) :
    s.prelubeCheck.engine = (if 20 ≤ s.frontEnd.reported ∨ s.outputs.fuelRun = true then
        { s.engine with
          state := some .rundown, stopKind := some .normal, cooldownEnd := none, rundownEnd := some (s.now + 60000) }
      else { s.engine with state := some .stopped }) ∧
      s.prelubeCheck.sequencer = { s.sequencer.idle with
        record := s.sequencer.record.map fun r => { r with outcome := .noPrelubePressure } } ∧
      s.prelubeCheck.outputs = { s.outputs with starter := false, prelube := false, fuelRun := false } := by
  have ho : StartOutcome.noPrelubePressure.fails = true := rfl
  rw [State.prelubeCheck_of_none h]
  refine ⟨State.endStart_engine ho, ?_, State.endStart_outputs ho⟩
  rw [State.endStart_sequencer ho, State.closeStart_sequencer, if_neg (by decide)]
  rfl

/-- A FULL start of a standing engine, its PRELUBE timed: PRELUBE for its time, or with none CRANK or the end for want of
pressure (R35, R57 to R61). -/
structure FullBegun (s : State) (who : Initiator) (w : State) : Prop where
  timed : 1 ≤ s.prelubeDuration →
    w.engine = { s.engine with state := some (.starting .prelube), layupMark := false } ∧
    w.sequencer = { s.sequencer with
      timer := some (s.now + s.prelubeDuration * 1000)
      record := some ⟨who, .full, .prelube, .inProgress, 0, []⟩ } ∧
    w.outputs = { s.outputs with starter := false, prelube := true, fuelRun := false }
  cranked : s.prelubeDuration = 0 → 30 ≤ s.reading .lube →
    w.engine = { s.engine with state := some (.starting .crank), layupMark := false } ∧
    w.sequencer = { s.sequencer with
      timer := some (s.now + s.settings.crankWindow * 1000)
      run := some 0
      peak := some s.frontEnd.reported
      creditEnd := some (s.now + 120000)
      record := some ⟨who, .full, .crank, .inProgress, 1, []⟩ } ∧
    w.outputs = { s.outputs with starter := true, prelube := true, fuelRun := true }
  unpressed : s.prelubeDuration = 0 → s.reading .lube < 30 →
    w.engine = { s.engine with state := some .stopped, layupMark := false } ∧
    w.sequencer = { s.sequencer.idle with record := some ⟨who, .full, .prelube, .noPrelubePressure, 0, []⟩ } ∧
    w.outputs = { s.outputs with starter := false, prelube := false, fuelRun := false }

theorem State.beginFull_begun (who : Initiator) (h20 : s.frontEnd.reported < 20) : FullBegun s who (s.beginFull who) := by
  obtain ⟨heng, hseq, hout⟩ := s.openStart_full who
  have hf := State.openStart_frame who .full (Frame.refl s)
  have hdur : (s.openStart who .full).prelubeDuration = s.prelubeDuration := by
    unfold State.prelubeDuration State.reading
    rw [hf.look, hf.frontEnd]
  have hread : (s.openStart who .full).reading .lube = s.reading .lube := State.reading_of_scan (by rw [hf.frontEnd]) _
  have hstate : (s.openStart who .full).engine.state = some (.starting .prelube) := by rw [heng]
  have hset : (s.openStart who .full).settings = s.settings := hf.contents.2.1
  have hrep : (s.openStart who .full).frontEnd.reported = s.frontEnd.reported := by rw [hf.frontEnd]
  have hnow := hf.now
  have hcases := (s.openStart who .full).timePrelube_cases
  unfold State.beginFull
  rw [hdur] at hcases
  generalize s.openStart who .full = v at *
  dsimp only at hcases
  rcases hcases with ⟨k, -⟩ | ⟨-, hd, hw⟩ | ⟨-, hd, hw⟩
  · exact absurd hstate k
  · rw [hw]
    refine ⟨fun _ => ⟨heng, ?_, hout⟩, fun k => absurd k (by omega), fun k => absurd k (by omega)⟩
    show ({ v.sequencer with timer := some (v.now + s.prelubeDuration * 1000) } : Sequencer) = _
    rw [hseq, hnow]
  · rw [hw]
    generalize hx : ({ v.lookedUp [prelubeLookup (coolantBand (v.reading .coolant))] with
      sequencer := { (v.lookedUp [prelubeLookup (coolantBand (v.reading .coolant))]).sequencer with
        timer := some (v.now + s.prelubeDuration * 1000) } } : State) = x
    have xeng : x.engine = v.engine := by rw [← hx]; rfl
    have xout : x.outputs = v.outputs := by rw [← hx]; rfl
    have xseq : x.sequencer = { v.sequencer with timer := some (v.now + s.prelubeDuration * 1000) } := by rw [← hx]; rfl
    have xrest : x.now = v.now ∧ x.settings = v.settings ∧ x.frontEnd = v.frontEnd := by
      rw [← hx]
      exact ⟨rfl, (State.lookedUp_frame _ (Frame.refl v)).contents.2.1, rfl⟩
    have hread : x.reading .lube = s.reading .lube := by
      rw [← hread]
      exact State.reading_of_scan (by rw [xrest.2.2]) _
    refine ⟨fun k => absurd k (by omega), fun _ hp => ?_, fun _ hp => ?_⟩
    · rw [← hread] at hp
      obtain ⟨keng, kseq, kout⟩ := State.prelubeCheck_crank (s := x) hp
      exact ⟨by rw [keng, xeng, heng], by rw [kseq, xseq, xrest.1, xrest.2.1, xrest.2.2, hseq, hnow, hset, hrep]; rfl,
        by rw [kout, xout, hout]⟩
    · rw [← hread] at hp
      obtain ⟨keng, kseq, kout⟩ := State.prelubeCheck_fails (s := x) hp
      have hstand : ¬ (20 ≤ x.frontEnd.reported ∨ x.outputs.fuelRun = true) := by
        rw [xrest.2.2, hrep, xout, hout]
        simpa using h20
      exact ⟨by rw [keng, if_neg hstand, xeng, heng], by rw [kseq, xseq, hseq]; rfl, by rw [kout, xout, hout]⟩

end

/-- Settles O18: the start is begun from a standing engine, whose phase is that of `FullBegun` or CRANK at once; the phases
entered arm no further channel, so the close leaves the Monitor. -/
theorem startEntersItsFirstPhase : Obligations.StartEntersItsFirstPhase := by
  intro l m mode s ho hmode hh hno hst harms hstep
  obtain ⟨hlive, hc⟩ := State.offers_chosen ho
  refine ⟨s.takeOrder l [.start m], exec_orderCommand_of_offers (a := .start m) ho, ?_⟩
  have hlock : s.sequencer.lockoutEnd = none := by
    by_contra hk
    rw [State.startRefusal_of_lockout (Option.isSome_iff_ne_none.mpr hk)] at hno
    cases hno
  have h20 : s.frontEnd.reported < 20 := by
    rw [State.startRefusal_of_standing hlock hst] at hno
    by_contra hk
    rw [if_pos (not_lt.mp hk)] at hno
    cases hno
  rw [State.takeOrder_one_accepted (State.doAction_start_accepted hmode hh hno) (show 4 ≠ 1 by decide)
    (show 4 ≠ 10 by decide)]
  generalize hw : (s.openStart (.source (sourceOf l)) mode).completed [.start m] = w
  have hcommit : s.commit [.start m] (s.openStart (.source (sourceOf l)) mode) = s.settle false w := by
    rw [← hw]
    rfl
  have hd : Driven s w := by
    rw [← hw]
    exact ((Driven.refl s).openStart _ mode).completed _
  have hfull (k : mode = .full) : FullBegun s (.source (sourceOf l)) w := by
    rw [← hw, k, State.completed, if_pos (by simp [Action.startsFull, hmode, k])]
    exact State.beginFull_begun _ h20
  have hskip (k : mode = .skipPrelube) : w = s.openStart (.source (sourceOf l)) .skipPrelube := by
    rw [← hw, k, State.completed, if_neg (by simp [Action.startsFull, hmode, k])]
  rw [hcommit]
  clear hcommit hw
  obtain ⟨a, ha, hstand⟩ : ∃ a : EngineState, s.engine.state = some a ∧ (a = .stopped ∨ a = .laidUp) := by
    rcases hst with h | h <;> exact ⟨_, h, by simp⟩
  have hto : ∃ st : EngineState, w.engine.state = some st ∧
      (st = .starting .prelube ∨ st = .starting .crank ∨ st = .stopped) ∧
      w.engine = { s.engine with state := some st, layupMark := false } ∧ w.sequencer.lockoutEnd = none := by
    cases mode with
    | skipPrelube =>
      obtain ⟨heng, hseq, -⟩ := s.openStart_skip (.source (sourceOf l))
      rw [hskip rfl]
      exact ⟨_, by rw [heng], by simp, heng, by rw [hseq]; exact hlock⟩
    | full =>
      have hb := hfull rfl
      rcases Nat.eq_zero_or_pos s.prelubeDuration with hz | hp
      · rcases lt_or_ge (s.reading .lube) 30 with hlt | hge
        · obtain ⟨heng, hseq, -⟩ := hb.unpressed hz hlt
          exact ⟨_, by rw [heng], by simp, heng, by rw [hseq]; exact hlock⟩
        · obtain ⟨heng, hseq, -⟩ := hb.cranked hz hge
          exact ⟨_, by rw [heng], by simp, heng, by rw [hseq]; exact hlock⟩
      · obtain ⟨heng, hseq, -⟩ := hb.timed hp
        exact ⟨_, by rw [heng], by simp, heng, by rw [hseq]; exact hlock⟩
  obtain ⟨st, hwst, hkind, heng, hwlock⟩ := hto
  have harmed (c : Channel) : (w.channel c).armed = c.armedIn st := by
    rw [hd.channel, harms c, ha]
    show c.armedIn a = c.armedIn st
    rcases hstand with rfl | rfl <;> rcases hkind with rfl | rfl | rfl <;> cases c <;> rfl
  have h : Settled s w st (s.settle false w) :=
    State.settled_of_quiet s false hwst (by rw [hd.awaiting, hc]) (State.quietArming_of harmed fun k => .inl k)
      (.inr ⟨rfl, (State.presented_of_arbiter hd.arbiter).symm⟩)
  have hfr : Frame s (s.settle false w) := hd.frame.trans h.frame
  generalize s.settle false w = c at h hfr ⊢
  have hworld : sameWorld s c := sameWorld_of_frame hfr
  have hmon : sameMonitor s c := by
    have hsame := h.monitor harmed hd.conditions
    rw [sameMonitor, hd.monitor] at hsame
    exact hsame
  have hcrank (k : c.engine.state = some (.starting .crank)) : c.outputs.governor = s.store.scheduledSpeed 0 := by
    rw [h.governor_of_ne (by rw [ha, ← hwst, ← h.engine, k]; rcases hstand with rfl | rfl <;> decide)]
    unfold State.formedSpeed State.speedNotch
    rw [k]
    exact hfr.looks.scheduledSpeed 0
  have hquiet (k : c.speedNotch = none) : c.outputs.governor = 0 := by
    rcases h.governor with hg | ⟨hsame, hg⟩
    · rw [hg, State.formedSpeed_of_no_notch k]
    · rw [hg, hd.unloads.speedRef, hstep.speed hc]
      refine State.formedSpeed_of_no_notch ?_
      unfold State.speedNotch
      rcases hst with h | h <;> rw [h]
  refine ⟨h.arbiter.trans hd.arbiter, hworld, hfr.contents, hmon, answersOnly_answer_accepted l 1 hfr.ports, ?_, ?_,
    fun k hp => ?timed, fun k => ?skip, fun k hz hp => ?cranked, fun k hz hp => ?unpressed⟩
  · show c.engine = { s.engine with state := c.engine.state, layupMark := false }
    rw [h.engine, heng]
  · show c.sequencer.lockoutEnd = none
    rw [h.sequencer, hwlock]
  case timed =>
    obtain ⟨keng, kseq, kout⟩ := (hfull k).timed hp
    have hstate : c.engine.state = some (.starting .prelube) := by rw [h.engine, keng]
    refine ⟨hstate, (congrArg Sequencer.timer h.sequencer).trans (by rw [kseq]),
      (congrArg Sequencer.record h.sequencer).trans (by rw [kseq]), h.contactors.1.trans (by rw [kout]),
      h.contactors.2.1.trans (by rw [kout]), h.contactors.2.2.trans (by rw [kout]), hquiet ?_⟩
    unfold State.speedNotch
    rw [hstate]
  case skip =>
    obtain ⟨keng, kseq, kout⟩ := s.openStart_skip (.source (sourceOf l))
    rw [← hskip k] at keng kseq kout
    have hstate : c.engine.state = some (.starting .crank) := by rw [h.engine, keng]
    exact ⟨hstate, (congrArg Sequencer.timer h.sequencer).trans (by rw [kseq]),
      (congrArg Sequencer.run h.sequencer).trans (by rw [kseq]), (congrArg Sequencer.peak h.sequencer).trans (by rw [kseq]),
      (congrArg Sequencer.record h.sequencer).trans (by rw [kseq]), h.contactors.1.trans (by rw [kout]),
      h.contactors.2.1.trans (by rw [kout]), h.contactors.2.2.trans (by rw [kout]), hcrank hstate⟩
  case cranked =>
    obtain ⟨keng, kseq, kout⟩ := (hfull k).cranked hz hp
    have hstate : c.engine.state = some (.starting .crank) := by rw [h.engine, keng]
    exact ⟨hstate, (congrArg Sequencer.timer h.sequencer).trans (by rw [kseq]),
      (congrArg Sequencer.run h.sequencer).trans (by rw [kseq]), (congrArg Sequencer.peak h.sequencer).trans (by rw [kseq]),
      (congrArg Sequencer.creditEnd h.sequencer).trans (by rw [kseq]),
      (congrArg Sequencer.record h.sequencer).trans (by rw [kseq]), h.contactors.1.trans (by rw [kout]),
      h.contactors.2.1.trans (by rw [kout]), h.contactors.2.2.trans (by rw [kout]), hcrank hstate⟩
  case unpressed =>
    obtain ⟨keng, kseq, kout⟩ := (hfull k).unpressed hz hp
    have hstate : c.engine.state = some .stopped := by rw [h.engine, keng]
    refine ⟨hstate, (congrArg Sequencer.timer h.sequencer).trans (by rw [kseq]; rfl),
      (congrArg Sequencer.record h.sequencer).trans (by rw [kseq]), h.contactors.1.trans (by rw [kout]),
      h.contactors.2.1.trans (by rw [kout]), h.contactors.2.2.trans (by rw [kout]), hquiet ?_⟩
    unfold State.speedNotch
    rw [hstate]

end Sys2Proof.Machine
end

section
/-! A first trip: what its deliveries leave, and the close of the event that brings it. -/

namespace Sys2Proof.Machine

section

variable {before x v s t : State} {st : EngineState} {cs : List Channel} {c : Channel}

/-! ## The two deliveries -/

theorem State.startRuns_iff : s.startRuns = true ↔ ∃ p : Phase, s.engine.state = some (.starting p) := by
  unfold State.startRuns
  cases s.engine.state with
  | none => simp
  | some st => cases st <;> simp [EngineState.isStarting]

/-- The engine's part of a trip, out of another state than TRIPPED (R48, R74). -/
theorem State.engineTrip_spec (hne : v.engine.state ≠ some .tripped) :
    v.engineTrip.engine = { v.engine with
      state := some .tripped, stopKind := none, layupMark := false, cooldownEnd := none, rundownEnd := none } ∧
    v.engineTrip.sequencer.record =
      (if v.startRuns then v.sequencer.record.map (fun r => { r with outcome := .tripped }) else v.sequencer.record) ∧
    v.engineTrip.outputs = { v.outputs with
      fuelRun := false
      starter := if v.startRuns then false else v.outputs.starter
      prelube := if v.startRuns then false else v.outputs.prelube } := by
  cases hr : v.startRuns with
  | true =>
    obtain ⟨p, hp⟩ := State.startRuns_iff.mp hr
    have htrip : v.engineTrip =
        ((((v.dropTimers).withStopKind none).withLayupMark false).enter .tripped).closeStart .tripped := by
      unfold State.engineTrip
      rw [hp]
      rfl
    rw [htrip, State.closeStart_engine, State.closeStart_sequencer, State.closeStart_outputs, State.enter_engine,
      State.enter_sequencer, State.enter_outputs]
    exact ⟨rfl, rfl, rfl⟩
  | false =>
    have hno : ∀ p : Phase, v.engine.state ≠ some (.starting p) := fun p hp => by
      rw [State.startRuns_iff.mpr ⟨p, hp⟩] at hr
      cases hr
    have htrip : v.engineTrip = (((v.dropTimers).withStopKind none).withLayupMark false).enter .tripped := by
      unfold State.engineTrip
      split
      · exact absurd ‹_› hne
      · exact absurd ‹_› (hno _)
      · rfl
    rw [htrip, State.enter_engine, State.enter_sequencer, State.enter_outputs]
    exact ⟨rfl, rfl, rfl⟩

theorem State.engineTrip_unloaded (hs : v.engine.state = some .running) : v.engineTrip.stepper.granted = 0 ∧
    v.engineTrip.stepper.loadTarget = 0 ∧ v.engineTrip.stepper.loadRef = 0 := by
  have htrip : v.engineTrip = (((v.dropTimers).withStopKind none).withLayupMark false).enter .tripped := by
    unfold State.engineTrip
    rw [hs]
  rw [htrip]
  exact State.enter_unloaded hs (by decide)

/-- PROTECTION above the stack, the previous holder set aside (R10, R24). -/
theorem State.protectionClaim_arbiter (h : s.entry .protection = Entry.reset) : s.protectionClaim.arbiter = ⟨
    (match s.holder with
      | none => s.arbiter.table
      | some x => s.arbiter.table.set x { s.entry x with place := .suspended, mtch := none, held := none }).set
        .protection ⟨.holding, 0, some .matched, none, .forbid⟩,
    .protection :: s.arbiter.stack, s.arbiter.waiting⟩ := by
  unfold State.protectionClaim
  rw [if_neg (by rw [h]; decide), h]
  unfold State.pushSource State.setTopAside
  have hholder : (s.withEntry .protection { Entry.reset with request := 0, permission := .forbid }).holder = s.holder := rfl
  rw [hholder]
  cases hh : s.holder with
  | none => rfl
  | some y => cases y <;> rfl

/-! ## The close over a delivered trip -/

/-- A trip by the re-arming of an event: the deliveries, the channels re-armed for TRIPPED, and the close. -/
theorem State.settle_of_armingTrip (before : State) (judged : Bool) (hst : s.engine.state = some st)
    (hc : s.engine.awaitingChoice = false) (hn : s.monitor.trips = []) (hne : (s.rearmAll st).monitor.trips ≠ []) :
    before.settle judged s = before.close ((s.rearmAll st).deliverTrip.rearmAll .tripped) := by
  rcases State.rearm_cases hst hc with ⟨hq, -⟩ | ⟨-, -, hr⟩
  · rcases hq with k | k
    · exact absurd hn k
    · exact absurd k hne
  · obtain ⟨hmon, hto, haw⟩ := (s.rearmAll st).deliverTrip_stands
    have hc' : (s.rearmAll st).deliverTrip.engine.awaitingChoice = false := by
      rw [haw, (s.rearmAll_only st).engine, hc]
    rw [State.rearmOnce_of_chosen hto hc', State.withTrip_quiet _ _ (.inl (by rw [hmon]; exact hne))] at hr
    have hm := (s.rearmAll st).deliverTrip.rearmAll_only .tripped
    have hto' : ((s.rearmAll st).deliverTrip.rearmAll .tripped).engine.state = some .tripped := by rw [hm.engine, hto]
    rw [State.settle_eq_close]
    congr 1
    unfold State.rearmed
    rw [hr]
    split
    · rw [State.judgeWake_of_not_laidUp (by rw [hto']; decide)]
      exact State.rearm_of_armsAgree _ (State.armsAgree_of hto' (State.rearmAll_armed _ _))
    · rfl

/-- The close of an event in which a trip was delivered: the channels re-armed for TRIPPED, no further trip. -/
theorem State.settle_of_delivered (before : State) (judged : Bool) (hst : s.engine.state = some .tripped)
    (hc : s.engine.awaitingChoice = false) (hn : s.monitor.trips ≠ []) :
    before.settle judged s = before.close (s.rearmAll .tripped) := by
  have hm := s.rearmAll_only .tripped
  have hst' : (s.rearmAll .tripped).engine.state = some .tripped := by rw [hm.engine, hst]
  have hr : s.rearm = s.rearmAll .tripped := by
    rcases State.rearm_cases hst hc with ⟨-, hr⟩ | ⟨k, -⟩
    · exact hr
    · exact absurd k hn
  rw [State.settle_eq_close]
  congr 1
  unfold State.rearmed
  rw [hr]
  split
  · rw [State.judgeWake_of_not_laidUp (by rw [hst']; decide)]
    exact State.rearm_of_armsAgree _ (State.armsAgree_of hst' (State.rearmAll_armed _ _))
  · rfl

/-- The onset of a first trip, before its deliveries: the Trip List holds the channels `cs` with the state of `x`, and the
engine, the start and the Arbiter are those of `x`. -/
structure TripBegun (x v : State) (cs : List Channel) : Prop where
  engine : v.engine = x.engine
  record : v.sequencer.record = x.sequencer.record
  arbiter : v.arbiter = x.arbiter
  chosen : x.engine.awaitingChoice = false
  untripped : x.engine.state ≠ some .tripped
  protection : x.entry .protection = Entry.reset
  trips : v.monitor.trips = cs.map fun c => ⟨c, x.engine.state⟩
  begun : cs ≠ []
  armed : ∃ a : EngineState, ∀ c : Channel, (v.channel c).armed = c.armedIn a
  listed : ∀ c : Channel, c ∈ v.monitor.conditions → (v.channel c).armed = true

/-- What the close leaves of a trip whose onset the event `before` began (R24, R48, R127). -/
theorem TripBegun.taken (h : TripBegun x v cs)
    (hb : before.engine.state ≠ some .tripped ∨ before.engine.awaitingChoice = true) :
    TripsTaken x (before.close (v.deliverTrip.rearmAll .tripped)) cs ∧
      (before.close (v.deliverTrip.rearmAll .tripped)).holder = some .protection ∧
      (before.close (v.deliverTrip.rearmAll .tripped)).authorityNotch = 0 ∧
      (before.close (v.deliverTrip.rearmAll .tripped)).outputs.starter =
        (if x.startRuns then false else v.outputs.starter) ∧
      (before.close (v.deliverTrip.rearmAll .tripped)).outputs.prelube =
        (if x.startRuns then false else v.outputs.prelube) := by
  have hstate : v.engine.state ≠ some .tripped := by rw [h.engine]; exact h.untripped
  obtain ⟨heng, hrec, hout⟩ := State.engineTrip_spec hstate
  have hruns : v.startRuns = x.startRuns := by unfold State.startRuns; rw [h.engine]
  rw [hruns] at hrec hout
  have ho := v.engineTrip.protectionClaim_only
  have hd := State.engineTrip_drive v
  obtain ⟨hmon, hto, haw⟩ := v.deliverTrip_stands
  have hm := v.deliverTrip.rearmAll_only .tripped
  have hentry : v.engineTrip.entry .protection = Entry.reset := by
    rw [hd.entry]
    unfold State.entry
    rw [h.arbiter]
    exact h.protection
  have harb : (before.close (v.deliverTrip.rearmAll .tripped)).arbiter = ⟨
      (match x.holder with
        | none => x.arbiter.table
        | some y => x.arbiter.table.set y { x.entry y with place := .suspended, mtch := none, held := none }).set
          .protection ⟨.holding, 0, some .matched, none, .forbid⟩,
      .protection :: x.arbiter.stack, x.arbiter.waiting⟩ := by
    have hx : v.engineTrip.arbiter = x.arbiter := hd.arbiter.trans h.arbiter
    have hholder : v.engineTrip.holder = x.holder := State.holder_of_arbiter hx
    have hent (y : Source) : v.engineTrip.entry y = x.entry y := by unfold State.entry; rw [hx]
    rw [State.close_arbiter, hm.arbiter, State.deliverTrip, State.protectionClaim_arbiter hentry, hholder, hx]
    simp only [hent]
  have hholder : (before.close (v.deliverTrip.rearmAll .tripped)).holder = some .protection := by
    unfold State.holder
    rw [harb]
    rfl
  have hcnew : (v.deliverTrip.rearmAll .tripped).engine.awaitingChoice = false := by
    rw [hm.engine, haw, h.engine, h.chosen]
  have hstnew : (before.close (v.deliverTrip.rearmAll .tripped)).engine.state = some .tripped := by
    rw [State.close_engine, hm.engine, hto]
  have hnone : v.monitor.trips ≠ [] := by
    rw [h.trips]
    simpa using h.begun
  have htrips : (before.close (v.deliverTrip.rearmAll .tripped)).monitor.trips = v.monitor.trips := by
    obtain ⟨a, ha⟩ := h.armed
    have hch (d : Channel) : (v.deliverTrip.channel d).armed = d.armedIn a := by
      rw [← ha d]
      unfold State.channel
      rw [hmon]
    have hquiet : v.deliverTrip.quietArming .tripped := State.quietArming_of hch fun k => by cases k
    rw [State.close_trips, hquiet.trips, hmon]
  obtain ⟨hg, hl, hexc, hgov⟩ := State.close_stepper (s := v.deliverTrip.rearmAll .tripped) before hcnew
  have hstep : (v.deliverTrip.rearmAll .tripped).stepper = v.engineTrip.stepper := by
    rw [hm.stepper, State.deliverTrip, ho.stepper]
  have houts : (v.deliverTrip.rearmAll .tripped).outputs = v.engineTrip.outputs := by
    rw [hm.outputs, State.deliverTrip, ho.outputs]
  have hstarter : (before.close (v.deliverTrip.rearmAll .tripped)).outputs.starter =
      (if x.startRuns then false else v.outputs.starter) := by rw [State.close_starter, houts, hout]
  have hprelube : (before.close (v.deliverTrip.rearmAll .tripped)).outputs.prelube =
      (if x.startRuns then false else v.outputs.prelube) := by rw [State.close_prelube, houts, hout]
  refine ⟨?_, hholder, by unfold State.authorityNotch; rw [hholder], hstarter, hprelube⟩
  refine
    { engine := by rw [State.close_engine, hm.engine, State.deliverTrip, ho.engine, heng, h.engine]
      trips := by rw [htrips, h.trips]
      listed := fun d hd => ?_
      fuel := by rw [State.close_fuelRun, houts, hout]
      alert := ?_
      governor := ?_
      start := by rw [State.close_sequencer, hm.sequencer, State.deliverTrip, ho.sequencer, hrec, h.record]
      contactors := fun hr => ⟨by rw [hstarter, if_pos hr], by rw [hprelube, if_pos hr]⟩
      unloaded := fun hr => ?_
      arbiter := harb }
  · rw [State.close_conditions, mem_inChannelOrder, State.mem_rearmAll, hmon] at hd
    have hch : v.deliverTrip.channel d = v.channel d := by unfold State.channel; rw [hmon]
    rw [hch] at hd
    rcases hd with ⟨hd, ha | ha⟩ | hd
    · exact ha
    · rw [h.listed d hd] at ha
      cases ha
    · simp only [State.armsOver, Bool.and_eq_true] at hd
      exact hd.1.1.1
  · rw [State.close_alert]
    unfold State.alertLevel
    rw [htrips]
    cases hv : v.monitor.trips with
    | nil => exact absurd hv hnone
    | cons a l => simp
  · have hzero : (before.close (v.deliverTrip.rearmAll .tripped)).formedSpeed = 0 :=
      State.formedSpeed_of_no_notch (by unfold State.speedNotch; rw [hstnew])
    rcases hgov with k | ⟨k1, k2, -⟩
    · rw [k, hzero]
    · rw [hm.engine, hto] at k1
      rw [hcnew] at k2
      rcases hb with hb | hb
      · exact absurd k1 hb
      · rw [hb] at k2
        cases k2
  · obtain ⟨kg, kt, kr⟩ := State.engineTrip_unloaded (v := v) (by rw [h.engine]; exact hr)
    rw [← hstep] at kg kt kr
    have hg' : (before.close (v.deliverTrip.rearmAll .tripped)).stepper.granted = 0 := by rw [hg, kg, Nat.zero_min]
    have hr' := ((hl (.of_zero kt kr)).unloaded hg').2
    exact ⟨hg', hr', hexc.trans hr'⟩

end

end Sys2Proof.Machine
end

section
/-! A trip by a discrete input: its onset at a change of level, and its arming over an active input (O21, O41). -/

namespace Sys2Proof.Machine

section

variable {before x u v w s t : State} {st a : EngineState} {cs : List Channel} {c : Channel} {l : Link} {i : Input} {e : Nat}

/-- The reply of an order moves nothing of a trip. -/
theorem TripsTaken.answer (h : TripsTaken s t cs) (l : Link) (body : List Byte) : TripsTaken s (t.answer l body) cs :=
  ⟨h.engine, h.trips, h.listed, h.fuel, h.alert, h.governor, h.start, h.contactors, h.unloaded, h.arbiter⟩

/-! ## Trips at arming -/

theorem State.unlisted_of_unarmed (hl : ∀ c : Channel, c ∈ s.monitor.conditions → (s.channel c).armed = true)
    (h : (s.channel c).armed = false) : s.active c = false := by
  rw [State.active, ← Bool.not_eq_true, List.contains_iff_mem]
  intro k
  rw [hl c k] at h
  cases h

/-- Of the TRIP channels the three discrete ones can have their onset in a re-arming (R118, R122). -/
theorem State.armingTrips_eq (hl : ∀ c : Channel, c ∈ s.monitor.conditions → (s.channel c).armed = true) :
    s.armingTrips st Channel.order = [Channel.crankcase, .fuelCutoff, .coolantLevel].filter fun c =>
      c.armedIn st && !(s.channel c).armed && s.onsetAtArming c && !s.tripListed c := by
  have hover (c : Channel) : s.armsOver st c = (c.armedIn st && !(s.channel c).armed && s.onsetAtArming c) := by
    unfold State.armsOver
    cases ha : (s.channel c).armed with
    | true => simp
    | false => rw [State.unlisted_of_unarmed hl ha]; simp
  have hthreshold : s.onsetAtArming .overspeed = false ∧ s.onsetAtArming .lubeLow = false := ⟨rfl, rfl⟩
  have hcls : ∀ c ∈ [Channel.coolantHot1, .coolantHot2, .intakeHot, .groundFault, .speedSignal, .fuelPressureLow,
      .scheduleFault, .batteryLow], (decide (c.cls = .trip)) = false := by decide
  simp only [List.forall_mem_cons, List.not_mem_nil, false_implies, implies_true, and_true] at hcls
  obtain ⟨h1, h2, h3, h4, h5, h6, h7, h8⟩ := hcls
  have htrip : decide (Channel.crankcase.cls = .trip) = true ∧ decide (Channel.fuelCutoff.cls = .trip) = true ∧
      decide (Channel.coolantLevel.cls = .trip) = true := by decide
  obtain ⟨k1, k2, k3⟩ := htrip
  simp only [State.armingTrips, Channel.order, List.filter_cons, List.filter_nil, hover, hthreshold.1, hthreshold.2,
    h1, h2, h3, h4, h5, h6, h7, h8, k1, k2, k3, Bool.and_false, Bool.false_and, Bool.and_true, Bool.false_eq_true,
    if_false]

/-- CRANKCASE armed over its active input is a trip by that channel alone (R121, R122, R127). -/
theorem State.armingTrips_crankcase (ha : ∀ c : Channel, (s.channel c).armed = c.armedIn a)
    (hl : ∀ c : Channel, c ∈ s.monitor.conditions → (s.channel c).armed = true) (hn : s.monitor.trips = [])
    (hidle : a.turnsUnderPower = false) (hturn : st.turnsUnderPower = true) (hf : s.filtered .crankcaseSwitch = true) :
    s.armingTrips st Channel.order = [.crankcase] := by
  have hcrank : (Channel.crankcase.armedIn st && !Channel.crankcase.armedIn a && s.onsetAtArming .crankcase &&
      !s.tripListed .crankcase) = true := by
    have ht : s.tripListed .crankcase = false := by unfold State.tripListed; rw [hn]; rfl
    rw [ht, show Channel.crankcase.armedIn st = _ from hturn, show Channel.crankcase.armedIn a = _ from hidle,
      show s.onsetAtArming .crankcase = _ from hf]
    rfl
  have hrest : Channel.fuelCutoff.armedIn a = true ∧ Channel.coolantLevel.armedIn a = true := ⟨rfl, rfl⟩
  rw [State.armingTrips_eq hl]
  simp only [List.filter_cons, List.filter_nil, ha, hcrank, hrest.1, hrest.2, Bool.not_true, Bool.and_false,
    Bool.false_and, Bool.false_eq_true, if_false, if_true]

/-- The trip of an event that moves the engine into a state that arms CRANKCASE over its active input. -/
theorem Driven.crankcaseTrips (before : State) (hd : Driven v w) (hv : Watched v) (hc : v.engine.awaitingChoice = false)
    (harmed : ∀ c : Channel, (v.channel c).armed = c.armedIn a) (hidle : a.turnsUnderPower = false)
    (hst : w.engine.state = some st) (hturn : st.turnsUnderPower = true) (hf : v.filtered .crankcaseSwitch = true)
    (hn : v.monitor.trips = []) (hp : v.entry .protection = Entry.reset) (hb : before.engine.state ≠ some .tripped)
    (heng : x.engine = w.engine) (hrec : x.sequencer.record = w.sequencer.record) (harb : x.arbiter = v.arbiter) :
    TripTaken x (before.settle false w) .crankcase ∧ (before.settle false w).holder = some .protection ∧
      (before.settle false w).authorityNotch = 0 ∧
      (before.settle false w).outputs.starter = (if x.startRuns then false else w.outputs.starter) ∧
      (before.settle false w).outputs.prelube = (if x.startRuns then false else w.outputs.prelube) ∧
      Frame w (before.settle false w) := by
  have hcw : w.engine.awaitingChoice = false := by rw [hd.awaiting, hc]
  have hww := hv.of_driven hd
  have hm := w.rearmAll_only st
  have hnw : w.monitor.trips = [] := by rw [hd.trips, hn]
  have hfw : w.filtered .crankcaseSwitch = true := by
    unfold State.filtered
    rw [hd.frame.frontEnd]
    exact hf
  have htrips : (w.rearmAll st).monitor.trips = [⟨.crankcase, some st⟩] := by
    rw [State.rearmAll_trips, hnw, State.armingTrips_crankcase (a := a) (fun c => by rw [hd.channel, harmed])
      hww.listed.armed hnw hidle hturn hfw, hst]
    rfl
  have hbegun : TripBegun x (w.rearmAll st) [.crankcase] :=
    { engine := by rw [hm.engine, heng]
      record := by rw [hm.sequencer, hrec]
      arbiter := by rw [hm.arbiter, hd.arbiter, harb]
      chosen := by rw [heng, hcw]
      untripped := by
        rw [heng, hst]
        rintro ⟨⟩
        cases hturn
      protection := by
        unfold State.entry
        rw [harb]
        exact hp
      trips := by rw [htrips, heng, hst]; rfl
      begun := by simp
      listed := fun d hmem => (hww.rearmAll hst hcw).1.listed.armed d hmem
      armed := ⟨st, w.rearmAll_armed st⟩ }
  have hsettle := State.settle_of_armingTrip before false hst hcw hnw (by rw [htrips]; simp)
  obtain ⟨htaken, hholder, hnotch, hstarter, hprelube⟩ := hbegun.taken (before := before) (.inl hb)
  rw [← hsettle] at htaken hholder hnotch hstarter hprelube
  rw [hm.outputs] at hstarter hprelube
  exact ⟨htaken, hholder, hnotch, hstarter, hprelube, State.settle_frame before false (Frame.refl w)⟩

/-! ## CANCEL -/

theorem State.doCancel_starting (hh : s.holds l = true) (h : s.startRuns = true) :
    s.doAction l 0 .cancel = .ok (s.endStart .cancelled) := by
  obtain ⟨p, hp⟩ := State.startRuns_iff.mp h
  simp [State.doAction, State.doCancel, hh, hp]

theorem State.doCancel_cooldown (hh : s.holds l = true) (h : s.engine.state = some .cooldown) :
    s.doAction l 0 .cancel = .ok s.cancelCooldown := by
  simp [State.doAction, State.doCancel, hh, h]

theorem State.doCancel_rundown (hh : s.holds l = true) (h : s.engine.state = some .rundown) :
    s.doAction l 0 .cancel = .error .tooLate := by
  simp [State.doAction, State.doCancel, hh, h]

theorem State.doCancel_nothing (hh : s.holds l = true)
    (h : s.engine.state = some .stopped ∨ s.runs = true ∨ s.engine.state = some .laidUp ∨ s.engine.state = some .tripped) :
    s.doAction l 0 .cancel = .error .nothingToCancel := by
  have hst : s.engine.state = some .stopped ∨ s.engine.state = some .running ∨ s.engine.state = some .isolated ∨
      s.engine.state = some .laidUp ∨ s.engine.state = some .tripped := by
    rcases h with h | h | h | h
    · simp [h]
    · rcases State.runs_state h with h | h <;> simp [h]
    · simp [h]
    · simp [h]
  rcases hst with h | h | h | h | h <;> simp [State.doAction, State.doCancel, hh, h]

theorem SameStart.refl (s : State) : SameStart s s := ⟨rfl, rfl, rfl, rfl⟩

end

/-- Settles O21: a start cancelled, a cool-down cancelled, the refusals, and the trip by the RUNDOWN that a cancelled start
enters over an active CRANKCASE_SWITCH. -/
theorem cancelEndsStartOrCooldown : Obligations.CancelEndsStartOrCooldown := by
  intro l s ho hh
  obtain ⟨hlive, hc⟩ := State.offers_chosen ho
  have accepted {w : State} (h : s.doAction l 0 .cancel = .ok w) :
      s.takeOrder l [.cancel] = (s.settle false w).answer l (acceptedBody (s.settle false w) 1) := by
    rw [State.takeOrder_one_accepted h (by decide) (by decide), State.commit_plain (by decide) (by decide)]
  refine ⟨s.takeOrder l [.cancel], exec_orderCommand_of_offers (a := .cancel) ho, fun hst hm => ?accepted,
    fun hst => State.takeOrder_one_refused (State.doCancel_rundown hh hst),
    fun hst => State.takeOrder_one_refused (State.doCancel_nothing hh hst), fun hst hcrank hturns hm hn hp => ?trips⟩
  case accepted =>
    rcases hst with hst | ⟨hst, hcrank⟩
    · have hno : s.startRuns = false := by unfold State.startRuns; rw [hst]; rfl
      rw [accepted (State.doCancel_cooldown hh hst)]
      have hd : Driven s s.cancelCooldown := (Driven.refl s).cancelCooldown
      obtain ⟨st, -, h⟩ := hd.settledAny s hc hst (hm.armed_eq hc hst) rfl (.inl rfl)
      have hfr : Frame s (s.settle false s.cancelCooldown) := hd.frame.trans h.frame
      generalize s.settle false s.cancelCooldown = c at h hfr ⊢
      have hworld : sameWorld s c := sameWorld_of_frame hfr
      have heng : s.cancelCooldown.engine = { s.engine with
          state := some (if s.engine.isolateFlag || s.filtered .isolateSwitch then .isolated else .running)
          stopKind := none, cooldownEnd := none, rundownEnd := none } := State.enterRunning_engine _
      refine ⟨fun k => absurd k (by rw [hno]; decide), fun _ => ⟨h.engine.trans heng, ?_, ?_⟩, h.trips.trans hd.trips,
        h.arbiter.trans hd.arbiter, hfr.contents, hworld, answersOnly_answer_accepted l 1 hfr.ports⟩
      · exact h.contactors.2.2.trans (congrArg Outputs.fuelRun (State.enterRunning_outputs _))
      · exact h.sequencer.trans (State.enterRunning_sequencer _)
    · obtain ⟨p, hp⟩ := State.startRuns_iff.mp hst
      rw [accepted (State.doCancel_starting hh hst)]
      have hd : Driven s (s.endStart .cancelled) := (Driven.refl s).endStart _
      obtain ⟨st, -, h⟩ := hd.settledAny s hc hp (hm.armed_eq hc hp) rfl (.inr hcrank)
      have hfr : Frame s (s.settle false (s.endStart .cancelled)) := hd.frame.trans h.frame
      obtain ⟨hseq, hstarter, hprelube, hfuel, heng⟩ := h.startFails (SameStart.refl s) rfl (by decide)
      generalize s.settle false (s.endStart .cancelled) = c at h hfr hseq hstarter hprelube hfuel heng ⊢
      have hworld : sameWorld s c := sameWorld_of_frame hfr
      rw [hfr.frontEnd, hfr.now] at heng
      exact ⟨fun _ => ⟨hseq, hstarter, hprelube, hfuel, heng⟩, fun k => absurd (hp.symm.trans k) (by simp),
        h.trips.trans hd.trips, h.arbiter.trans hd.arbiter, hfr.contents, hworld,
        answersOnly_answer_accepted l 1 hfr.ports⟩
  case trips =>
    obtain ⟨p, hp', hidle⟩ : ∃ p : Phase, s.engine.state = some (.starting p) ∧
        (EngineState.starting p).turnsUnderPower = false := by
      rcases hst with h | h | h <;> exact ⟨_, h, rfl⟩
    rw [accepted (State.doCancel_starting hh (State.startRuns_iff.mpr ⟨p, hp'⟩))]
    have hd : Driven s (s.endStart .cancelled) := (Driven.refl s).endStart _
    have heng := (State.endStart_engine (s := s) (o := .cancelled) rfl).trans (if_pos hturns)
    have hseq : (s.endStart .cancelled).sequencer = { s.sequencer.idle with
        record := s.sequencer.record.map fun r => { r with outcome := .cancelled } } := by
      rw [State.endStart_sequencer rfl, State.closeStart_sequencer, if_neg (by decide)]
      rfl
    have hout := State.endStart_outputs (s := s) (o := .cancelled) rfl
    obtain ⟨htaken, hholder, -, hstarter, hprelube, hfr⟩ := hd.crankcaseTrips s hm.watched hc (hm.armed_eq hc hp') hidle
      (st := .rundown) (by rw [heng]) rfl hcrank hn hp (by rw [hp']; simp)
      (x := { s with
        engine := { s.engine with
          state := some .rundown, stopKind := some .normal, cooldownEnd := none, rundownEnd := some (s.now + 60000) }
        sequencer := { s.sequencer.idle with
          record := s.sequencer.record.map fun r => { r with outcome := .cancelled } } }) heng.symm (by rw [hseq]) rfl
    refine ⟨htaken.answer l _, hstarter.trans ?_, hprelube.trans ?_, hholder,
      answersOnly_answer_accepted l 1 (hd.frame.trans hfr).ports⟩
    · rw [hout]
      rfl
    · rw [hout]
      rfl

end Sys2Proof.Machine
end

section
/-! An active level of an armed TRIP input: its onset, and with an empty Trip List the trip (O41). -/

namespace Sys2Proof.Machine

section

variable {before x u v w s t : State} {st a : EngineState} {cs : List Channel} {c : Channel} {i : Input} {e : Nat}

/-- The state of an event in which the filter of an input settles. -/
def State.filterSettled (s : State) (i : Input) (e : Nat) : State :=
  (s.reach (e + s.settings.inputFilter)).withInput i (s.frontEnd.inputs.get i).settleFilter

theorem exec_filteredLevelChange (hl : s.live = true) (he : (s.frontEnd.inputs.get i).since = some e) :
    exec (.filteredLevelChange i) s = .next ((s.reach (e + s.settings.inputFilter)).settle (i == .brakeAirSwitch)
      (if i = .isolateSwitch then ((s.filterSettled i e).monitorInput i).judgeIsolation
        else (s.filterSettled i e).monitorInput i)) := by
  show execFilteredLevelChange i s = _
  unfold execFilteredLevelChange
  rw [he]
  dsimp only
  rw [if_pos hl]
  rfl

theorem State.filterSettled_filtered (s : State) (i : Input) (e : Nat) :
    (s.filterSettled i e).filtered i = (s.frontEnd.inputs.get i).selected := by
  show ((s.frontEnd.inputs.set i (s.frontEnd.inputs.get i).settleFilter).get i).filtered = _
  rw [PerInput.get_set_self]
  rfl

theorem State.monitorInput_onset (hi : channelOf i = some c) (ha : (s.channel c).armed = true)
    (hf : s.filtered i = true) : s.monitorInput i = s.withTrip fun t => t.onset c := by
  unfold State.monitorInput
  rw [hi]
  dsimp only
  rw [if_neg (by rw [ha]; decide), if_pos hf]

/-- The Trip List after the onset of an unlisted channel. -/
theorem State.onset_trips_unlisted (hc : c ∉ s.monitor.conditions) : (s.onset c).monitor.trips = s.tripsAfter c := by
  rw [State.onset_trips_eq, if_neg]
  rw [State.active, List.contains_iff_mem]
  exact hc

end

/-- Settles O41: the change of the level is an onset, which is delivered as a trip just where the Trip List was empty. -/
theorem switchOnsetTrips : Obligations.SwitchOnsetTrips := by
  intro i c e s hl hc hm he hsel hi hcls harmed hunl
  have hiso : i ≠ .isolateSwitch := by rintro rfl; cases hi
  have hbrake : (i == Input.brakeAirSwitch) = false := by cases i <;> first | rfl | cases hi
  obtain ⟨a, ha⟩ : ∃ a : EngineState, s.engine.state = some a := by
    refine Option.ne_none_iff_exists'.mp fun k => ?_
    rw [hm.armed hc c, k] at harmed
    cases harmed
  have hexec := exec_filteredLevelChange hl he
  rw [if_neg hiso, hbrake, State.monitorInput_onset (s := s.filterSettled i e) hi harmed
    (by rw [State.filterSettled_filtered, hsel])] at hexec
  generalize hv : s.filterSettled i e = v at hexec
  have hsame : v.engine = s.engine ∧ v.sequencer = s.sequencer ∧ v.arbiter = s.arbiter ∧ v.monitor = s.monitor ∧
      v.outputs = s.outputs ∧ v.now = max s.now (e + s.settings.inputFilter) ∧ v.ports = s.ports := by
    subst hv
    exact ⟨rfl, rfl, rfl, rfl, rfl, rfl, rfl⟩
  obtain ⟨heng, hseq, harb, hmon, hout, hnow, hports⟩ := hsame
  have hch : v.channel c = s.channel c := by unfold State.channel; rw [hmon]
  have hunl' : c ∉ v.monitor.conditions := by rw [hmon]; exact hunl
  have hon := v.onset_only c
  have hlist : Listed (v.onset c).monitor :=
    Listed.onset (hmon ▸ hm.watched.listed) (by rw [hch]; exact harmed) (channelOf_ne_scheduleFault hi)
  have harm (d : Channel) : ((v.onset c).channel d).armed = d.armedIn a := by
    rw [State.onset_armed, ← hm.armed_eq hc ha]
    unfold State.channel
    rw [hmon]
  have htrips : (v.onset c).monitor.trips =
      if s.tripListed c = true then s.monitor.trips else s.monitor.trips ++ [⟨c, s.engine.state⟩] := by
    have hlisted : v.tripListed c = s.tripListed c := by unfold State.tripListed; rw [hmon]
    rw [State.onset_trips_unlisted hunl']
    unfold State.tripsAfter
    rw [hlisted, hmon, heng]
    cases s.tripListed c <;> simp [hcls]
  refine ⟨fun hn hp htr hno => ?first, fun hn => ?later⟩
  case first =>
    have hlisted : s.tripListed c = false := by unfold State.tripListed; rw [hn]; rfl
    rw [hlisted, if_neg (by decide), hn, List.nil_append] at htrips
    have hbegun : TripBegun s (v.onset c) [c] :=
      { engine := by rw [hon.engine, heng]
        record := by rw [hon.sequencer, hseq]
        arbiter := by rw [hon.arbiter, harb]
        chosen := hc
        untripped := htr
        protection := hp
        trips := htrips
        begun := by simp
        listed := hlist.armed
        armed := ⟨a, harm⟩ }
    have hw : v.withTrip (fun t => t.onset c) = (v.onset c).deliverTrip := by
      unfold State.withTrip
      exact if_pos ⟨by rw [hmon, hn], by rw [htrips]; simp⟩
    obtain ⟨dmon, dst, daw⟩ := (v.onset c).deliverTrip_stands
    rw [hw] at hexec
    obtain ⟨htaken, hholder, hnotch, -⟩ :=
      hbegun.taken (before := s.reach (e + s.settings.inputFilter)) (.inl htr)
    rw [← State.settle_of_delivered _ false dst (by rw [daw, hon.engine, heng, hc]) (by rw [dmon, htrips]; simp)]
      at htaken hholder hnotch
    refine ⟨_, hexec, ?_, htaken, hholder, hnotch⟩
    exact (State.settle_frame _ _ (State.deliverTrip_frame (State.onset_frame c (Frame.refl v)))).now.trans hnow
  case later =>
    have hw : v.withTrip (fun t => t.onset c) = v.onset c := State.withTrip_quiet _ _ (.inl (by rw [hmon]; exact hn))
    rw [hw] at hexec
    have hag : (v.onset c).armsAgree := State.armsAgree_of (st := a) (by rw [hon.engine, heng, ha]) harm
    have hclose : (s.reach (e + s.settings.inputFilter)).settle false (v.onset c) =
        (s.reach (e + s.settings.inputFilter)).close (v.onset c) := by
      rw [State.settle_eq_close]
      congr 1
      unfold State.rearmed
      rw [State.rearm_of_armsAgree _ hag, if_neg]
      rintro (k | k)
      · cases k
      · exact k (State.presented_of_arbiter (hon.arbiter.trans harb)).symm
    rw [hclose] at hexec
    have hact : v.active c = false := by rw [← Bool.not_eq_true, State.active_iff]; exact hunl'
    refine ⟨_, hexec, ?_, ?_, ?_, ?_, ?_, ?_, ?_, ?_, ?_, ?_, ?_, ?_⟩
    · rw [State.close_now, hon.now, hnow]
    · rw [State.close_conditions, State.onset_conditions v c hunl', hmon]
      exact inChannelOrder_append _ c hunl
    · rw [State.close_trips, htrips]
    · rw [State.close_channel, State.onset_armed, hch, harmed]
    · rw [State.close_channel, (State.onset_self hact).1]
    · rw [State.close_channel, (State.onset_self hact).1]
    · rw [State.close_alert]
      unfold State.alertLevel
      have hcond : ((s.reach (e + s.settings.inputFilter)).close (v.onset c)).monitor.conditions ≠ [] := by
        rw [State.close_conditions, State.onset_conditions v c hunl', hmon]
        rw [show (s.reach (e + s.settings.inputFilter)).monitor.conditions = s.monitor.conditions from rfl,
          inChannelOrder_append _ c hunl]
        simp
      cases hl : ((s.reach (e + s.settings.inputFilter)).close (v.onset c)).monitor.conditions with
      | nil => exact absurd hl hcond
      | cons d ds => rfl
    · rw [State.close_engine, hon.engine, heng]
    · rw [State.close_sequencer, hon.sequencer, hseq]
    · rw [State.close_arbiter, hon.arbiter, harb]
    · rw [State.close_ports, hon.ports, hports]
    · exact ⟨by rw [State.close_starter, hon.outputs, hout], by rw [State.close_prelube, hon.outputs, hout],
        by rw [State.close_fuelRun, hon.outputs, hout]⟩

end Sys2Proof.Machine
end

section
/-! The wake watch over a laid-up engine, and the close of an event that leaves the channels armed as they are to be: O47 and
O49. -/

namespace Sys2Proof.Machine

section

variable {before u w s t : State} {judged : Bool}

/-! ## A judgement of the wake watch -/

/-- A wake begins a FULL start; where none is due nothing moves. -/
theorem State.judgeWake_cases (hst : s.engine.state = some .laidUp) :
    ((s.wakeCause = true ∧ s.sequencer.lockoutEnd = none ∧ s.frontEnd.reported < 20) ∧
      s.judgeWake = s.beginFull .idleReduction) ∨
    (¬ (s.wakeCause = true ∧ s.sequencer.lockoutEnd = none ∧ s.frontEnd.reported < 20) ∧ s.judgeWake = s) := by
  by_cases h : s.wakeCause = true ∧ s.sequencer.lockoutEnd = none ∧ s.frontEnd.reported < 20
  · refine .inl ⟨h, ?_⟩
    unfold State.judgeWake State.takeWake
    rw [if_pos ⟨hst, h.1⟩, if_pos ⟨hst, h.2⟩]
  · refine .inr ⟨h, ?_⟩
    unfold State.judgeWake State.takeWake
    split_ifs with h1 h2
    · exact absurd ⟨h1.2, h2.2⟩ h
    · rfl
    · rfl

theorem State.judgeWake_driven (s : State) : Driven s s.judgeWake := (Driven.refl s).judgeWake

/-- A wake leaves the lockout, and the engine in a state that arms the channels of LAID_UP. -/
theorem State.judgeWake_stands (hst : s.engine.state = some .laidUp) :
    s.judgeWake.sequencer.lockoutEnd = s.sequencer.lockoutEnd ∧
      ∃ st : EngineState, s.judgeWake.engine.state = some st ∧ ∀ c : Channel, c.armedIn st = c.armedIn .laidUp := by
  rcases s.judgeWake_cases hst with ⟨⟨-, -, h20⟩, hw⟩ | ⟨-, hw⟩
  · have hb := State.beginFull_begun (s := s) .idleReduction h20
    rw [hw]
    rcases Nat.eq_zero_or_pos s.prelubeDuration with hz | hp
    · rcases lt_or_ge (s.reading .lube) 30 with hlt | hge
      · obtain ⟨heng, hseq, -⟩ := hb.unpressed hz hlt
        exact ⟨by rw [hseq]; rfl, _, by rw [heng], fun c => by cases c <;> rfl⟩
      · obtain ⟨heng, hseq, -⟩ := hb.cranked hz hge
        exact ⟨by rw [hseq], _, by rw [heng], fun c => by cases c <;> rfl⟩
    · obtain ⟨heng, hseq, -⟩ := hb.timed hp
      exact ⟨by rw [hseq], _, by rw [heng], fun c => by cases c <;> rfl⟩
  · rw [hw]
    exact ⟨rfl, _, hst, fun _ => rfl⟩

theorem State.enterPhase_idle (s : State) (p : Phase) : (s.enterPhase p).idle = s.idle := s.enter_idle (.starting p)

theorem State.endStart_idle {o : StartOutcome} (h : o.fails = true) : (s.endStart o).idle = s.idle := by
  have hclose : (s.closeStart o).idle = s.idle := by
    unfold State.closeStart
    dsimp only
    split <;> rfl
  rw [State.endStart_of_fails h]
  unfold State.failedStart
  split
  · exact (State.enter_idle _ .rundown).trans hclose
  · exact (State.enter_idle _ .stopped).trans hclose

theorem State.prelubeCheck_idle (s : State) : s.prelubeCheck.idle = s.idle := by
  unfold State.prelubeCheck
  split
  · exact State.enterPhase_idle _ _
  · exact State.endStart_idle rfl

theorem State.judgeWake_idle (s : State) : s.judgeWake.idle = s.idle := by
  have hfull : (s.beginFull .idleReduction).idle = s.idle := by
    have hopen : (s.openStart .idleReduction .full).idle = s.idle := State.enterPhase_idle _ _
    unfold State.beginFull
    rcases (s.openStart .idleReduction .full).timePrelube_cases with ⟨-, hw⟩ | ⟨-, -, hw⟩ | ⟨-, -, hw⟩
    · rw [hw]
      exact hopen
    · rw [hw]
      exact hopen
    · rw [hw, State.prelubeCheck_idle]
      exact hopen
  unfold State.judgeWake State.takeWake
  split_ifs
  · exact hfull
  · rfl
  · rfl

theorem State.rearm_of_standing (h : s.engine.awaitingChoice = false → s.armsAgree) : s.rearm = s := by
  cases hc : s.engine.awaitingChoice with
  | true => exact State.rearm_of_waiting (.inl hc)
  | false => exact State.rearm_of_armsAgree s (h hc)

theorem State.judgeWake_standing (h : s.engine.awaitingChoice = false → s.armsAgree) :
    s.judgeWake.engine.awaitingChoice = false → s.judgeWake.armsAgree := by
  by_cases hst : s.engine.state = some .laidUp
  · intro hc
    have hd := s.judgeWake_driven
    rw [hd.awaiting] at hc
    obtain ⟨-, st, hto, harms⟩ := s.judgeWake_stands hst
    intro c
    rw [hd.channel, h hc c, hto, hst]
    exact (harms c).symm
  · rw [State.judgeWake_of_not_laidUp hst]
    exact h

/-- The close of an event that leaves the channels armed as they are to be: the wake watch judges where it is to. -/
theorem State.settle_of_standing (before : State) (judged : Bool) (h : s.engine.awaitingChoice = false → s.armsAgree) :
    before.settle judged s =
      before.close (if judged = true ∨ before.presented ≠ s.presented then s.judgeWake else s) := by
  rw [State.settle_eq_close]
  unfold State.rearmed
  rw [State.rearm_of_standing h, State.rearm_of_standing (State.judgeWake_standing h)]

theorem State.wakeCause_of_same (ha : t.arbiter = s.arbiter) (hs : t.settings = s.settings) (hf : t.frontEnd = s.frontEnd) :
    t.wakeCause = s.wakeCause := by
  have hholder : t.holder = s.holder := State.holder_of_arbiter ha
  have hnotch : t.authorityNotch = s.authorityNotch := by
    unfold State.authorityNotch State.entry
    rw [hholder, ha]
  have hperm : t.heldPermission = s.heldPermission := by
    unfold State.heldPermission State.holderEntry
    rw [hholder]
    unfold State.entry
    rw [ha]
  unfold State.wakeCause State.demandCause State.batteryCause State.coolantCause State.brakeAirCause State.reading
    State.filtered
  rw [hholder, hnotch, hperm, hs, hf]

/-- Whether a wake is due, said of the state that the judgement leaves or of the one it is made in. -/
theorem State.wakeDue_close (before : State) (hst : w.engine.state = some .laidUp) :
    wakeDue (before.close w.judgeWake) ↔
      w.wakeCause = true ∧ w.sequencer.lockoutEnd = none ∧ w.frontEnd.reported < 20 := by
  have hd := w.judgeWake_driven
  have hfr : Frame w (before.close w.judgeWake) := hd.frame.trans (before.close_frame _)
  unfold wakeDue
  rw [State.wakeCause_of_same (s := w) (by rw [State.close_arbiter, hd.arbiter]) hfr.contents.2.1 hfr.frontEnd,
    State.close_sequencer, (w.judgeWake_stands hst).1, hfr.frontEnd]

/-- A judgement closed: the wake where one is due, else the engine, its start and its contactors as they were. -/
theorem State.wakeJudged_close (before : State) (hst : w.engine.state = some .laidUp) (he : w.engine = u.engine)
    (hq : w.sequencer = u.sequencer) (ho : sameContactors u w) : wakeJudged u (before.close w.judgeWake) := by
  have hd := w.judgeWake_driven
  have hfr : Frame w (before.close w.judgeWake) := hd.frame.trans (before.close_frame _)
  have hset : (before.close w.judgeWake).settings = w.settings := hfr.contents.2.1
  have hlube : (before.close w.judgeWake).reading .lube = w.reading .lube := State.reading_of_scan (by rw [hfr.frontEnd]) _
  have hdur : (before.close w.judgeWake).prelubeDuration = w.prelubeDuration := by
    unfold State.prelubeDuration State.reading
    rw [hfr.look, hfr.frontEnd]
  have hdue := State.wakeDue_close before hst
  rcases w.judgeWake_cases hst with ⟨hcause, hw⟩ | ⟨hcause, hw⟩
  · refine ⟨fun _ => ?_, fun k => absurd (hdue.mpr hcause) k⟩
    have hb := State.beginFull_begun (s := w) .idleReduction hcause.2.2
    rw [← hw] at hb
    have hnow := hfr.now
    have hrep : (before.close w.judgeWake).frontEnd.reported = w.frontEnd.reported := by rw [hfr.frontEnd]
    unfold wakeTaken
    rw [hdur, hlube, hset, hrep, hnow, State.close_engine, State.close_sequencer, State.close_starter, State.close_prelube,
      State.close_fuelRun, ← he]
    refine ⟨?_, fun hp => ?_, fun hz hp => ?_, fun hz hp => ?_⟩
    · rcases Nat.eq_zero_or_pos w.prelubeDuration with hz | hp
      · rcases lt_or_ge (w.reading .lube) 30 with hlt | hge
        · rw [(hb.unpressed hz hlt).1]
        · rw [(hb.cranked hz hge).1]
      · rw [(hb.timed hp).1]
    · obtain ⟨heng, hseq, hout⟩ := hb.timed hp
      rw [heng, hseq, hout]
      exact ⟨rfl, rfl, rfl, rfl, rfl, rfl⟩
    · obtain ⟨heng, hseq, hout⟩ := hb.cranked hz hp
      rw [heng, hseq, hout]
      exact ⟨rfl, rfl, rfl, rfl, rfl, rfl, rfl, rfl, rfl⟩
    · obtain ⟨heng, hseq, hout⟩ := hb.unpressed hz hp
      rw [heng, hseq, hout]
      exact ⟨rfl, rfl, rfl, rfl, rfl, rfl⟩
  · refine ⟨fun k => absurd (hdue.mp k) hcause, fun _ => ?_⟩
    rw [hw]
    obtain ⟨h1, h2, h3⟩ := ho
    exact ⟨by rw [State.close_engine, he], by rw [State.close_sequencer, hq], by rw [State.close_starter, h1],
      by rw [State.close_prelube, h2], by rw [State.close_fuelRun, h3]⟩

theorem MonitorSound.standing (h : MonitorSound s) (he : t.engine.state = s.engine.state)
    (hc : s.engine.awaitingChoice = false) (hm : t.monitor = s.monitor) : t.armsAgree := by
  intro c
  unfold State.channel
  rw [hm, he]
  exact h.armed hc c

end

/-- Settles O49: the judgement that an entry to LAID_UP left due. -/
theorem laidUpJudgementWakes : Obligations.LaidUpJudgementWakes := by
  intro s hl hc hst hdue hm
  have hrun : exec .laidUpEntryJudgement s =
      .next (s.settle true { s with idle := { s.idle with entryJudgementDue := false } }) := by
    show Host.Outcome.next (if s.live = true ∧ s.idle.entryJudgementDue = true then _ else s) = _
    rw [if_pos ⟨hl, hdue⟩]
    rfl
  generalize hw : ({ s with idle := { s.idle with entryJudgementDue := false } } : State) = w at hrun
  have hsame : Frame s w ∧ w.engine = s.engine ∧ w.sequencer = s.sequencer ∧ w.arbiter = s.arbiter ∧
      w.monitor = s.monitor ∧ w.outputs = s.outputs ∧ w.idle.entryJudgementDue = false := by
    subst hw
    exact ⟨(Frame.refl s).upd rfl rfl rfl rfl rfl rfl rfl, rfl, rfl, rfl, rfl, rfl, rfl⟩
  obtain ⟨hf, heng, hseq, harb, hmon, hout, hidle⟩ := hsame
  have hd := w.judgeWake_driven
  rw [State.settle_of_standing s true fun _ => hm.standing (by rw [heng]) hc hmon, if_pos (.inl rfl)] at hrun
  have hfr : Frame s (s.close w.judgeWake) := hf.trans (hd.frame.trans (s.close_frame _))
  refine ⟨_, hrun, ?_, by rw [State.close_arbiter, hd.arbiter, harb], sameWorld_of_frame hfr, hfr.ports,
    State.wakeJudged_close s (by rw [heng, hst]) heng hseq ⟨by rw [hout], by rw [hout], by rw [hout]⟩⟩
  rw [State.close_entryJudgementDue, State.judgeWake_idle, hidle]

/-- The close over a sound state that the event left with the engine, the Stepper, the Arbiter and the Monitor of its
beginning. -/
theorem State.close_sound {before v : State} (hchosen : v.engine.awaitingChoice = false) (hm : MonitorSound v)
    (hs : StepperSound v) (hi : IdleSound v) (he : before.engine = v.engine) (hst : before.stepper = v.stepper)
    (ha : before.arbiter = v.arbiter) (hmon : before.monitor = v.monitor) : before.close v = v :=
  State.close_eq_self (fun c h => by rw [hmon]; exact h) hchosen hs.target hs.granted
    (State.speedChanged_eq_false (by rw [he]) (by rw [hst]) (by rw [he])) hs.governor hs.excitation hm.alert
    (State.idleAfter_eq_self hi (by unfold State.holder; rw [ha]))

/-- Settles O47: the credit's expiry is no event; the lockout's closes over a sound state, but for the wake watch. -/
theorem lockoutAndCreditExpire : Obligations.LockoutAndCreditExpire := by
  intro e s hl
  refine ⟨fun he => ?credit, fun he hst hc hm hs hi => ?outside, fun he hst hc hm => ?laidUp⟩
  case credit =>
    show execPrelubeCreditExpiry s = _
    unfold execPrelubeCreditExpiry
    rw [he]
    dsimp only
    rw [if_pos hl]
    rfl
  all_goals
    have hrun : exec .starterLockoutExpiry s = .next ((s.reach e).settle true
        { s.reach e with sequencer := { s.sequencer with lockoutEnd := none } }) := by
      show execStarterLockoutExpiry s = _
      unfold execStarterLockoutExpiry
      rw [he]
      dsimp only
      rw [if_pos hl]
      rfl
    generalize hw : ({ s.reach e with sequencer := { s.sequencer with lockoutEnd := none } } : State) = w at hrun
    have hsame : Frame (s.reach e) w ∧ w.engine = s.engine ∧
        w.sequencer = { s.sequencer with lockoutEnd := none } ∧ w.arbiter = s.arbiter ∧ w.monitor = s.monitor ∧
        w.outputs = s.outputs := by
      subst hw
      exact ⟨(Frame.refl _).upd rfl rfl rfl rfl rfl rfl rfl, rfl, rfl, rfl, rfl, rfl⟩
    obtain ⟨hf, heng, hseq, harb, hmon, hout⟩ := hsame
    rw [State.settle_of_standing (s.reach e) true fun _ => hm.standing (by rw [heng]) hc hmon, if_pos (.inl rfl)] at hrun
  case outside =>
    rw [hrun, State.judgeWake_of_not_laidUp (by rw [heng]; exact hst)]
    congr 1
    subst hw
    exact State.close_sound hc (hm.of_same rfl rfl rfl) (hs.of_same rfl rfl rfl rfl rfl rfl fun _ => rfl)
      (hi.of_same rfl rfl) rfl rfl rfl rfl
  case laidUp =>
    have hd := w.judgeWake_driven
    have hfr : Frame (s.reach e) ((s.reach e).close w.judgeWake) := hf.trans (hd.frame.trans (State.close_frame _ _))
    refine ⟨_, hrun, hfr.now, by rw [State.close_arbiter, hd.arbiter, harb], hfr.ports, hfr.frontEnd,
      by rw [State.close_trips, hd.trips, hmon], State.wakeJudged_close _ (by rw [heng, hst]) heng hseq
        ⟨by rw [hout], by rw [hout], by rw [hout]⟩⟩

end Sys2Proof.Machine
end

section
/-! The events of the Arbiter: CLAIM, RELEASE, NOTCH, LAYUP and the lapse (O13 to O16). -/

namespace Sys2Proof.Machine

section

variable {before u w s t : State} {l : Link} {x y p b : Source} {n : Byte}

/-! ## The close of an event of the Arbiter -/

/-- The same state but for the Arbiter and the ports. -/
def ArbiterAndPorts (s w : State) : Prop := w = { s with arbiter := w.arbiter, ports := w.ports }

theorem ArbiterOnly.andPorts (h : ArbiterOnly s w) : ArbiterAndPorts s w := by
  unfold ArbiterAndPorts
  rw [h]

theorem State.presented_close (before : State) (h : t.arbiter = w.arbiter) : (before.close t).presented = w.presented :=
  State.presented_of_arbiter (by rw [State.close_arbiter, h])

/-- The close leaves the Monitor, but for a report, where it lists no channel anew. -/
theorem State.close_sameMonitor (h : s.monitor.conditions = before.monitor.conditions) : sameMonitor s (before.close s) := by
  have hclose := before.close_monitor s
  rw [h, inChannelOrder_of_subset fun _ hd => hd, ← h] at hclose
  exact hclose

/-- What the neighbours make of an event of the Arbiter (R83, R87, R136, R139). -/
structure ArbiterClosed (s w t : State) : Prop where
  arbiter : t.arbiter = w.arbiter
  ports : t.ports = w.ports
  stands : s.engine.state ≠ some .laidUp → EngineStands s t
  granted : s.engine.state ≠ some .laidUp → s.engine.awaitingChoice = false →
    t.stepper.granted = min s.stepper.granted t.targetNotch
  wake : s.engine.state = some .laidUp → wakeJudgedIfPresented s t
  idle : idleFollows s t

theorem State.idleFollows_close (hi : w.idle.idleSince = s.idle.idleSince) : idleFollows s (s.close w) := by
  unfold idleFollows
  rw [s.close_idleSince w, hi]
  cases s.idle.idleSince with
  | none => simp
  | some e =>
    by_cases hh : s.holder = (s.close w).holder
    · simp [hh]
    · simp [hh, Ne.symm hh]

theorem ArbiterAndPorts.closed (h : ArbiterAndPorts s w) (ha : s.engine.awaitingChoice = false → s.armsAgree) :
    ArbiterClosed s w (s.settle false w) := by
  have heng : w.engine = s.engine := by rw [h]
  have hmon : w.monitor = s.monitor := by rw [h]
  have hout : w.outputs = s.outputs := by rw [h]
  have hseq : w.sequencer = s.sequencer := by rw [h]
  have hidle : w.idle = s.idle := by rw [h]
  have hcont : sameContactors s w := by rw [h]; exact ⟨rfl, rfl, rfl⟩
  have hworld : sameWorld s w := by rw [h]; exact ⟨rfl, rfl, rfl, rfl, rfl⟩
  have hstore : sameContents s w := by
    rw [h]
    exact sameContents_refl s
  have hag : w.engine.awaitingChoice = false → w.armsAgree := fun hc c => by
    unfold State.channel
    rw [hmon, heng]
    exact ha (by rw [← heng]; exact hc) c
  rw [State.settle_of_standing s false hag]
  have hd := w.judgeWake_driven
  have closed {v : State} (hv : Driven w v) : (s.close v).arbiter = w.arbiter ∧ (s.close v).ports = w.ports ∧
      idleFollows s (s.close v) ∧ (s.close v).presented = w.presented :=
    ⟨by rw [State.close_arbiter, hv.arbiter], by rw [State.close_ports, hv.frame.ports],
      State.idleFollows_close (by rw [hv.idleSince, hidle]), State.presented_close s hv.arbiter⟩
  have standing : EngineStands s (s.close w) ∧
      (s.engine.awaitingChoice = false → (s.close w).stepper.granted = min s.stepper.granted (s.close w).targetNotch) := by
    have hf := s.close_frame w
    obtain ⟨h1, h2, h3, h4, h5⟩ := hworld
    obtain ⟨k1, k2, k3⟩ := hcont
    have hm := State.close_sameMonitor (before := s) (s := w) (by rw [hmon])
    rw [sameMonitor, hmon] at hm
    refine ⟨⟨⟨hf.now.trans h1, hf.supply.trans h2, hf.resetSince.trans h3, hf.frontEnd.trans h4, hf.pending.trans h5⟩,
      by rw [State.close_engine, heng], by rw [State.close_sequencer, hseq], sameContents_trans hstore hf.contents, hm,
      by rw [State.close_starter, k1], by rw [State.close_prelube, k2], by rw [State.close_fuelRun, k3]⟩, fun hc => ?_⟩
    rw [(State.close_stepper (s := w) s (by rw [heng, hc])).1]
    rw [show w.stepper = s.stepper by rw [h]]
  by_cases hj : s.presented = w.presented
  · rw [if_neg (not_or.mpr ⟨by decide, not_not.mpr hj⟩)]
    obtain ⟨h1, h2, h3, h4⟩ := closed (Driven.refl w)
    exact ⟨h1, h2, fun _ => standing.1, fun _ => standing.2, fun _ =>
      ⟨fun k => absurd (hj.trans h4.symm) k, fun _ => ⟨standing.1.engine, standing.1.sequencer, standing.1.contactors⟩⟩,
      h3⟩
  · rw [if_pos (.inr hj)]
    obtain ⟨h1, h2, h3, h4⟩ := closed hd
    refine ⟨h1, h2, fun hst => ?_, fun hst => ?_, fun hst => ⟨fun _ => ?_, fun k => absurd (k.trans h4) hj⟩, h3⟩
    · rw [State.judgeWake_of_not_laidUp (by rw [heng]; exact hst)]
      exact standing.1
    · rw [State.judgeWake_of_not_laidUp (by rw [heng]; exact hst)]
      exact standing.2
    · exact State.wakeJudged_close s (by rw [heng, hst]) heng hseq hcont

/-- The same for an accepted order. -/
theorem ArbiterClosed.answered (h : ArbiterClosed s w t) (hp : w.ports = s.ports) (hc : s.engine.awaitingChoice = false)
    (l : Link) (outcome : Nat) :
    (t.answer l (acceptedBody t outcome)).arbiter = w.arbiter ∧
      answersOnly s (t.answer l (acceptedBody t outcome)) l
        (acceptedBody (t.answer l (acceptedBody t outcome)) outcome) ∧
      (s.engine.state ≠ some .laidUp → EngineStands s (t.answer l (acceptedBody t outcome)) ∧
        (t.answer l (acceptedBody t outcome)).stepper.granted =
          min s.stepper.granted (t.answer l (acceptedBody t outcome)).targetNotch) ∧
      (s.engine.state = some .laidUp → wakeJudgedIfPresented s (t.answer l (acceptedBody t outcome))) ∧
      idleFollows s (t.answer l (acceptedBody t outcome)) := by
  refine ⟨h.arbiter, answersOnly_answer_accepted l outcome (h.ports.trans hp), fun hst => ⟨?_, h.granted hst hc⟩,
    fun hst => h.wake hst, h.idle⟩
  obtain ⟨h1, h2, h3, h4, h5, h6⟩ := h.stands hst
  exact ⟨h1, h2, h3, h4, h5, h6⟩

/-- The row of an accepted order of one action on the Arbiter, of another code than CLAIM and READ. -/
theorem ArbiterOnly.ordered {act : Sys2Proof.Action} (hw : ArbiterOnly s w) (ha : s.armsAgree)
    (hc : s.engine.awaitingChoice = false) (hact : s.doAction l 0 act = .ok w) (h1 : act.code ≠ 1) (h10 : act.code ≠ 10)
    (hf : [act].any Action.startsFull = false) (hk : [act].any Action.writesWake = false) :
    (s.takeOrder l [act]).arbiter = w.arbiter ∧
      answersOnly s (s.takeOrder l [act]) l (acceptedBody (s.takeOrder l [act]) 1) ∧
      (s.engine.state ≠ some .laidUp → EngineStands s (s.takeOrder l [act]) ∧
        (s.takeOrder l [act]).stepper.granted = min s.stepper.granted (s.takeOrder l [act]).targetNotch) ∧
      (s.engine.state = some .laidUp → wakeJudgedIfPresented s (s.takeOrder l [act])) ∧
      idleFollows s (s.takeOrder l [act]) := by
  rw [State.takeOrder_one_accepted hact h1 h10, State.commit_plain hf hk]
  exact (hw.andPorts.closed fun _ => ha).answered hw.ports hc l 1

/-! ## NOTCH and LAYUP -/

theorem State.doNotch_accepted (hn : n.toNat ≤ 8) (hp : (s.entry (sourceOf l)).place ≠ .out) :
    s.doAction l 0 (.notch n) = .ok (s.notchEffect (sourceOf l) n.toNat) := by
  simp [State.doAction, State.doNotch, Nat.not_lt.mpr hn, hp]

theorem State.doLayup_accepted {q : Permission} (hn : permissionOf n = some q) (hp : (s.entry (sourceOf l)).place ≠ .out) :
    s.doAction l 0 (.layup n) = .ok (s.layupEffect (sourceOf l) q) := by
  simp [State.doAction, State.doLayup, hn, hp]

theorem permissionOf_of_le (h : n.toNat ≤ 1) : ∃ q : Permission, permissionOf n = some q := by
  have hn : n = 0#8 ∨ n = 1#8 := by bv_omega
  rcases hn with rfl | rfl <;> exact ⟨_, rfl⟩

theorem permissionOf_of_gt (h : 1 < n.toNat) : permissionOf n = none := by
  have h0 : n ≠ 0#8 := by rintro rfl; exact absurd h (by decide)
  have h1 : n ≠ 1#8 := by rintro rfl; exact absurd h (by decide)
  simp [permissionOf, h0, h1]

end

/-- Settles O16: both write the source's entry alone, and the neighbours take what the Arbiter then presents. -/
theorem notchAndLayupAreStored : Obligations.NotchAndLayupAreStored := by
  intro l n s
  refine ⟨fun ho hp ha hn => ?notch, fun q ho hp ha hq => ?layup, fun ho => ?notchRefused, fun ho => ?layupRefused⟩
  case notch =>
    obtain ⟨h1, h2, h3, h4, h5⟩ := ArbiterOnly.ordered (w := s.notchEffect (sourceOf l) n.toNat) rfl ha
      (State.offers_chosen ho).2 (State.doNotch_accepted hn hp) (show 3 ≠ 1 by decide) (show 3 ≠ 10 by decide) rfl rfl
    exact ⟨_, exec_orderCommand_of_offers (a := .notch n) ho, h1, h2, h3, h4, h5⟩
  case layup =>
    obtain ⟨h1, h2, h3, h4, h5⟩ := ArbiterOnly.ordered (w := s.layupEffect (sourceOf l) q) rfl ha
      (State.offers_chosen ho).2 (State.doLayup_accepted hq hp) (show 8 ≠ 1 by decide) (show 8 ≠ 10 by decide) rfl rfl
    exact ⟨_, exec_orderCommand_of_offers (a := .layup n) ho, h1, h2, h3, h4, h5⟩
  case notchRefused =>
    refine ⟨_, exec_orderCommand_of_offers (a := .notch n) ho, fun hn => ?_, fun hn hp => ?_⟩
    · exact State.takeOrder_one_refused (by simp [State.doAction, State.doNotch, hn])
    · exact State.takeOrder_one_refused (by simp [State.doAction, State.doNotch, Nat.not_lt.mpr hn, hp])
  case layupRefused =>
    refine ⟨_, exec_orderCommand_of_offers (a := .layup n) ho, fun hn => ?_, fun hn hp => ?_⟩
    · exact State.takeOrder_one_refused (by simp [State.doAction, State.doLayup, permissionOf_of_gt hn])
    · obtain ⟨q, hq⟩ := permissionOf_of_le hn
      exact State.takeOrder_one_refused (by simp [State.doAction, State.doLayup, hq, hp])

end Sys2Proof.Machine
end

section
/-! CLAIM, RELEASE and the lapse: what each makes of the Authority Table and the two collections (O13, O14, O15). -/

namespace Sys2Proof.Machine

section

variable {s t : State} {l : Link} {x y p b : Source} {n : Byte}

theorem PerSource.ext_get {α : Type} {f g : PerSource α} (h : ∀ x : Source, f.get x = g.get x) : f = g := by
  obtain ⟨a1, a2, a3, a4, a5⟩ := f
  obtain ⟨b1, b2, b3, b4, b5⟩ := g
  have h1 := h .cab
  have h2 := h .consist
  have h3 := h .remote
  have h4 := h .shop
  have h5 := h .protection
  simp only [PerSource.get] at h1 h2 h3 h4 h5
  rw [h1, h2, h3, h4, h5]

theorem PerSource.get_set {α : Type} (f : PerSource α) (x y : Source) (v : α) :
    (f.set x v).get y = if y = x then v else f.get y := by
  by_cases h : y = x
  · subst h
    simp
  · rw [PerSource.get_set_ne _ _ h, if_neg h]

/-! ## CLAIM -/

/-- A push as the Arbiter has it after: the previous top set aside, the source on top with what it gains (R7, R8). -/
theorem State.pushSource_arbiter (s : State) (x : Source) : (s.pushSource x).arbiter =
    ⟨s.setTopAside.arbiter.table.set x ((s.setTopAside.entry x).gain s.stepper.granted), x :: s.arbiter.stack,
      s.arbiter.waiting⟩ := by
  unfold State.pushSource State.gain State.setTopAside
  split <;> rfl

/-- A claim out of reset, pushed (R16). -/
theorem State.claimPush_arbiter {notch : Nat} (hx : s.entry x = Entry.reset) :
    ((s.withEntry x { s.entry x with request := notch }).pushSource x).arbiter = ⟨
      (match s.holder with
        | none => s.arbiter.table
        | some y => s.arbiter.table.set y { s.entry y with place := .suspended, mtch := none, held := none }).set x
        (if notch ≤ s.stepper.granted then ⟨.holding, notch, some .matched, none, .forbid⟩
          else ⟨.holding, notch, some .matching, some s.stepper.granted, .forbid⟩),
      x :: s.arbiter.stack, s.arbiter.waiting⟩ := by
  have hself : (s.withEntry x { s.entry x with request := notch }).entry x = ⟨.out, notch, none, none, .forbid⟩ := by
    rw [hx]
    exact PerSource.get_set_self _ _ _
  have hgain : (((s.withEntry x { s.entry x with request := notch }).setTopAside.entry x).gain s.stepper.granted) =
      if notch ≤ s.stepper.granted then ⟨.holding, notch, some .matched, none, .forbid⟩
        else ⟨.holding, notch, some .matching, some s.stepper.granted, .forbid⟩ := by
    rw [State.setTopAside_entry, hself]
    split <;> rfl
  rw [State.pushSource_arbiter]
  refine congrArg₂ (fun f g => Arbiter.mk f g _) (PerSource.ext_get fun z => ?_) rfl
  rw [PerSource.get_set, PerSource.get_set]
  split
  · exact hgain
  · rename_i hz
    show (s.withEntry x { s.entry x with request := notch }).setTopAside.entry z = _
    have hother : (s.withEntry x { s.entry x with request := notch }).entry z = s.entry z := PerSource.get_set_ne _ _ hz
    have hholder : (s.withEntry x { s.entry x with request := notch }).holder = s.holder := rfl
    rw [State.setTopAside_entry, hother, hholder]
    cases hh : s.holder with
    | none =>
      rw [if_neg (by simp)]
      rfl
    | some y =>
      show _ = (s.arbiter.table.set y _).get z
      rw [PerSource.get_set]
      by_cases hy : z = y
      · subst hy
        simp [Entry.setAside]
      · rw [if_neg (by simpa using Ne.symm hy), if_neg hy]
        rfl

theorem State.claimEffect_gains {notch : Nat} (h : ∀ y ∈ s.holder, s.rank x < s.rank y) :
    s.claimEffect x notch = (s.withEntry x { s.entry x with request := notch }).pushSource x := by
  unfold State.claimEffect
  split
  · rfl
  · rename_i y hy
    rw [if_pos]
    simpa [State.outranks] using h y hy

theorem State.claimEffect_waits {notch : Nat} (hx : s.entry x = Entry.reset)
    (h : ¬ ∀ y ∈ s.holder, s.rank x < s.rank y) : (s.claimEffect x notch).arbiter =
      ⟨s.arbiter.table.set x ⟨.pending, notch, none, none, .forbid⟩, s.arbiter.stack,
        s.arbiter.waiting.takeWhile (fun y => !s.outranks x y) ++
          x :: s.arbiter.waiting.dropWhile (fun y => !s.outranks x y)⟩ := by
  unfold State.claimEffect
  split
  · rename_i hn
    exact absurd (fun y hy => by rw [hn] at hy; cases hy) h
  · rename_i y hy
    have hno : ¬ s.outranks x y = true := fun k => h fun z hz => by
      rw [hy] at hz
      cases hz
      simpa [State.outranks] using k
    rw [if_neg hno]
    have hins : (s.withEntry x { s.entry x with request := notch }).insertByRank x s.arbiter.waiting =
        s.arbiter.waiting.takeWhile (fun y => !s.outranks x y) ++
          x :: s.arbiter.waiting.dropWhile (fun y => !s.outranks x y) := State.insertByRank_eq _ x _
    unfold State.pend
    refine congrArg₂ (fun f g => Arbiter.mk f _ g) (PerSource.ext_get fun z => ?_) hins
    rw [PerSource.get_set]
    split
    · rename_i hz
      subst hz
      refine Eq.trans ?_ (PerSource.get_set_self _ _ _).symm
      show { ((s.withEntry z { s.entry z with request := notch }).entry z) with place := .pending } = _
      rw [show (s.withEntry z { s.entry z with request := notch }).entry z = { s.entry z with request := notch } from
        PerSource.get_set_self _ _ _, hx]
      rfl
    · rename_i hz
      exact (PerSource.get_set_ne _ _ hz).trans (PerSource.get_set_ne _ _ hz).symm

theorem State.doClaim_accepted (hn : n.toNat ≤ 8) (he : s.entry (sourceOf l) = Entry.reset)
    (hr : l = .shop → s.atRest = true) :
    s.doAction l 0 (.claim n) = .ok (s.claimEffect (sourceOf l) n.toNat) := by
  have h1 : ¬ (s.entry (sourceOf l)).place ≠ .out := by rw [he]; decide
  have h2 : ¬ (l = .shop ∧ s.atRest = false) := fun k => by
    rw [hr k.1] at k
    cases k.2
  show s.doClaim l n = _
  unfold State.doClaim
  rw [if_neg (Nat.not_lt.mpr hn), if_neg h1, if_neg h2]

/-! ## RELEASE -/

theorem filter_bne_of_not_mem {α : Type} [DecidableEq α] {xs : List α} {x : α} (h : x ∉ xs) : xs.filter (· != x) = xs :=
  List.filter_eq_self.mpr fun y hy => by simpa using fun k : y = x => h (k ▸ hy)

/-- A promotion in a part whose stack holds a suspended top, or none (R10, R20). -/
theorem State.promote_arbiter {w : List Source} (hw : s.arbiter.waiting = p :: w) (hp : p ∉ w)
    (htop : ∀ b ∈ s.holder, b ≠ p ∧ (s.entry b).setAside = s.entry b) :
    (s.promote p).arbiter =
      ⟨s.arbiter.table.set p ((s.entry p).gain s.stepper.granted), p :: s.arbiter.stack, w⟩ := by
  have hrest : s.arbiter.waiting.filter (· != p) = w := by
    rw [hw, List.filter_cons_of_neg (by simp), filter_bne_of_not_mem hp]
  have hentry (z : Source) : ((s.withWaiting w).setTopAside.entry z) = s.entry z := by
    rw [State.setTopAside_entry]
    show (if s.holder = some z then (s.entry z).setAside else s.entry z) = s.entry z
    split
    · exact (htop z ‹_›).2
    · rfl
  unfold State.promote
  rw [hrest, State.pushSource_arbiter]
  refine congrArg₂ (fun f g => Arbiter.mk f g w) (PerSource.ext_get fun z => ?_) rfl
  rw [PerSource.get_set, PerSource.get_set, hentry]
  split
  · rfl
  · exact hentry z

/-- The rule of resumption on the Arbiter that a popped holder leaves (R20). -/
def State.resumed (s : State) (f : PerSource Entry) : Arbiter :=
  match s.arbiter.waiting, s.arbiter.stack.tail with
  | [], [] => ⟨f, [], []⟩
  | [], b :: r => ⟨f.set b ((s.entry b).gain s.stepper.granted), b :: r, []⟩
  | p :: w, [] => ⟨f.set p ((s.entry p).gain s.stepper.granted), [p], w⟩
  | p :: w, b :: r =>
    if s.rank p < s.rank b then ⟨f.set p ((s.entry p).gain s.stepper.granted), p :: b :: r, w⟩
    else ⟨f.set b ((s.entry b).gain s.stepper.granted), b :: r, p :: w⟩

theorem AuthoritySound.nodup_waiting (h : AuthoritySound s) : s.arbiter.waiting.Nodup :=
  h.waitingOrder.imp fun hab k => absurd hab (by rw [k]; exact lt_irrefl _)

theorem AuthoritySound.nodup_stack (h : AuthoritySound s) : s.arbiter.stack.Nodup :=
  h.stackOrder.imp fun hab k => absurd hab (by rw [k]; exact lt_irrefl _)

theorem AuthoritySound.setAside_of_suspended (h : AuthoritySound s) (hb : b ∈ s.arbiter.stack.tail) :
    (s.entry b).setAside = s.entry b := by
  have hplace := (h.suspended b).mpr hb
  have hmtch : (s.entry b).mtch = none := by
    refine Option.not_isSome_iff_eq_none.mp fun k => ?_
    have hk := (h.matched b).mp k
    rw [hplace] at hk
    cases hk
  have hheld : (s.entry b).held = none := by
    refine Option.not_isSome_iff_eq_none.mp fun k => ?_
    have hk := (h.held b).mp k
    rw [hmtch] at hk
    cases hk
  unfold Entry.setAside
  rw [← hplace, ← hmtch, ← hheld]

theorem State.stack_of_holder (hx : s.holder = some x) : s.arbiter.stack = x :: s.arbiter.stack.tail := by
  unfold State.holder at hx
  cases hs : s.arbiter.stack with
  | nil => rw [hs] at hx; cases hx
  | cons y rest =>
    rw [hs] at hx
    cases hx
    rfl

/-- The holder's release: its entry at reset, and the rule of resumption on what is left (R19, R20). -/
theorem AuthoritySound.releaseHolder (h : AuthoritySound s) (hx : s.holder = some x) :
    (s.releaseSource x).arbiter = s.resumed (s.arbiter.table.set x Entry.reset) := by
  have hstack := State.stack_of_holder hx
  have hnodup := h.nodup_stack
  rw [hstack] at hnodup
  have hpop : s.arbiter.stack.filter (· != x) = s.arbiter.stack.tail := by
    rw [hstack, List.filter_cons_of_neg (by simp), filter_bne_of_not_mem (List.nodup_cons.mp hnodup).1]
    rfl
  have hwaits : x ∉ s.arbiter.waiting := fun k => h.apart x k (by rw [hstack]; exact List.mem_cons_self)
  have hleft : (s.removeSource x).arbiter =
      ⟨s.arbiter.table.set x Entry.reset, s.arbiter.stack.tail, s.arbiter.waiting⟩ := by
    show Arbiter.mk _ (s.arbiter.stack.filter (· != x)) (s.arbiter.waiting.filter (· != x)) = _
    rw [hpop, filter_bne_of_not_mem hwaits]
    rfl
  have hentry {z : Source} (hz : z ≠ x) : (s.removeSource x).entry z = s.entry z := PerSource.get_set_ne _ _ hz
  have htail {b : Source} (hb : b ∈ s.arbiter.stack.tail) : b ≠ x := fun k =>
    (List.nodup_cons.mp hnodup).1 (k ▸ hb)
  have hrank (z : Source) : (s.removeSource x).rank z = s.rank z := by cases z <;> rfl
  have hwn := h.nodup_waiting
  have hrel : s.releaseSource x = (s.removeSource x).resumeHolder := by
    unfold State.releaseSource
    rw [(h.holding x).mpr hx]
  have hgain {b : Source} {r : List Source} (hb : s.arbiter.stack.tail = b :: r) :
      ((s.removeSource x).gain b).arbiter =
        ⟨(s.arbiter.table.set x Entry.reset).set b ((s.entry b).gain s.stepper.granted), b :: r, s.arbiter.waiting⟩ := by
    show Arbiter.mk ((s.removeSource x).arbiter.table.set b (((s.removeSource x).entry b).gain s.stepper.granted))
      (s.removeSource x).arbiter.stack (s.removeSource x).arbiter.waiting = _
    rw [hleft, hentry (htail (by rw [hb]; exact List.mem_cons_self)), hb]
  have hpromote {p : Source} {w : List Source} (hw : s.arbiter.waiting = p :: w) :
      ((s.removeSource x).promote p).arbiter =
        ⟨(s.arbiter.table.set x Entry.reset).set p ((s.entry p).gain s.stepper.granted), p :: s.arbiter.stack.tail, w⟩ := by
    rw [hw] at hwn
    rw [State.promote_arbiter (by rw [hleft]; exact hw) (List.nodup_cons.mp hwn).1 fun b hb => ?_,
      hentry fun k => hwaits (by rw [hw, k]; exact List.mem_cons_self), hleft]
    · rfl
    · have hmem : b ∈ s.arbiter.stack.tail := by
        have hb' : (s.removeSource x).arbiter.stack.head? = some b := hb
        rw [hleft] at hb'
        exact List.mem_of_mem_head? hb'
      refine ⟨fun k => h.apart b ?_ (List.mem_of_mem_tail hmem), ?_⟩
      · rw [hw, k]
        exact List.mem_cons_self
      · rw [hentry (htail hmem)]
        exact h.setAside_of_suspended hmem
  rw [hrel]
  unfold State.resumeHolder State.resumed
  rw [hleft]
  cases hw : s.arbiter.waiting with
  | nil =>
    cases ht : s.arbiter.stack.tail with
    | nil => simp only [List.head?_nil]; rw [hleft, hw, ht]
    | cons b r => simp only [List.head?_nil, List.head?_cons]; rw [hgain ht, hw]
  | cons p w =>
    cases ht : s.arbiter.stack.tail with
    | nil => simp only [List.head?_nil, List.head?_cons]; rw [hpromote hw, ht]
    | cons b r =>
      simp only [List.head?_cons, State.outranks, hrank, decide_eq_true_eq]
      split
      · rw [hpromote hw, ht]
      · rw [hgain ht, hw]

theorem AuthoritySound.releaseOther (h : AuthoritySound s) (hp : (s.entry x).place ≠ .out) (hx : s.holder ≠ some x) :
    s.releaseSource x = s.removeSource x := by
  have hholding : (s.entry x).place ≠ .holding := fun k => hx ((h.holding x).mp k)
  unfold State.releaseSource
  cases hk : (s.entry x).place with
  | out => exact absurd hk hp
  | pending => rfl
  | suspended => rfl
  | holding => exact absurd hk hholding

/-! ## The lapse -/

theorem State.setTopAside_withPort (s : State) (l : Link) (q : Port) :
    (s.withPort l q).setTopAside = s.setTopAside.withPort l q := by
  unfold State.setTopAside
  rw [show (s.withPort l q).holder = s.holder from rfl]
  split <;> rfl

theorem State.pushSource_withPort (s : State) (l : Link) (q : Port) (x : Source) :
    (s.withPort l q).pushSource x = (s.pushSource x).withPort l q := by
  unfold State.pushSource
  rw [State.setTopAside_withPort]
  rfl

theorem State.resumeHolder_withPort (s : State) (l : Link) (q : Port) :
    (s.withPort l q).resumeHolder = s.resumeHolder.withPort l q := by
  have hpromote (p : Source) : (s.withPort l q).promote p = (s.promote p).withPort l q :=
    State.pushSource_withPort (s.withWaiting (s.arbiter.waiting.filter (· != p))) l q p
  have hranks (p b : Source) : (s.withPort l q).outranks p b = s.outranks p b := by
    cases p <;> cases b <;> rfl
  unfold State.resumeHolder
  rw [show (s.withPort l q).arbiter = s.arbiter from rfl]
  split
  · exact hpromote _
  · rw [hranks]
    split
    · exact hpromote _
    · rfl
  · rfl
  · rfl

/-- A release speaks of the Arbiter alone: the ports have no part in it (R19). -/
theorem State.releaseSource_withPort (s : State) (l : Link) (q : Port) (x : Source) :
    (s.withPort l q).releaseSource x = (s.releaseSource x).withPort l q := by
  unfold State.releaseSource
  rw [show (s.withPort l q).entry x = s.entry x from rfl]
  split
  · rfl
  · rfl
  · rfl
  · exact State.resumeHolder_withPort (s.removeSource x) l q

theorem State.lapseEffect_stands (h : s.silenceOf l ≤ s.silenceLimit l ∨ (s.entry (sourceOf l)).place = .out) :
    s.lapseEffect l = s := by
  unfold State.lapseEffect
  rw [if_neg]
  rintro ⟨h1, h2⟩
  rcases h with h | h
  · omega
  · exact h2 h

theorem State.lapseEffect_releases (h : s.silenceLimit l < s.silenceOf l) (hp : (s.entry (sourceOf l)).place ≠ .out) :
    s.lapseEffect l = (s.releaseSource (sourceOf l)).withPort l { s.ports.get l with lapseMark := true } :=
  if_pos ⟨h, hp⟩

theorem State.lapseEffect_andPorts (s : State) (l : Link) : ArbiterAndPorts s (s.lapseEffect l) := by
  unfold State.lapseEffect
  split
  · have h := s.releaseSource_only (sourceOf l)
    unfold ArbiterOnly at h
    unfold ArbiterAndPorts State.withPort
    rw [h]
  · rfl

end

/-- Settles O14: the claim's own effect, its reply by the place it leaves the claimant in, and the neighbours' part. -/
theorem claimTakesOrAwaitsAuthority : Obligations.ClaimTakesOrAwaitsAuthority := by
  intro l n s ho
  obtain ⟨-, hc⟩ := State.offers_chosen ho
  refine ⟨_, exec_orderCommand_of_offers (a := .claim n) ho, fun hn he hr ha => ?accepted, fun hn => ?badValue,
    fun hn hp => ?already, fun hn hp hshop hrest => ?notAtRest⟩
  case accepted =>
    have hw := s.claimEffect_only (sourceOf l) n.toNat
    have hact := State.doClaim_accepted hn he hr
    have hrun : State.runActions l 1 0 [] [.claim n] s = .ok (s.claimEffect (sourceOf l) n.toNat) := by
      rw [State.runActions_one, hact]
    have hclosed := hw.andPorts.closed fun _ => ha
    have hbody (v : State) : v.acceptBody l [.claim n] =
        acceptedBody v (if (v.entry (sourceOf l)).place = .pending then 2 else 1) := by
      have hres : v.readResults [.claim n] = [] := rfl
      have hpend : v.answersPending l [.claim n] = decide ((v.entry (sourceOf l)).place = .pending) := by
        simp [State.answersPending, Action.code]
      rw [State.acceptBody, hres, List.append_nil, hpend]
      unfold acceptedBody acceptedPendingCode acceptedCode
      by_cases hk : (v.entry (sourceOf l)).place = .pending <;> simp [hk]
    rw [State.takeOrder_accepted hrun, State.commit_plain (by rfl) (by rfl), hbody]
    have hentry : ((s.settle false (s.claimEffect (sourceOf l) n.toNat)).entry (sourceOf l)) =
        (s.claimEffect (sourceOf l) n.toNat).entry (sourceOf l) := by
      unfold State.entry
      rw [hclosed.arbiter]
    rw [hentry]
    have hfor (outcome : Nat) := hclosed.answered hw.ports hc l outcome
    by_cases hgain : ∀ y ∈ s.holder, s.rank (sourceOf l) < s.rank y
    · have harb := (congrArg State.arbiter (State.claimEffect_gains (notch := n.toNat) hgain)).trans
        (State.claimPush_arbiter he)
      have hplace : ¬ ((s.claimEffect (sourceOf l) n.toNat).entry (sourceOf l)).place = .pending := by
        unfold State.entry
        rw [harb]
        dsimp only
        rw [PerSource.get_set_self]
        split <;> simp
      rw [if_neg hplace]
      obtain ⟨h1, h2, h3, h4, h5⟩ := hfor 1
      exact ⟨fun _ => ⟨h1.trans harb, h2⟩, fun k => absurd hgain k, h3, h4, h5⟩
    · have harb := State.claimEffect_waits (notch := n.toNat) he hgain
      have hplace : ((s.claimEffect (sourceOf l) n.toNat).entry (sourceOf l)).place = .pending := by
        unfold State.entry
        rw [harb]
        dsimp only
        rw [PerSource.get_set_self]
      rw [if_pos hplace]
      obtain ⟨h1, h2, h3, h4, h5⟩ := hfor 2
      exact ⟨fun k => absurd k hgain, fun _ => ⟨h1.trans harb, h2⟩, h3, h4, h5⟩
  case badValue =>
    exact State.takeOrder_one_refused (if_pos hn)
  case already =>
    exact State.takeOrder_one_refused ((if_neg (Nat.not_lt.mpr hn)).trans (if_pos hp))
  case notAtRest =>
    refine State.takeOrder_one_refused ((if_neg (Nat.not_lt.mpr hn)).trans ((if_neg ?_).trans (if_pos ⟨hshop, hrest⟩)))
    rw [not_not]
    exact hp

/-- Settles O15: a source that does not hold leaves its list; a holder is popped, and the rule of resumption follows. -/
theorem releaseLeavesTheCollections : Obligations.ReleaseLeavesTheCollections := by
  intro l s ho
  refine ⟨_, exec_orderCommand_of_offers (a := .release) ho, fun hp hs ha => ?accepted, fun hp => ?refused⟩
  case accepted =>
    obtain ⟨h1, h2, h3, h4, h5⟩ := ArbiterOnly.ordered (l := l) (act := .release) (s.releaseSource_only (sourceOf l)) ha
      (State.offers_chosen ho).2 (if_neg hp) (show 2 ≠ 1 by decide) (show 2 ≠ 10 by decide) rfl rfl
    exact ⟨fun hx => h1.trans (congrArg State.arbiter (hs.releaseOther hp hx)),
      fun hx => h1.trans (hs.releaseHolder hx), h2, h3, h4, h5⟩
  case refused =>
    exact State.takeOrder_one_refused (if_pos hp)

/-- Settles O13: the lapse's own effect with the report taken, and the neighbours' part. -/
theorem lapseActsAsRelease : Obligations.LapseActsAsRelease := by
  intro l s hlive hwaits ha
  have hrow : exec (.lapse l) s = .next (s.settle false ((s.takeReport l).lapseEffect l)) := by
    show execLapse l s = _
    unfold execLapse
    rw [if_pos ⟨hlive, hwaits⟩]
    rfl
  have hw : ArbiterAndPorts s ((s.takeReport l).lapseEffect l) := by
    have h := (s.takeReport l).lapseEffect_andPorts l
    unfold ArbiterAndPorts at h ⊢
    rw [h]
    rfl
  have hclosed := hw.closed ha
  have hport : (s.takeReport l).ports.get l = { s.ports.get l with lapseWaiting := false } := PerLink.get_set_self _ _ _
  have hsilence : (s.takeReport l).silenceOf l = s.now - (s.ports.get l).lastHeard := by
    show s.now - ((s.takeReport l).ports.get l).lastHeard = _
    rw [hport]
  refine ⟨_, hrow, fun h => ?stands, fun h hp => ?releases, hclosed.stands, hclosed.wake⟩
  case stands =>
    have hstays := State.lapseEffect_stands (s := s.takeReport l) (l := l) (by rw [hsilence]; exact h)
    rw [hclosed.arbiter, hclosed.ports, hstays]
    exact ⟨rfl, rfl⟩
  case releases =>
    have hrel := State.lapseEffect_releases (s := s.takeReport l) (l := l) (by rw [hsilence]; exact h) hp
    refine ⟨?_, ?_, hclosed.idle⟩
    · rw [hclosed.arbiter, hrel]
      show ((s.withPort l { s.ports.get l with lapseWaiting := false }).releaseSource (sourceOf l)).arbiter = _
      rw [State.releaseSource_withPort]
      rfl
    · rw [hclosed.ports, hrel, hport]
      show ((s.takeReport l).releaseSource (sourceOf l)).ports.set l _ = _
      rw [(State.releaseSource_only _ _).ports]
      exact PerLink.set_set _ _ _ _

end Sys2Proof.Machine
end

section
/-! TRIP_RESET: the successor holds, the engine stands in STOPPED (O17). -/

namespace Sys2Proof.Machine

section

variable {before w s t : State} {l : Link} {x : Source}

/-! ## The Stepper's part of an entry to STOPPED -/

theorem State.formTarget_only (h : s.targetNotch = 0) : s.formTarget = { s with stepper := s.formTarget.stepper } := by
  unfold State.formTarget
  rw [h]
  split <;> rfl

/-- An entry to STOPPED looks nothing up: the speed reference is 0 and the granted notch 0 (R86, R95). -/
theorem State.stepperAnnounced_stopped (hst : w.engine.state = some .stopped) (hc : w.engine.awaitingChoice = false)
    (hne : before.engine.state ≠ some .stopped) : before.stepperAnnounced w =
      { w with
        stepper := { w.formTarget.stepper with speedRef := 0 }
        outputs := { w.outputs with governor := 0, excitation := w.formTarget.stepper.loadRef } } := by
  have hform := State.formTarget_only (s := w) (State.targetNotch_not_running (by rw [hst]; decide))
  have hchanged : before.speedChanged w.formTarget = true := by
    rw [hform]
    unfold State.speedChanged
    dsimp only
    rw [hst, decide_eq_true hne]
    rfl
  have hnotch : w.formTarget.speedNotch = none := by
    rw [hform]
    unfold State.speedNotch
    dsimp only
    rw [hst]
  unfold State.stepperAnnounced
  rw [hc]
  rw [if_neg (by decide)]
  dsimp only
  rw [hchanged, if_pos rfl, State.formSpeed, hnotch, State.formedSpeed_of_no_notch hnotch]
  dsimp only [State.presentLoops]
  rw [hform]

/-- The close of an event that enters STOPPED and lists nothing. -/
theorem State.close_stopped (hst : w.engine.state = some .stopped) (hc : w.engine.awaitingChoice = false)
    (hne : before.engine.state ≠ some .stopped) (hm : w.monitor.conditions = before.monitor.conditions) :
    (before.close w).monitor = w.monitor ∧ (before.close w).store = w.store ∧ (before.close w).outputs.governor = 0 := by
  have honsets : before.orderOnsets w = w := State.orderOnsets_eq_self fun c h => by rwa [← hm]
  unfold State.close
  rw [honsets, State.stepperAnnounced_stopped hst hc hne]
  exact ⟨rfl, rfl, rfl⟩

/-! ## The successor -/

/-- Who holds after PROTECTION is popped, and every entry besides PROTECTION's (R20, R26). -/
theorem State.resumed_of_protection (hx : s.holder = some .protection) (f : PerSource Entry) :
    (s.resumed f).stack.head? = s.successor ∧ ∀ y : Source,
      (s.resumed f).table.get y = if s.successor = some y then (s.entry y).gain s.stepper.granted else f.get y := by
  have hset (b y : Source) (e : Entry) : (f.set b e).get y = if some b = some y then e else f.get y := by
    rw [PerSource.get_set]
    simp only [Option.some.injEq, eq_comm (a := y)]
  have hgain (b y : Source) : (f.set b ((s.entry b).gain s.stepper.granted)).get y =
      if some b = some y then (s.entry y).gain s.stepper.granted else f.get y := by
    rw [hset]
    split
    · rename_i k
      rw [Option.some.inj k]
    · rfl
  unfold State.successor State.resumed
  rw [State.stack_of_holder hx]
  cases s.arbiter.waiting with
  | nil =>
    cases s.arbiter.stack.tail with
    | nil => exact ⟨rfl, fun y => by simp⟩
    | cons b r => exact ⟨rfl, fun y => hgain b y⟩
  | cons p q =>
    cases s.arbiter.stack.tail with
    | nil => exact ⟨rfl, fun y => hgain p y⟩
    | cons b r =>
      simp only [List.tail_cons, List.head?_cons, State.outranks, decide_eq_true_eq]
      split
      · exact ⟨rfl, fun y => hgain p y⟩
      · exact ⟨rfl, fun y => hgain b y⟩

/-- The successor stands beneath PROTECTION or waits (R26). -/
theorem State.successor_mem (h : s.successor = some x) : x ∈ s.arbiter.stack.tail ∨ x ∈ s.arbiter.waiting := by
  unfold State.successor at h
  split at h
  · rename_i beneath hs
    rw [hs, List.tail_cons]
    split at h
    · rename_i p hw hb
      exact .inr (List.mem_of_mem_head? (hw.trans h))
    · rename_i p b hw hb
      split at h
      · exact .inr (List.mem_of_mem_head? (hw.trans h))
      · exact .inl (List.mem_of_mem_head? (hb.trans h))
    · exact .inl (List.mem_of_mem_head? h)
  · cases h

theorem AuthoritySound.successor_ne_protection (h : AuthoritySound s) (hx : s.holder = some .protection) :
    s.successor ≠ some .protection := by
  intro k
  have hnodup := h.nodup_stack
  rw [State.stack_of_holder hx] at hnodup
  exact (State.successor_mem k).elim (List.nodup_cons.mp hnodup).1 h.links

/-! ## The checks -/

theorem State.tripActive_iff : (s.monitor.conditions.any (fun c => c.cls == .trip)) = true ↔
    ∃ c ∈ s.monitor.conditions, c.cls = .trip := by
  simp

/-- What the accepted TRIP_RESET is made of: the Arbiter's release of PROTECTION, the Trip List and the entry (R28). -/
theorem AuthoritySound.tripResetEffect (h : AuthoritySound s) (hx : s.holder = some .protection)
    (hst : s.engine.state = some .tripped) : s.tripResetEffect =
    { s with
      arbiter := s.resumed (s.arbiter.table.set .protection Entry.reset)
      monitor := { s.monitor with trips := [] }
      engine := { s.engine with state := some .stopped }
      outputs := { s.outputs with fuelRun := false } } := by
  have hs : AuthoritySound { s with monitor := { s.monitor with trips := [] } } := h.of_same rfl rfl
  have honly := ({ s with monitor := { s.monitor with trips := [] } } : State).releaseSource_only .protection
  rw [ArbiterOnly, hs.releaseHolder hx] at honly
  unfold State.tripResetEffect
  rw [honly]
  unfold State.enter
  dsimp only
  rw [hst, if_neg (by decide)]
  rfl

end

/-- Settles O17: the release of PROTECTION with the entry to STOPPED, and the checks of R27 in order. -/
theorem tripResetReturnsAuthority : Obligations.TripResetReturnsAuthority := by
  intro l s ho
  have hc := (State.offers_chosen ho).2
  refine ⟨_, exec_orderCommand_of_offers (a := .tripReset) ho, fun hst hx htrips hmay hrot hcond hs ha => ?accepted,
    fun htrips => ?notTripped, fun htrips hsucc hshop => ?notSuccessor, fun htrips hmay hrot => ?rotating,
    fun htrips hmay hrot hactive => ?tripActive⟩
  case notTripped =>
    exact State.takeOrder_one_refused (if_pos htrips)
  case notSuccessor =>
    have hmay : s.mayReset l = false := by
      unfold State.mayReset State.claimed
      simp only [Bool.or_eq_false_iff, Bool.and_eq_false_iff, decide_eq_false_iff_not, List.contains_eq_mem]
      exact ⟨hsucc, by tauto⟩
    exact State.takeOrder_one_refused ((if_neg htrips).trans (if_pos hmay))
  case rotating =>
    exact State.takeOrder_one_refused ((if_neg htrips).trans ((if_neg (by simp [hmay])).trans (if_pos hrot)))
  case tripActive =>
    exact State.takeOrder_one_refused ((if_neg htrips).trans ((if_neg (by simp [hmay])).trans
      ((if_neg (Nat.not_le.mpr hrot)).trans (if_pos (State.tripActive_iff.mpr hactive)))))
  case accepted =>
    have hact : s.doAction l 0 .tripReset = .ok s.tripResetEffect :=
      (if_neg htrips).trans ((if_neg (by simp [hmay])).trans ((if_neg (Nat.not_le.mpr hrot)).trans
        (if_neg fun k => by
          obtain ⟨c, hm, hcls⟩ := State.tripActive_iff.mp k
          exact hcond c hm hcls)))
    have heffect := hs.tripResetEffect hx hst
    have hag : s.tripResetEffect.armsAgree := by
      rw [heffect]
      intro c
      have hk := ha c
      rw [hst] at hk
      exact hk
    obtain ⟨hholder, hentries⟩ := s.resumed_of_protection hx (s.arbiter.table.set .protection Entry.reset)
    rw [State.takeOrder_one_accepted hact (show 9 ≠ 1 by decide) (show 9 ≠ 10 by decide), State.commit_plain rfl rfl,
      State.settle_of_standing s false fun _ => hag, State.judgeWake_of_not_laidUp (by rw [heffect]; simp), ite_self]
    have hfr := s.close_frame s.tripResetEffect
    have hstops := State.close_stopped (before := s) (w := s.tripResetEffect) (by rw [heffect]) (by rw [heffect]; exact hc)
      (by rw [hst]; simp) (by rw [heffect])
    generalize hclose : s.close s.tripResetEffect = t at hfr hstops ⊢
    obtain ⟨hmon, hstore, hgovernor⟩ := hstops
    have harb : t.arbiter = s.resumed (s.arbiter.table.set .protection Entry.reset) := by
      rw [← hclose, State.close_arbiter, heffect]
    have hentry (y : Source) : t.entry y =
        if s.successor = some y then (s.entry y).gain s.stepper.granted
        else (s.arbiter.table.set .protection Entry.reset).get y := by
      rw [← hentries y, ← harb]
      rfl
    have hmonitor : t.monitor = { s.monitor with trips := [] } := by rw [hmon, heffect]
    have hports : t.ports = s.ports := by rw [hfr.ports, heffect]
    refine ⟨?_, ?_, hgovernor, hmonitor, ?_, ?_, ?_, fun y hy => ?_, fun y hy hne => ?_, ?_, ?_, ?_,
      answersOnly_answer_accepted l 1 hports⟩
    · rw [State.answer_engine, ← hclose, State.close_engine, heffect]
    · rw [State.answer_outputs, ← hclose, State.close_fuelRun, heffect]
    · rw [State.answer_outputs, ← hclose, State.close_alert, hclose, State.alertLevel, hmonitor]
      simp
    · exact (congrArg (fun a => a.stack.head?) harb).trans hholder
    · exact (hentry _).trans ((if_neg (hs.successor_ne_protection hx)).trans (PerSource.get_set_self _ _ _))
    · exact (hentry y).trans (if_pos hy)
    · exact (hentry y).trans ((if_neg hne).trans (PerSource.get_set_ne _ _ hy))
    · rw [State.answer_sequencer, ← hclose, State.close_sequencer, heffect]
    · rw [State.answer_store, hstore, heffect]
    · have hworld := sameWorld_of_frame hfr
      rw [heffect] at hworld
      exact hworld

end Sys2Proof.Machine
end

section
/-! The Monitor's own onset, and the Stepper's update (O42, O43). -/

namespace Sys2Proof.Machine

section

variable {before w s t : State}

/-! ## With the latch set -/

/-- With the latch set a faulting lookup is not reported again (R151). -/
theorem State.lookedUp_monitor (ks : List Lookup) (h : s.monitor.latch = true) : (s.lookedUp ks).monitor = s.monitor := by
  have hf : (s.monitor.faultReported || (s.anyFaults ks && !s.monitor.latch)) = s.monitor.faultReported := by
    rw [h, Bool.not_true, Bool.and_false, Bool.or_false]
  unfold State.lookedUp
  dsimp only
  rw [hf]

theorem State.formTarget_monitor (h : s.monitor.latch = true) : s.formTarget.monitor = s.monitor := by
  unfold State.formTarget State.dropTo
  dsimp only
  split_ifs
  · rfl
  · exact State.lookedUp_monitor _ h
  · rfl

theorem State.formSpeed_monitor (h : s.monitor.latch = true) : s.formSpeed.monitor = s.monitor := by
  unfold State.formSpeed
  dsimp only
  split
  · exact State.lookedUp_monitor _ h
  · rfl

theorem State.close_monitor_latched (before : State) (h : w.monitor.latch = true) : (before.close w).monitor =
    { w.monitor with conditions := inChannelOrder before.monitor.conditions w.monitor.conditions } := by
  have hl : (before.orderOnsets w).monitor.latch = true := h
  show (before.stepperAnnounced (before.orderOnsets w)).monitor = (before.orderOnsets w).monitor
  unfold State.stepperAnnounced
  dsimp only
  split
  · rfl
  · have hf := State.formTarget_monitor hl
    split
    · exact (State.formSpeed_monitor (by rw [hf]; exact hl)).trans hf
    · exact hf

/-! ## The latch -/

theorem State.close_target (before : State) (hc : w.engine.awaitingChoice = false) :
    (before.close w).stepper.target = (before.close w).targetNotch := by
  obtain ⟨ht, -⟩ := State.stepperAnnounced_stepper (s := before.orderOnsets w) before hc
  have hf : (before.close w).targetNotch = (before.orderOnsets w).targetNotch :=
    (before.announced_stepperFrame w).targetNotch
  rw [hf]
  exact ht

/-- A restraint with ceiling 0 listed holds the target at 0 (R124, R86). -/
theorem State.targetNotch_of_ceiling (h : s.ceilingNotch = 0) : s.targetNotch = 0 := by
  unfold State.targetNotch
  rw [h, Nat.min_zero, ite_self]

theorem ceilingOf_scheduleFault (cs : List Channel) : ceilingOf (cs ++ [.scheduleFault]) = 0 := by
  rw [ceilingOf_append]
  exact Nat.min_zero _

/-- The onset of SCHEDULE_FAULT over a list that does not hold it (R120). -/
theorem State.latchFault_monitor (hl : s.monitor.latch = false) (hc : Channel.scheduleFault ∉ s.monitor.conditions) :
    s.latchFault.monitor.latch = true ∧ s.latchFault.monitor.faultReported = s.monitor.faultReported ∧
      s.latchFault.monitor.conditions = s.monitor.conditions ++ [.scheduleFault] := by
  unfold State.latchFault
  rw [hl, if_neg (by decide)]
  refine ⟨?_, ?_, State.onset_conditions _ _ hc⟩ <;>
  · unfold State.onset
    split <;> rfl

end

/-- Settles O43: the latch's onset is an event that re-arms nothing; its ceiling of 0 holds the target at 0. -/
theorem scheduleFaultHoldsIdle : Obligations.ScheduleFaultHoldsIdle := by
  intro s hlive hc hrep harm hl hm hs
  have hrun : exec .scheduleFaultOnset s = .next
      (s.settle false (({ s with monitor := { s.monitor with faultReported := false } } : State).latchFault)) := by
    show Host.Outcome.next (if _ then _ else s) = _
    rw [if_pos ⟨hlive, hrep, harm⟩]
    rfl
  have hnot : Channel.scheduleFault ∉ s.monitor.conditions := fun k => by
    rw [hm.latch.mpr k] at hl
    cases hl
  generalize hv : ({ s with monitor := { s.monitor with faultReported := false } } : State) = v at hrun
  have hsame : Frame s v ∧ v.engine = s.engine ∧ v.sequencer = s.sequencer ∧ v.arbiter = s.arbiter ∧
      v.outputs = s.outputs ∧ v.stepper = s.stepper ∧ v.store = s.store ∧ v.monitor.conditions = s.monitor.conditions ∧
      v.monitor.latch = false ∧ v.monitor.faultReported = false ∧ v.monitor.trips = s.monitor.trips ∧
      v.monitor.channels = s.monitor.channels := by
    subst hv
    exact ⟨(Frame.refl s).upd rfl rfl rfl rfl rfl rfl rfl, rfl, rfl, rfl, rfl, rfl, rfl, rfl, hl, rfl, rfl, rfl⟩
  obtain ⟨hf, heng, hseq, harb, hout, hstep, hstore, hcond, hlatch, hfault, htrips, hchan⟩ := hsame
  have honly := v.latchFault_only
  obtain ⟨wl, wf, wc⟩ := State.latchFault_monitor hlatch (by rwa [hcond])
  have wt := v.latchFault_trips
  have harmed (d : Channel) : (v.latchFault.channel d).armed = (s.channel d).armed := by
    rw [State.latchFault_armed]
    unfold State.channel
    rw [hchan]
  have hfr := State.latchFault_frame hf
  generalize v.latchFault = w at *
  have hag : w.armsAgree := fun d => by
    rw [harmed, honly.engine, heng]
    exact hm.armed hc d
  have hpres : s.presented = w.presented := (State.presented_of_arbiter (by rw [honly.arbiter, harb])).symm
  have hcw : w.engine.awaitingChoice = false := by rw [honly.engine, heng, hc]
  rw [State.settle_of_standing s false fun _ => hag, if_neg (by simp [hpres])] at hrun
  have hcl := hfr.trans (s.close_frame w)
  have hmon := State.close_monitor_latched s wl
  obtain ⟨hgr, hloads, hexc, -⟩ := State.close_stepper s hcw
  have htarget := State.close_target s hcw
  have hconditions : (s.close w).monitor.conditions = s.monitor.conditions ++ [.scheduleFault] := by
    rw [hmon, wc, hcond]
    exact inChannelOrder_append _ _ hnot
  have hceiling : (s.close w).ceilingNotch = 0 := by
    unfold State.ceilingNotch
    rw [hconditions, ceilingOf_scheduleFault]
  have hzero := State.targetNotch_of_ceiling hceiling
  have hwithin : LoadsWithin w :=
    LoadsWithin.of_same (s := s) ⟨hs.loadTarget, hs.loadRef, hs.unloaded⟩ (by rw [honly.stepper, hstep])
      (by rw [honly.stepper, hstep]) (by rw [honly.stepper, hstep]) fun _ => by rw [honly.store, hstore]
  have hgranted : (s.close w).stepper.granted = 0 := by rw [hgr, hzero, Nat.min_zero]
  obtain ⟨hlt, hlr⟩ := (hloads hwithin).unloaded hgranted
  refine ⟨_, hrun, by rw [hmon]; exact wl, by rw [hmon]; exact wf.trans hfault, hconditions,
    by rw [hmon]; exact wt.trans htrips, hceiling, htarget.trans hzero, hgranted, hlt, hlr, hexc.trans hlr, ?_,
    by rw [State.close_engine, honly.engine, heng], by rw [State.close_sequencer, honly.sequencer, hseq],
    by rw [State.close_arbiter, honly.arbiter, harb], sameWorld_of_frame hcl, hcl.contents,
    ⟨by rw [State.close_starter, honly.outputs, hout], by rw [State.close_prelube, honly.outputs, hout],
      by rw [State.close_fuelRun, honly.outputs, hout]⟩, hcl.ports⟩
  rw [State.close_alert, State.alertLevel, hconditions]
  simp

section

variable {s t u : State}

/-! ## The update -/

/-- The update but for the target, the speed reference and the loops: the rise and the load (R88, R97 to R105). -/
def State.loaded (s : State) : State :=
  if s.engine.state = some .running then
    if 1 ≤ s.riseStep.stepper.granted then s.riseStep.loadArithmetic else s.riseStep.noLoad
  else s.noLoad

theorem State.update_eq_loaded (ht : s.stepper.target = s.targetNotch) (hg : s.stepper.granted ≤ s.targetNotch) :
    s.update = s.loaded.formSpeed.presentLoops := by
  have hform : s.formTarget = s := by
    rw [(s.formTarget_stepper).2.2.2.2 hg]
    unfold State.withTarget
    rw [← ht]
  unfold State.update State.loaded
  rw [hform]
  split <;> rfl

/-- The rise: the granted notch and the dwell mark moved, both loads clamped, or nothing of the Stepper (R88, R106). -/
theorem State.riseStep_eq (s : State) : s.riseStep.stepper =
    if s.mayRise then { s.stepper with
      granted := s.stepper.granted + 1
      dwellMark := s.now
      loadTarget := min s.stepper.loadTarget (s.store.loadCeiling (s.stepper.granted + 1))
      loadRef := min s.stepper.loadRef (s.store.loadCeiling (s.stepper.granted + 1)) } else s.stepper := by
  have hlook : (s.lookedUp s.riseLookups).store.loadCeiling = s.store.loadCeiling :=
    funext (State.lookedUp_frame s.riseLookups (Frame.refl s)).looks.loadCeiling
  unfold State.riseStep State.riseOne
  dsimp only
  split
  · rw [← hlook]
    rfl
  · rfl

theorem State.riseStep_loadRef (h : s.stepper.loadRef ≤ s.store.loadCeiling s.stepper.granted) :
    s.riseStep.stepper.loadRef = min s.stepper.loadRef (s.store.loadCeiling s.riseStep.stepper.granted) := by
  rw [s.riseStep_eq]
  split
  · rfl
  · exact (min_eq_left h).symm

/-- What the load arithmetic reads and what it leaves. -/
theorem State.loadArithmetic_stepper (s : State) : s.loadArithmetic.stepper = { s.stepper with
    loadTarget := loadTargetOf (s.store.loadCeiling s.stepper.granted) s.ambientDerate s.restraintFactor s.airLimit
    loadRef := rampLoad s.stepper.loadRef
      (loadTargetOf (s.store.loadCeiling s.stepper.granted) s.ambientDerate s.restraintFactor s.airLimit)
      s.settings.rampUp s.settings.rampDown s.sagHolds
    terms := some ⟨s.store.loadCeiling s.stepper.granted, s.ambientDerate, s.restraintFactor, s.airLimit,
      s.sagHolds && decide (s.stepper.loadRef < loadTargetOf (s.store.loadCeiling s.stepper.granted) s.ambientDerate
        s.restraintFactor s.airLimit)⟩ } := rfl

/-- The terms of the load target that the Stepper's own part leaves. -/
theorem StepperFrame.terms (h : StepperFrame s t) : t.ambientDerate = s.ambientDerate ∧
    t.restraintFactor = s.restraintFactor ∧ t.airLimit = s.airLimit ∧ t.settings = s.settings ∧
    t.store.loadCeiling = s.store.loadCeiling := by
  have hread (c : Analog) : t.reading c = s.reading c := State.reading_of_scan (by rw [h.frame.frontEnd]) c
  have hset : t.settings = s.settings := h.frame.contents.2.1
  refine ⟨?_, ?_, ?_, hset, funext h.frame.looks.loadCeiling⟩
  · unfold State.ambientDerate State.ambientLookup
    rw [hread, hread, h.frame.looks]
  · unfold State.restraintFactor
    rw [h.conditions]
  · unfold State.airLimit State.boost
    rw [hread, hread, hset]

theorem State.sagHolds_of_same (hf : t.frontEnd = s.frontEnd) (hl : sameLooks s t)
    (hg : t.stepper.granted = s.stepper.granted) : t.sagHolds = s.sagHolds := by
  unfold State.sagHolds Store.scheduledSpeed Store.speedTolerance
  rw [hf, hg, hl, hl]

theorem State.loaded_frame (s : State) : StepperFrame s s.loaded := by
  unfold State.loaded
  split_ifs
  · exact (StepperFrame.refl s).riseStep.loadArithmetic
  · exact (StepperFrame.refl s).riseStep.stepper _
  · exact (StepperFrame.refl s).stepper _

theorem State.mayRise_iff : s.mayRise = true ↔ s.stepper.granted < s.targetNotch ∧
    s.store.stepDwell (s.stepper.granted + 1) ≤ s.now - s.stepper.dwellMark ∧
    distance s.frontEnd.reported (s.store.scheduledSpeed s.stepper.granted) ≤ s.store.speedTolerance s.stepper.granted := by
  simp only [State.mayRise, Bool.and_eq_true, decide_eq_true_eq, and_assoc]
  exact Iff.rfl

/-- What the load step leaves of the notch, whatever it does with the loads. -/
theorem State.loaded_notch (s : State) : s.loaded.stepper.target = s.stepper.target ∧
    s.loaded.stepper.nextUpdate = s.stepper.nextUpdate ∧
    if s.engine.state = some .running ∧ s.mayRise = true then
      s.loaded.stepper.granted = s.stepper.granted + 1 ∧ s.loaded.stepper.dwellMark = s.now
    else s.loaded.stepper.granted = s.stepper.granted ∧ s.loaded.stepper.dwellMark = s.stepper.dwellMark := by
  have hload : s.loaded.stepper.target = (if s.engine.state = some .running then s.riseStep else s).stepper.target ∧
      s.loaded.stepper.nextUpdate = (if s.engine.state = some .running then s.riseStep else s).stepper.nextUpdate ∧
      s.loaded.stepper.granted = (if s.engine.state = some .running then s.riseStep else s).stepper.granted ∧
      s.loaded.stepper.dwellMark = (if s.engine.state = some .running then s.riseStep else s).stepper.dwellMark := by
    unfold State.loaded
    split_ifs <;> exact ⟨rfl, rfl, rfl, rfl⟩
  obtain ⟨h1, h2, h3, h4⟩ := hload
  rw [h1, h2, h3, h4]
  by_cases hrun : s.engine.state = some .running
  · rw [if_pos hrun, s.riseStep_eq]
    by_cases hr : s.mayRise = true
    · rw [if_pos hr, if_pos ⟨hrun, hr⟩]
      exact ⟨rfl, rfl, rfl, rfl⟩
    · rw [if_neg hr, if_neg fun k => hr k.2]
      exact ⟨rfl, rfl, rfl, rfl⟩
  · rw [if_neg hrun, if_neg fun k => hrun k.1]
    exact ⟨rfl, rfl, rfl, rfl⟩

/-- The loads of an update at a granted notch of 1 or more (R97 to R105). -/
theorem State.loaded_running (hrun : s.engine.state = some .running)
    (href : s.stepper.loadRef ≤ s.store.loadCeiling s.stepper.granted) (hg : 1 ≤ s.loaded.stepper.granted) :
    s.loaded.stepper.loadTarget = loadTargetOf (s.store.loadCeiling s.loaded.stepper.granted) s.ambientDerate
        s.restraintFactor s.airLimit ∧
      s.loaded.stepper.loadRef = rampLoad (min s.stepper.loadRef (s.store.loadCeiling s.loaded.stepper.granted))
        s.loaded.stepper.loadTarget s.settings.rampUp s.settings.rampDown s.loaded.sagHolds ∧
      s.loaded.stepper.terms = some ⟨s.store.loadCeiling s.loaded.stepper.granted, s.ambientDerate, s.restraintFactor,
        s.airLimit, s.loaded.sagHolds && decide (min s.stepper.loadRef (s.store.loadCeiling s.loaded.stepper.granted) <
          s.loaded.stepper.loadTarget)⟩ := by
  have hrise : 1 ≤ s.riseStep.stepper.granted := by
    unfold State.loaded at hg
    rw [if_pos hrun] at hg
    split at hg <;> exact hg
  have hload : s.loaded = s.riseStep.loadArithmetic := by
    unfold State.loaded
    rw [if_pos hrun, if_pos hrise]
  have hf : StepperFrame s s.riseStep := (StepperFrame.refl s).riseStep
  obtain ⟨h1, h2, h3, h4, h5⟩ := hf.terms
  have hgranted : s.loaded.stepper.granted = s.riseStep.stepper.granted := by rw [hload]; rfl
  have hsag : s.loaded.sagHolds = s.riseStep.sagHolds := by
    have ha : StepperFrame s.riseStep s.loaded := by rw [hload]; exact (StepperFrame.refl _).loadArithmetic
    exact State.sagHolds_of_same ha.frame.frontEnd ha.frame.looks hgranted
  rw [hgranted, hsag, ← State.riseStep_loadRef href, hload, State.loadArithmetic_stepper, h1, h2, h3, h4, h5]
  exact ⟨rfl, rfl, rfl⟩

theorem State.loaded_none (h : s.engine.state ≠ some .running ∨ s.loaded.stepper.granted = 0) :
    s.loaded.stepper.loadTarget = 0 ∧ s.loaded.stepper.loadRef = 0 ∧ s.loaded.stepper.terms = none := by
  unfold State.loaded at h ⊢
  by_cases hrun : s.engine.state = some .running
  · rw [if_pos hrun] at h ⊢
    by_cases hg : 1 ≤ s.riseStep.stepper.granted
    · rw [if_pos hg] at h
      have hz : s.riseStep.stepper.granted = 0 := h.resolve_left fun k => k hrun
      omega
    · rw [if_neg hg]
      exact ⟨rfl, rfl, rfl⟩
  · rw [if_neg hrun]
    exact ⟨rfl, rfl, rfl⟩

end

/-- Settles O42: the rise and the load step of the state that the instant falls in, then both references and the loops. -/
theorem updateFollowsTheRules : Obligations.UpdateFollowsTheRules := by
  intro s hlive hc hs
  have hrun : exec .stepperUpdate s = .next ((s.reach s.stepper.nextUpdate).judgeIdle s.updateDue.update) := by
    show Host.Outcome.next (if s.live then _ else s) = _
    rw [if_pos hlive]
    dsimp only
    rw [hc]
    rfl
  rw [State.update_eq_loaded (s := s.updateDue) hs.target hs.granted] at hrun
  obtain ⟨htarget, hnext, hnotch⟩ := s.updateDue.loaded_notch
  have hf := s.updateDue.loaded_frame
  obtain ⟨hstep, hformed⟩ := s.updateDue.loaded.formSpeed_stepper
  have hff : StepperFrame s.updateDue s.updateDue.loaded.formSpeed.presentLoops := hf.formSpeed.presentLoops
  have hsagLoaded : s.updateDue.loaded.formSpeed.sagHolds = s.updateDue.loaded.sagHolds :=
    State.sagHolds_of_same ((StepperFrame.refl _).formSpeed).frame.frontEnd
      ((StepperFrame.refl s.updateDue.loaded).formSpeed).frame.looks (by rw [hstep])
  have hloaded : s.engine.state = some .running → 1 ≤ s.updateDue.loaded.stepper.granted → _ := fun h1 h2 =>
    State.loaded_running (s := s.updateDue) h1 hs.loadRef h2
  have hnone : _ → _ := State.loaded_none (s := s.updateDue)
  generalize s.updateDue.loaded = w at *
  have hst : ((s.reach s.stepper.nextUpdate).judgeIdle w.formSpeed.presentLoops).stepper =
    { w.stepper with speedRef := w.formedSpeed } := hstep
  have hout : ((s.reach s.stepper.nextUpdate).judgeIdle w.formSpeed.presentLoops).outputs =
      { s.outputs with
        governor := w.formSpeed.stepper.speedRef
        excitation := w.formSpeed.stepper.loadRef } := by
    have ho := hff.outputs
    exact ho
  have hsag : ((s.reach s.stepper.nextUpdate).judgeIdle w.formSpeed.presentLoops).sagHolds = w.sagHolds := hsagLoaded
  have hformedT : ((s.reach s.stepper.nextUpdate).judgeIdle w.formSpeed.presentLoops).formedSpeed = w.formedSpeed :=
    hformed
  refine ⟨_, hrun, hff.frame.now, ?_, ?_, ?_, fun h1 h2 => ?_, fun h => ?_, ?_, ?_, hff.engine, hff.sequencer, hff.arbiter,
    hff.frame.ports, hff.frame.frontEnd, hff.monitor, hff.frame.contents, hff.frame.pending⟩
  · rw [hst]
    exact hnext
  · rw [hst]
    exact htarget.trans hs.target
  · rw [hst]
    have hnow : ((s.reach s.stepper.nextUpdate).judgeIdle w.formSpeed.presentLoops).now = s.updateDue.now := hff.frame.now
    rw [hnow]
    by_cases hr : s.engine.state = some .running ∧ s.updateDue.mayRise = true
    · rw [if_pos ⟨hr.1, State.mayRise_iff.mp hr.2⟩]
      exact (if_pos hr).mp hnotch
    · rw [if_neg fun k => hr ⟨k.1, State.mayRise_iff.mpr k.2⟩]
      exact (if_neg hr).mp hnotch
  · rw [hst] at h2 ⊢
    obtain ⟨k1, k2, k3⟩ := hloaded h1 h2
    rw [hsag]
    exact ⟨k3, k1, k2⟩
  · rw [hst] at h ⊢
    exact hnone h
  · rw [hst, hformedT]
  · rw [hout, hst, hstep]

end Sys2Proof.Machine
end

section
/-! The change of a filtered level that begins no trip (O40). -/

namespace Sys2Proof.Machine

section

variable {before u v w s t : State} {a : EngineState} {c : Channel} {i : Input} {e : Nat}

/-- The close of an event that lists nothing and changes nothing the Stepper reads leaves the Monitor. -/
theorem State.close_monitor_self (hconditions : ∀ c ∈ v.monitor.conditions, c ∈ before.monitor.conditions)
    (htarget : v.stepper.target = v.targetNotch) (hgranted : v.stepper.granted ≤ v.targetNotch)
    (hspeed : before.speedChanged v = false) : (before.close v).monitor = v.monitor := by
  have hform : v.formTarget = v := by
    rw [(v.formTarget_stepper).2.2.2.2 hgranted]
    unfold State.withTarget
    rw [← htarget]
  unfold State.close
  rw [State.orderOnsets_eq_self hconditions]
  show (before.stepperAnnounced v).monitor = v.monitor
  unfold State.stepperAnnounced
  rw [hform]
  dsimp only
  rw [hspeed]
  split <;> rfl

/-- The Monitor's part of a change that begins no trip: only the channel the input feeds, its counts and its entry. -/
structure InputTaken (s : State) (i : Input) (w : State) : Prop where
  only : MonitorOnly s w
  trips : w.monitor.trips = s.monitor.trips
  armed : ∀ d : Channel, (w.channel d).armed = (s.channel d).armed
  listed : ∀ c ∈ channelOf i, (s.channel c).armed = true → (c ∈ w.monitor.conditions ↔ s.filtered i = true)
  stands : (∀ c ∈ channelOf i, (s.channel c).armed = false) → w = s

theorem State.mem_clearCondition (s : State) (c d : Channel) :
    d ∈ (s.clearCondition c).monitor.conditions ↔ d ∈ s.monitor.conditions ∧ d ≠ c := by
  simp [State.clearCondition]

theorem InputTaken.same (h : ∀ c ∈ channelOf i, (s.channel c).armed = true →
    (c ∈ s.monitor.conditions ↔ s.filtered i = true)) : InputTaken s i s := ⟨rfl, rfl, fun _ => rfl, h, fun _ => rfl⟩

theorem State.monitorInput_taken
    (h : i = .groundRelay ∨ i = .isolateSwitch ∨ i = .brakeAirSwitch ∨ s.filtered i = false ∨
      ∀ c ∈ channelOf i, (s.channel c).armed = false) : InputTaken s i (s.monitorInput i) := by
  unfold State.monitorInput
  split
  · rename_i hi
    exact .same fun c hc => by rw [hi] at hc; cases hc
  · rename_i c hi
    have honly {d : Channel} (hd : d ∈ channelOf i) : d = c := by rw [hi] at hd; exact (Option.mem_some.mp hd).symm
    split
    · rename_i ha
      exact .same fun d hd harmed => by rw [honly hd, ha] at harmed; cases harmed
    · rename_i ha
      have ha' : (s.channel c).armed = true := by simpa using ha
      have hno : ¬ ∀ d ∈ channelOf i, (s.channel d).armed = false := fun k => ha (k c (by rw [hi]; rfl))
      split
      · rename_i hf
        have hground : i = .groundRelay := by
          rcases h with h | rfl | rfl | h | h
          · exact h
          · cases hi
          · cases hi
          · rw [hf] at h
            cases h
          · exact absurd h hno
        have hcls : c.cls ≠ .trip := by
          subst hground
          cases hi
          decide
        have htrips := s.onset_trips c hcls
        have hquiet : s.withTrip (fun t => t.onset c) = s.onset c := by
          unfold State.withTrip
          dsimp only
          rw [htrips, if_neg fun k => k.2 k.1]
        rw [hquiet]
        exact ⟨s.onset_only c, htrips, s.onset_armed c, fun d hd _ => by simp [State.mem_onset, honly hd, hf],
          fun k => absurd k hno⟩
      · rename_i hf
        split
        · exact ⟨rfl, rfl, s.clearCondition_armed c, fun d hd _ => by simp [State.mem_clearCondition, honly hd, hf],
            fun k => absurd k hno⟩
        · rename_i hact
          refine .same fun d hd _ => ?_
          rw [honly hd]
          rw [State.active, List.contains_iff_mem] at hact
          simp [hact, hf]

/-- Isolation moves the engine between two states that arm the same channels (R41, R121). -/
theorem State.judgeIsolation_armsAgree (h : s.armsAgree) : s.judgeIsolation.armsAgree := by
  unfold State.judgeIsolation
  split_ifs with h1 h2
  · refine State.armsAgree_of (st := .isolated) (by simp) fun c => ?_
    have hc := h c
    rw [h1.1] at hc
    rw [c.armedIn_isolated, ← c.armedIn_running]
    unfold State.channel
    rw [State.enter_monitor]
    exact hc
  · refine State.armsAgree_of (st := .running) (by simp) fun c => ?_
    have hc := h c
    rw [h2.1] at hc
    rw [c.armedIn_running, ← c.armedIn_isolated]
    unfold State.channel
    rw [State.enter_monitor]
    exact hc
  · exact h

theorem State.judgeIsolation_eq (s : State) : s.judgeIsolation = s.isolateEffect s.engine.isolateFlag := rfl

/-- The reader's part of a change: the Monitor's, and isolation judged where the input is ISOLATE_SWITCH (R41, R118). -/
def State.levelTaken (s : State) (i : Input) : State :=
  if i = .isolateSwitch then (s.monitorInput i).judgeIsolation else s.monitorInput i

/-- What a change that begins no trip leaves besides the Monitor (R41). -/
structure LevelTaken (s : State) (i : Input) (w : State) : Prop where
  frame : Frame s w
  engine : w.engine = { s.engine with
    state := if i = .isolateSwitch ∧ s.runs = true then
        some (if s.engine.isolateFlag || s.filtered i then .isolated else .running)
      else s.engine.state }
  sequencer : w.sequencer = s.sequencer
  arbiter : w.arbiter = s.arbiter
  contactors : s.engine.state = some .laidUp → sameContactors s w
  trips : w.monitor.trips = s.monitor.trips
  agrees : s.armsAgree → w.armsAgree
  listed : ∀ c ∈ channelOf i, (s.channel c).armed = true → (c ∈ w.monitor.conditions ↔ s.filtered i = true)
  stands : (∃ c ∈ channelOf i, (s.channel c).armed = false) → w = s

theorem LevelTaken.engine_stands (h : LevelTaken s i w) (hi : ¬ (i = .isolateSwitch ∧ s.runs = true)) :
    w.engine = s.engine := by
  rw [h.engine, if_neg hi]

theorem InputTaken.levelTaken (h : InputTaken s i w) (hi : i ≠ .isolateSwitch) (hf : Frame s w) : LevelTaken s i w where
  frame := hf
  engine := by
    rw [if_neg fun k => hi k.1, h.only.engine]
  sequencer := h.only.sequencer
  arbiter := h.only.arbiter
  contactors _ := ⟨by rw [h.only.outputs], by rw [h.only.outputs], by rw [h.only.outputs]⟩
  trips := h.trips
  agrees ha c := by
    rw [h.armed, h.only.engine]
    exact ha c
  listed := h.listed
  stands := fun ⟨c, hc, hu⟩ => h.stands fun d hd => by
    rw [Option.mem_def] at hc hd
    rw [← Option.some.inj (hc.symm.trans hd)]
    exact hu

theorem State.levelTaken_spec (s : State) (i : Input)
    (h : i = .groundRelay ∨ i = .isolateSwitch ∨ i = .brakeAirSwitch ∨ s.filtered i = false ∨
      ∀ c ∈ channelOf i, (s.channel c).armed = false) : LevelTaken s i (s.levelTaken i) := by
  unfold State.levelTaken
  split
  · rename_i hi
    subst hi
    rw [show s.monitorInput .isolateSwitch = s from rfl, State.judgeIsolation_eq]
    obtain ⟨hseq, hout⟩ := s.isolateEffect_stands s.engine.isolateFlag
    have hd : Driven s (s.isolateEffect s.engine.isolateFlag) := (Driven.refl s).isolateEffect _
    refine ⟨hd.frame, ?_, hseq, hd.arbiter, fun hst => ?_, hd.trips, s.judgeIsolation_armsAgree,
      (fun c hc => by cases hc), (fun ⟨c, hc, _⟩ => by cases hc)⟩
    · rw [State.isolateEffect_engine]
      simp only [true_and]
    · have hsame : (s.isolateEffect s.engine.isolateFlag).outputs = s.outputs := by
        refine hout.resolve_right fun k => ?_
        rcases State.runs_state k.1 with hr | hr <;>
        · rw [hst] at hr
          cases hr
      rw [sameContactors, hsame]
      exact ⟨rfl, rfl, rfl⟩
  · rename_i hi
    exact (State.monitorInput_taken h).levelTaken hi (State.monitorInput_frame i (Frame.refl s))

end

/-- Settles O40: the reader's part of the change is closed over channels that stand armed as before; a change of
BRAKE_AIR_SWITCH is a judgement of the wake watch besides. -/
theorem filteredLevelFollowsItsTiming : Obligations.FilteredLevelFollowsItsTiming := by
  intro i e s hl hc hm he hno
  have hexec := exec_filteredLevelChange hl he
  generalize hv : s.filterSettled i e = v at hexec
  have hsame : v.engine = s.engine ∧ v.sequencer = s.sequencer ∧ v.arbiter = s.arbiter ∧ v.monitor = s.monitor ∧
      v.outputs = s.outputs ∧ v.now = max s.now (e + s.settings.inputFilter) ∧ v.ports = s.ports ∧
      v.stepper = s.stepper ∧ v.frontEnd = { s.frontEnd with
        inputs := s.frontEnd.inputs.set i ⟨(s.frontEnd.inputs.get i).raw, (s.frontEnd.inputs.get i).selected,
          (s.frontEnd.inputs.get i).selected, none⟩ } ∧ v.filtered i = (s.frontEnd.inputs.get i).selected ∧
      sameContents s v ∧ v.supply = s.supply ∧ v.resetSince = s.resetSince ∧ v.pending = s.pending ∧
      v.armsAgree ∧ v.idle = s.idle := by
    have hfil := s.filterSettled_filtered i e
    subst hv
    exact ⟨rfl, rfl, rfl, rfl, rfl, rfl, rfl, rfl, rfl, hfil, sameContents_refl s, rfl, rfl, rfl, hm.armed hc, rfl⟩
  obtain ⟨heng, hseq, harb, hmon, hout, hnow, hports, hstep, hfront, hfil, hcontents, hsupply, hreset, hpend, hag,
    hidle⟩ := hsame
  have hch (d : Channel) : v.channel d = s.channel d := by unfold State.channel; rw [hmon]
  have htaken := v.levelTaken_spec i (by
    rw [hfil]
    simp only [hch]
    exact hno)
  change exec (.filteredLevelChange i) s = .next ((s.reach (e + s.settings.inputFilter)).settle (i == .brakeAirSwitch)
    (v.levelTaken i)) at hexec
  generalize v.levelTaken i = w at hexec htaken
  have hpres : (s.reach (e + s.settings.inputFilter)).presented = w.presented :=
    (State.presented_of_arbiter (htaken.arbiter.trans harb)).symm
  have hsettle := State.settle_of_standing (s.reach (e + s.settings.inputFilter)) (i == .brakeAirSwitch) (s := w)
    fun _ => htaken.agrees hag
  have hruns : v.runs = s.runs := by unfold State.runs; rw [heng]
  have hjudge : (i = .brakeAirSwitch ∧ s.engine.state = some .laidUp) ∨
      (if (i == Input.brakeAirSwitch) = true ∨ (s.reach (e + s.settings.inputFilter)).presented ≠ w.presented
        then w.judgeWake else w) = w := by
    by_cases hb : i = .brakeAirSwitch
    · by_cases hst : s.engine.state = some .laidUp
      · exact .inl ⟨hb, hst⟩
      · right
        rw [State.judgeWake_of_not_laidUp, ite_self]
        rw [htaken.engine_stands (by simp [hb]), heng]
        exact hst
    · right
      rw [if_neg]
      rintro (k | k)
      · exact hb (by simpa using k)
      · exact k hpres
  have hd : Driven w (if (i == Input.brakeAirSwitch) = true ∨
      (s.reach (e + s.settings.inputFilter)).presented ≠ w.presented then w.judgeWake else w) := by
    split
    · exact w.judgeWake_driven
    · exact Driven.refl w
  rw [hsettle] at hexec
  have hwake : i = .brakeAirSwitch → (if (i == Input.brakeAirSwitch) = true ∨
      (s.reach (e + s.settings.inputFilter)).presented ≠ w.presented then w.judgeWake else w) = w.judgeWake := fun k =>
    if_pos (.inl (by rw [k]; rfl))
  generalize (if (i == Input.brakeAirSwitch) = true ∨ (s.reach (e + s.settings.inputFilter)).presented ≠ w.presented
    then w.judgeWake else w) = x at hexec hjudge hd hwake
  have hfr : Frame v ((s.reach (e + s.settings.inputFilter)).close x) :=
    htaken.frame.trans (hd.frame.trans (State.close_frame _ _))
  have hstays (hst : s.engine.state ≠ some .laidUp ∨ i ≠ .brakeAirSwitch) : x = w :=
    hjudge.resolve_left fun k => hst.elim (fun h => h k.2) fun h => h k.1
  refine ⟨_, hexec, hfr.now.trans hnow, hfr.frontEnd.trans hfront, fun c hi ha => ?listed, fun hst => ?engine, ?trips, ?arbiter,
    hfr.ports.trans hports, fun hst hb => ?wake, fun hst hb => ?asleep, fun c hi hu => ?unarmed⟩
  case listed =>
    rw [State.close_conditions, mem_inChannelOrder, hd.conditions, htaken.listed c hi (by rw [hch]; exact ha), hfil]
  case engine =>
    rw [State.close_engine, State.close_sequencer, hstays (.inl hst), htaken.engine, htaken.sequencer, hfil, heng, hruns]
    refine ⟨?_, hseq⟩
    by_cases hi : i = .isolateSwitch
    · subst hi
      rfl
    · simp [hi]
  case trips =>
    rw [State.close_trips, hd.trips, htaken.trips, hmon]
  case arbiter =>
    rw [State.close_arbiter, hd.arbiter, htaken.arbiter, harb]
  case wake =>
    have hweng : w.engine = s.engine := (htaken.engine_stands (by simp [hb])).trans heng
    have hcont := htaken.contactors (by rw [heng]; exact hst)
    rw [sameContactors, hout] at hcont
    rw [hwake hb]
    exact State.wakeJudged_close _ (by rw [hweng, hst]) hweng (htaken.sequencer.trans hseq) hcont
  case asleep =>
    have hcont := htaken.contactors (by rw [heng]; exact hst)
    rw [sameContactors, hout] at hcont
    have hnot : ¬ (i = .isolateSwitch ∧ v.runs = true) := fun k => by
      rw [hruns] at k
      rcases State.runs_state k.2 with h | h <;>
      · rw [hst] at h
        cases h
    rw [State.close_engine, State.close_sequencer, hstays (.inr hb), htaken.engine_stands hnot, htaken.sequencer, heng]
    exact ⟨rfl, hseq, by rw [State.close_starter]; exact hcont.1, by rw [State.close_prelube]; exact hcont.2.1,
      by rw [State.close_fuelRun]; exact hcont.2.2⟩
  case unarmed =>
    have hb : i ≠ .brakeAirSwitch := fun k => by rw [k] at hi; cases hi
    have hx : x = v := (hstays (.inr hb)).trans (htaken.stands ⟨c, hi, by rw [hch]; exact hu⟩)
    rw [hx] at hfr ⊢
    have hcond : v.monitor.conditions = (s.reach (e + s.settings.inputFilter)).monitor.conditions := by rw [hmon]; rfl
    have hsm := State.close_sameMonitor hcond
    rw [sameMonitor, hmon] at hsm
    refine ⟨⟨⟨rfl, hfr.supply.trans hsupply, hfr.resetSince.trans hreset, rfl, hfr.pending.trans hpend⟩,
      by rw [State.close_engine, heng], by rw [State.close_sequencer, hseq], sameContents_trans hcontents hfr.contents,
      hsm, by rw [State.close_starter, hout], by rw [State.close_prelube, hout], by rw [State.close_fuelRun, hout]⟩,
      fun hs => ?_⟩
    have htn : v.targetNotch = s.targetNotch := State.targetNotch_of_same (by rw [heng]) harb (by rw [hmon])
    rw [State.close_monitor_self (before := s.reach (e + s.settings.inputFilter)) (v := v) (fun d hd => by rw [← hcond]; exact hd)
      (by rw [hstep, htn]; exact hs.target) (by rw [hstep, htn]; exact hs.granted)
      (State.speedChanged_eq_false (by rw [heng]; rfl) (by rw [hstep]; rfl) (by rw [heng]; rfl)), hmon]

end Sys2Proof.Machine
end

section
/-! The lookups of an event and what they leave: the fault marks and the report (R149 to R151). -/

namespace Sys2Proof.Machine

section

variable {before s t u w : State} {st : Store} {k : Lookup} {ks ls : List Lookup} {g : SegmentId}

/-! ## The marks -/

theorem Store.faults_markFault (st : Store) (k l : Lookup) : (st.markFault k).faults l = st.faults l := by
  obtain ⟨-, h2, h3⟩ := Store.markFault_segment st k l.item.segment
  unfold Store.faults Store.offset
  rw [h2, h3]

theorem Store.faults_markFaults (st : Store) (ks : List Lookup) (l : Lookup) : (st.markFaults ks).faults l = st.faults l := by
  obtain ⟨-, h2, h3⟩ := Store.markFaults_segment st ks l.item.segment
  unfold Store.faults Store.offset
  rw [h2, h3]

theorem Store.markFault_get (st : Store) (k : Lookup) (g : SegmentId) : (st.markFault k).segments.get g =
    { st.segments.get g with
      faultMark := (st.segments.get g).faultMark || (st.faults k && decide (k.item.segment = g)) } := by
  unfold Store.markFault
  cases hf : st.faults k with
  | false => simp
  | true =>
    by_cases hg : k.item.segment = g
    · subst hg
      simp
    · rw [if_pos rfl]
      dsimp only
      rw [PerSegment.get_set_ne _ _ (Ne.symm hg)]
      simp [hg]

/-- A segment after an event's lookups: its mark set where one of its own faulted (R151). -/
theorem Store.markFaults_get (st : Store) (ks : List Lookup) (g : SegmentId) : (st.markFaults ks).segments.get g =
    { st.segments.get g with
      faultMark := (st.segments.get g).faultMark || ks.any fun k => st.faults k && decide (k.item.segment = g) } := by
  induction ks generalizing st with
  | nil => simp [Store.markFaults]
  | cons k ks ih =>
    show ((st.markFault k).markFaults ks).segments.get g = _
    rw [ih, Store.markFault_get]
    simp only [Store.faults_markFault, List.any_cons, Bool.or_assoc]

/-! ## The lookups of an event -/

/-- The store and the Monitor are those that the lookups `ks` leave of `s` (R151). -/
def LookedUp (s : State) (ks : List Lookup) (t : State) : Prop :=
  t.store = (s.lookedUp ks).store ∧ t.monitor = (s.lookedUp ks).monitor

theorem LookedUp.none (hs : t.store = s.store) (hm : t.monitor = s.monitor) : LookedUp s [] t := by
  refine ⟨hs, ?_⟩
  rw [hm]
  unfold State.lookedUp
  simp [State.anyFaults]

theorem LookedUp.trans (h : LookedUp s ks t) (k : LookedUp t ls u) : LookedUp s (ks ++ ls) u := by
  obtain ⟨h1, h2⟩ := h
  obtain ⟨k1, k2⟩ := k
  have hany : t.anyFaults ls = s.anyFaults ls := by
    unfold State.anyFaults
    rw [h1]
    exact congrArg ls.any (funext (Store.faults_markFaults _ _))
  refine ⟨?_, ?_⟩
  · rw [k1]
    show t.store.markFaults ls = s.store.markFaults (ks ++ ls)
    rw [h1]
    exact (List.foldl_append ..).symm
  · rw [k2]
    unfold State.lookedUp
    dsimp only
    rw [hany, h2]
    unfold State.lookedUp State.anyFaults
    dsimp only
    rw [List.any_append, Bool.or_assoc, Bool.and_or_distrib_right]

theorem LookedUp.of_same (h : LookedUp s ks t) (hs : u.store = t.store) (hm : u.monitor = t.monitor) : LookedUp s ks u :=
  ⟨hs.trans h.1, hm.trans h.2⟩

theorem LookedUp.faultMark (h : LookedUp s ks t) (g : SegmentId) : (t.store.segments.get g).faultMark = true ↔
    (s.store.segments.get g).faultMark = true ∨ ∃ k ∈ ks, s.store.faults k = true ∧ k.item.segment = g := by
  rw [h.1]
  show ((s.store.markFaults ks).segments.get g).faultMark = true ↔ _
  rw [Store.markFaults_get]
  simp [List.any_eq_true]

theorem LookedUp.faultReported (h : LookedUp s ks t) : t.monitor.faultReported = true ↔
    s.monitor.faultReported = true ∨ s.monitor.latch = false ∧ ∃ k ∈ ks, s.store.faults k = true := by
  rw [h.2]
  show (s.monitor.faultReported || (s.anyFaults ks && !s.monitor.latch)) = true ↔ _
  simp [State.anyFaults, List.any_eq_true, and_comm]

/-! ## The lookups of the Stepper's part of an event outside RUNNING -/

/-- The lookup of the speed reference of the present state (R85, R95). -/
def State.speedLookups (s : State) : List Lookup :=
  match s.speedNotch with
  | some n => [speedLookup n]
  | none => []

theorem State.formSpeed_lookedUp (s : State) : LookedUp s s.speedLookups s.formSpeed := by
  unfold State.formSpeed State.speedLookups
  dsimp only
  cases s.speedNotch with
  | none => exact .none rfl rfl
  | some n => exact ⟨rfl, rfl⟩

/-- An event that changes the state, outside RUNNING, and lists nothing: only the speed reference is looked up. -/
theorem State.close_lookedUp (hconditions : ∀ c ∈ w.monitor.conditions, c ∈ before.monitor.conditions)
    (hc : w.engine.awaitingChoice = false) (hrun : w.engine.state ≠ some .running)
    (hne : before.engine.state ≠ w.engine.state) : LookedUp w w.formTarget.speedLookups (before.close w) := by
  have hform := State.formTarget_only (State.targetNotch_not_running hrun)
  have hchanged : before.speedChanged w.formTarget = true := by
    rw [hform]
    unfold State.speedChanged
    dsimp only
    rw [decide_eq_true hne]
    rfl
  have hsame : LookedUp w [] w.formTarget := by
    rw [hform]
    exact .none rfl rfl
  have hall : LookedUp w w.formTarget.speedLookups (before.stepperAnnounced w) := by
    unfold State.stepperAnnounced
    rw [hc, if_neg (by decide)]
    dsimp only
    rw [hchanged, if_pos rfl]
    exact (hsame.trans w.formTarget.formSpeed_lookedUp).of_same rfl rfl
  unfold State.close
  rw [State.orderOnsets_eq_self hconditions]
  exact hall.of_same rfl rfl

/-! ## The lookups of a FULL start (R57, R149) -/

theorem State.enterPhase_store (s : State) (p : Phase) : (s.enterPhase p).store = s.store := s.enter_store (.starting p)

theorem State.enterPhase_monitor (s : State) (p : Phase) : (s.enterPhase p).monitor = s.monitor :=
  s.enter_monitor (.starting p)

theorem State.endStart_lookedUp {o : StartOutcome} (h : o.fails = true) : LookedUp s [] (s.endStart o) := by
  have hclose : (s.closeStart o).store = s.store ∧ (s.closeStart o).monitor = s.monitor := by
    unfold State.closeStart
    dsimp only
    split <;> exact ⟨rfl, rfl⟩
  rw [State.endStart_of_fails h]
  unfold State.failedStart
  split
  · exact .none ((State.enter_store _ .rundown).trans hclose.1) ((State.enter_monitor _ .rundown).trans hclose.2)
  · exact .none ((State.enter_store _ .stopped).trans hclose.1) ((State.enter_monitor _ .stopped).trans hclose.2)

theorem State.prelubeCheck_lookedUp (s : State) : LookedUp s [] s.prelubeCheck := by
  unfold State.prelubeCheck
  split
  · exact .none (State.enterPhase_store _ _) (State.enterPhase_monitor _ _)
  · exact State.endStart_lookedUp rfl

/-- The lookup of PRELUBE_TIME for the present coolant band. -/
def State.prelubeLookups (s : State) : List Lookup := [prelubeLookup (coolantBand (s.reading .coolant))]

theorem State.timePrelube_lookedUp (s : State) : LookedUp s s.prelubeLookups s.timePrelube := by
  have hbase : LookedUp s s.prelubeLookups (s.lookedUp s.prelubeLookups) := ⟨rfl, rfl⟩
  unfold State.timePrelube
  dsimp only
  split_ifs
  · have h := (hbase.of_same (u := { s.lookedUp s.prelubeLookups with
        sequencer := { (s.lookedUp s.prelubeLookups).sequencer with
          timer := some (s.now + s.prelubeDuration * 1000) } }) rfl rfl).trans (State.prelubeCheck_lookedUp _)
    rw [List.append_nil] at h
    exact h
  · exact hbase.of_same rfl rfl
  · exact hbase

theorem State.beginFull_lookedUp (s : State) (who : Initiator) : LookedUp s s.prelubeLookups (s.beginFull who) := by
  have hopen : LookedUp s [] (s.openStart who .full) := .none (State.enterPhase_store _ _) (State.enterPhase_monitor _ _)
  have hread : (s.openStart who .full).prelubeLookups = s.prelubeLookups := by
    have hf := State.openStart_frame who .full (Frame.refl s)
    unfold State.prelubeLookups State.reading
    rw [hf.frontEnd]
  have h := hopen.trans (s.openStart who .full).timePrelube_lookedUp
  rw [hread, List.nil_append] at h
  exact h

end

end Sys2Proof.Machine
end

section
/-! SET of a setting: the checks in order, the reader's part, and the judgement at a wake enable's write (O24). -/

namespace Sys2Proof.Machine

section

variable {before s t u w : State} {k : Setting} {l m : Link} {n v : Nat} {number value : Word16}

/-! ## The checks (R156) -/

theorem Setting.ofNum_eq_none (h : n = 0 ∨ 30 < n) : Setting.ofNum n = none := by
  unfold Setting.ofNum
  split
  case h_31 => rfl
  all_goals omega

theorem Setting.outsideRange_iff (hk : Setting.ofNum n = some k) : outsideRange n v ↔ k.inRange v = false := by
  unfold Setting.ofNum at hk
  split at hk
  case h_31 => cases hk
  all_goals
    cases hk
    simp only [outsideRange, settingBounds, Setting.inRange, decide_eq_false_iff_not]
    simp only [Nat.reduceSub, List.getD_cons_succ, List.getD_cons_zero]
    omega

theorem State.rankTaken_iff : s.rankTaken m v = true ↔ ∃ m2 : Link, m2 ≠ m ∧ s.settings.get (rankSetting m2) = v := by
  simp [State.rankTaken, mem_everyLink]

theorem State.doSetSetting_outside (hk : Setting.ofNum number.toNat = some k) (h : outsideRange number.toNat value.toNat) :
    s.doSetSetting l number value = .error .badValue := by
  unfold State.doSetSetting
  rw [hk]
  dsimp only
  rw [if_pos ((Setting.outsideRange_iff hk).mp h)]

theorem Setting.inRange_of_not_outside (hk : Setting.ofNum n = some k) (h : ¬ outsideRange n v) : k.inRange v = true := by
  rw [Setting.outsideRange_iff hk] at h
  simpa using h

theorem State.doSetSetting_locked (hk : Setting.ofNum number.toNat = some k) (h : ¬ outsideRange number.toNat value.toNat)
    (ha : s.writeAdmitted l k.group = false) : s.doSetSetting l number value = .error .groupLocked := by
  unfold State.doSetSetting
  rw [hk]
  dsimp only
  rw [if_neg (by simp [Setting.inRange_of_not_outside hk h]), if_pos ha]

theorem State.doSetSetting_conflict (hk : Setting.ofNum number.toNat = some k) (h : ¬ outsideRange number.toNat value.toNat)
    (ha : s.writeAdmitted l k.group = true) (hr : k.rankOf = some m) (ht : s.rankTaken m value.toNat = true) :
    s.doSetSetting l number value = .error .rankConflict := by
  unfold State.doSetSetting
  rw [hk]
  dsimp only
  rw [if_neg (by simp [Setting.inRange_of_not_outside hk h]), if_neg (by simp [ha]), hr]
  dsimp only
  rw [if_pos ht]

/-! ## The reader's part (R21, R157, R169) -/

theorem State.writeSetting_plain (hs : k.silenceOf = none) (hi : k.inputOf = none) (s : State) (v : Nat) :
    s.writeSetting k v = { s with store := { s.store with settings := s.settings.set k v } } := by
  unfold State.writeSetting
  rw [hs, hi]
  rfl

theorem Setting.silenceSetting_of (hs : k.silenceOf = some m) : silenceSetting m = k := by
  cases k <;> cases hs <;> rfl

theorem Setting.levelSetting_of {i : Input} (hi : k.inputOf = some i) : levelSetting i = k ∧ k.silenceOf = none := by
  cases k <;> cases hi <;> exact ⟨rfl, rfl⟩

theorem State.writeSetting_silence (hs : k.silenceOf = some m) (s : State) (v : Nat) (hu : u =
    { s with store := { s.store with settings := s.settings.set k v } }) : s.writeSetting k v =
      if v < s.silenceOf m ∧ (s.ports.get m).silent = false then
        u.withPort m { s.ports.get m with silent := true, lapseWaiting := true } else u := by
  have hlimit : u.silenceLimit m = v := by
    show u.settings.get (silenceSetting m) = v
    rw [Setting.silenceSetting_of hs, hu]
    exact Settings.get_set_self _ _ _
  unfold State.writeSetting
  rw [hs]
  show (s.withSettings (s.settings.set k v)).reportLapse m = _
  rw [show s.withSettings (s.settings.set k v) = u from hu.symm]
  unfold State.reportLapse
  rw [hlimit, hu]
  rfl

theorem State.writeSetting_input {i : Input} (hi : k.inputOf = some i) (s : State) (v : Nat) (hu : u =
    { s with store := { s.store with settings := s.settings.set k v } }) : s.writeSetting k v =
      u.withInput i ⟨(s.frontEnd.inputs.get i).raw, selectedLevel v (s.frontEnd.inputs.get i).raw, s.filtered i,
        if selectedLevel v (s.frontEnd.inputs.get i).raw = s.filtered i then none else some s.now⟩ := by
  obtain ⟨hlevel, hs⟩ := Setting.levelSetting_of hi
  have hsel : u.selectedAt i (s.frontEnd.inputs.get i).raw = selectedLevel v (s.frontEnd.inputs.get i).raw := by
    unfold State.selectedAt
    rw [hlevel, hu]
    exact congrArg (fun x => selectedLevel x _) (Settings.get_set_self _ _ _)
  unfold State.writeSetting
  rw [hs, hi]
  dsimp only
  rw [show s.withSettings (s.settings.set k v) = u from hu.symm]
  have hf : u.frontEnd = s.frontEnd := by rw [hu]
  have hn : u.now = s.now := by rw [hu]
  rw [hf, hsel, hn]
  rfl

/-- A written setting moves no level that the idle conditions read. -/
theorem State.writeSetting_idleConditions (s : State) (k : Setting) (v : Nat) :
    (s.writeSetting k v).idleConditions = s.idleConditions := by
  obtain ⟨heng, -, -, hmon, -, harb, hstep, -⟩ := s.writeSetting_blocks k v
  have hread (c : Analog) : (s.writeSetting k v).reading c = s.reading c := by
    unfold State.writeSetting State.reportLapse
    cases k.silenceOf with
    | some m => dsimp only; split <;> rfl
    | none => cases k.inputOf <;> rfl
  have hfil (j : Input) : (s.writeSetting k v).filtered j = s.filtered j := by
    cases hi : k.inputOf with
    | none =>
      unfold State.writeSetting State.reportLapse
      rw [hi]
      cases k.silenceOf with
      | some m => dsimp only; split <;> rfl
      | none => rfl
    | some i =>
      rw [State.writeSetting_input hi s v rfl]
      show ((s.frontEnd.inputs.set i _).get j).filtered = _
      by_cases hj : j = i
      · subst hj
        rw [PerInput.get_set_self]
      · rw [PerInput.get_set_ne _ _ hj]
        rfl
  exact State.idleConditions_of_same (by rw [heng]) (by rw [hstep]) harb (by rw [hmon]) hread hfil

theorem MonitorSound.writeSetting (h : MonitorSound s) (k : Setting) (v : Nat) : MonitorSound (s.writeSetting k v) := by
  obtain ⟨heng, hout, -, hmon, -, -, -, -⟩ := s.writeSetting_blocks k v
  exact h.of_same heng (by rw [sameMonitor, hmon]) (by rw [hout])

theorem StepperSound.writeSetting (h : StepperSound s) (k : Setting) (v : Nat) : StepperSound (s.writeSetting k v) := by
  obtain ⟨heng, hout, -, hmon, -, harb, hstep, -⟩ := s.writeSetting_blocks k v
  exact h.of_same heng harb (by rw [hmon]) (by rw [hstep]) (by rw [hout]) (by rw [hout]) (s.writeSetting_looks k v)

theorem IdleSound.writeSetting (h : IdleSound s) (k : Setting) (v : Nat) : IdleSound (s.writeSetting k v) := by
  obtain ⟨-, -, -, -, -, -, -, hidle⟩ := s.writeSetting_blocks k v
  exact h.of_same (by rw [hidle]) (s.writeSetting_idleConditions k v)

/-! ## The lookups of a judgement that is closed -/

/-- The marks and the report of a wake: its PRELUBE_TIME, and idle's speed where it enters CRANK at once (R57, R84,
R149, R151). -/
theorem State.wakeLookups_close (hst : w.engine.state = some .laidUp) (hc : w.engine.awaitingChoice = false)
    (hm : MonitorSound w) (hs : StepperSound w) (hi : IdleSound w) (he : before.engine = w.engine)
    (hstep : before.stepper = w.stepper) (ha : before.arbiter = w.arbiter) (hmon : before.monitor = w.monitor) :
    wakeLookups w (before.close w.judgeWake) := by
  have hdue := State.wakeDue_close before hst
  have hd := w.judgeWake_driven
  rcases w.judgeWake_cases hst with ⟨hcause, hw⟩ | ⟨hcause, hw⟩
  · have hbegun := State.beginFull_begun (s := w) .idleReduction hcause.2.2
    have hto : w.judgeWake.engine.state = some (.starting .crank) ∨ w.judgeWake.engine.state = some (.starting .prelube) ∨
        w.judgeWake.engine.state = some .stopped := by
      rw [hw]
      rcases Nat.eq_zero_or_pos w.prelubeDuration with hz | hp
      · rcases lt_or_ge (w.reading .lube) 30 with hlt | hge
        · exact .inr (.inr (by rw [(hbegun.unpressed hz hlt).1]))
        · exact .inl (by rw [(hbegun.cranked hz hge).1])
      · exact .inr (.inl (by rw [(hbegun.timed hp).1]))
    have hfull : LookedUp w w.prelubeLookups w.judgeWake := by
      rw [hw]
      exact w.beginFull_lookedUp _
    have hform := State.formTarget_only (s := w.judgeWake)
      (State.targetNotch_not_running (by rcases hto with h | h | h <;> rw [h] <;> decide))
    have hclose := State.close_lookedUp (before := before) (w := w.judgeWake)
      (fun c hcm => by rw [hmon, ← hd.conditions]; exact hcm) (by rw [hd.awaiting, hc])
      (by rcases hto with h | h | h <;> rw [h] <;> decide)
      (by rw [he, hst]; rcases hto with h | h | h <;> rw [h] <;> decide)
    have hspeed : w.judgeWake.formTarget.speedLookups =
        if w.judgeWake.engine.state = some (.starting .crank) then [speedLookup 0] else [] := by
      unfold State.speedLookups State.speedNotch
      rw [hform]
      rcases hto with h | h | h <;> rw [h] <;> rfl
    have hlooked := hfull.trans hclose
    rw [hspeed] at hlooked
    have hmem (p : Lookup → Prop) : (∃ q ∈ w.prelubeLookups ++
        (if w.judgeWake.engine.state = some (.starting .crank) then [speedLookup 0] else []), p q) ↔
        p (prelubeLookup (coolantBand (w.reading .coolant))) ∨
          w.judgeWake.engine.state = some (.starting .crank) ∧ p (speedLookup 0) := by
      unfold State.prelubeLookups
      by_cases hcr : w.judgeWake.engine.state = some (.starting .crank)
      · rw [if_pos hcr]
        simp [hcr]
      · rw [if_neg hcr]
        simp [hcr]
    have hsegPrelube : (prelubeLookup (coolantBand (w.reading .coolant))).item.segment = .prelubeTime := rfl
    have hsegSpeed : (speedLookup 0).item.segment = .notch := rfl
    obtain ⟨-, -, hcontents⟩ := (hd.frame.trans (before.close_frame w.judgeWake)).contents
    refine ⟨fun g => ⟨(hcontents g).1, (hcontents g).2.1, (hcontents g).2.2, ?_⟩, ?_⟩
    · rw [hlooked.faultMark, hmem, hsegPrelube, hsegSpeed, State.close_engine]
      simp only [hdue, hcause, and_self, true_and, eq_comm (a := g)]
      tauto
    · rw [hlooked.faultReported, hmem, State.close_engine]
      simp only [hdue, hcause, and_self, true_and]
  · rw [hw] at hdue ⊢
    rw [State.close_sound hc hm hs hi he hstep ha hmon] at hdue ⊢
    exact ⟨fun g => ⟨rfl, rfl, rfl, by simp [hdue, hcause]⟩, by simp [hdue, hcause]⟩

/-! ## The commit of a SET of a setting -/

theorem Setting.isWakeEnable_plain (h : k.isWakeEnable = true) : k.silenceOf = none ∧ k.inputOf = none := by
  cases k <;> cases h <;> exact ⟨rfl, rfl⟩

theorem State.doAction_setSetting (s : State) (l : Link) (number value : Word16) :
    s.doAction l 0 (.set 0#8 number value) = s.doSetSetting l number value := rfl

theorem State.exec_setSetting (ho : s.offers l [.set 0#8 number value] = true) :
    exec (.setSetting l number value []) s = .next (s.takeOrder l [.set 0#8 number value]) :=
  exec_orderCommand_of_offers (a := .set 0#8 number value) ho

theorem State.setSetting_refused {c : RefusalCode} (ho : s.offers l [.set 0#8 number value] = true)
    (h : s.doSetSetting l number value = .error c) :
    exec (.setSetting l number value []) s = .next (s.answer l (s.refusalBody c 1)) :=
  (State.exec_setSetting ho).trans (congrArg Host.Outcome.next (State.takeOrder_one_refused h))

/-- The accepted write's commit: the wake watch judges where a wake enable was written in LAID_UP, and else the close over
the sound state changes nothing. -/
theorem State.setSetting_commit (hk : Setting.ofNum number.toNat = some k) (hc : s.engine.awaitingChoice = false)
    (hm : MonitorSound s) (hs : StepperSound s) (hi : IdleSound s) :
    s.commit [.set 0#8 number value] (s.writeSetting k v) =
        s.close (if k.isWakeEnable = true then (s.writeSetting k v).judgeWake else s.writeSetting k v) ∧
      (k.isWakeEnable = false ∨ s.engine.state ≠ some .laidUp →
        s.commit [.set 0#8 number value] (s.writeSetting k v) = s.writeSetting k v) := by
  obtain ⟨heng, -, -, hmon, -, harb, hstep, -⟩ := s.writeSetting_blocks k v
  have hjudged : [Sys2Proof.Action.set 0#8 number value].any Action.writesWake = k.isWakeEnable := by
    simp [Action.writesWake, hk]
  have hpres : s.presented = (s.writeSetting k v).presented := (State.presented_of_arbiter harb).symm
  have hcommit : s.commit [.set 0#8 number value] (s.writeSetting k v) =
      s.close (if k.isWakeEnable = true then (s.writeSetting k v).judgeWake else s.writeSetting k v) := by
    show s.settle ([Sys2Proof.Action.set 0#8 number value].any Action.writesWake) (s.writeSetting k v) = _
    rw [hjudged, State.settle_of_standing s _ fun _ => hm.standing (by rw [heng]) hc hmon]
    simp [hpres]
  refine ⟨hcommit, fun h => ?_⟩
  have hstand : (if k.isWakeEnable = true then (s.writeSetting k v).judgeWake else s.writeSetting k v) =
      s.writeSetting k v := by
    rcases h with h | h
    · rw [h]
      rfl
    · rw [State.judgeWake_of_not_laidUp (by rw [heng]; exact h), ite_self]
  rw [hcommit, hstand]
  exact State.close_sound (by rw [heng, hc]) (hm.writeSetting k v) (hs.writeSetting k v) (hi.writeSetting k v) heng.symm
    hstep.symm harb.symm hmon.symm

end

/-- Settles O24: the checks of R156 one after another; the accepted write is its reader's part, closed over a sound
state, and the wake watch's judgement besides at a wake enable's write in LAID_UP. -/
theorem settingIsWritten : Obligations.SettingIsWritten := by
  intro l number value s ho
  have hc := (State.offers_chosen ho).2
  refine ⟨fun hn => ?unknown, fun h1 h30 hout => ?outside, fun k hk hout ha => ?locked,
    fun k m m2 hk hout ha hr hne ht => ?conflict, fun k u hk hout ha hfree hm hs hi hu => ?accepted⟩
  case unknown =>
    refine State.setSetting_refused ho ?_
    unfold State.doSetSetting
    rw [Setting.ofNum_eq_none hn]
  case outside =>
    have hk : ∃ k, Setting.ofNum number.toNat = some k := by
      generalize number.toNat = n at h1 h30
      interval_cases n <;> exact ⟨_, rfl⟩
    obtain ⟨k, hk⟩ := hk
    exact State.setSetting_refused ho (State.doSetSetting_outside hk hout)
  case locked =>
    exact State.setSetting_refused ho (State.doSetSetting_locked hk hout ha)
  case conflict =>
    exact State.setSetting_refused ho (State.doSetSetting_conflict hk hout ha hr (State.rankTaken_iff.mpr ⟨m2, hne, ht⟩))
  case accepted =>
    have hact : s.doAction l 0 (.set 0#8 number value) = .ok (s.writeSetting k value.toNat) := by
      rw [State.doAction_setSetting, State.doSetSetting_of_checked hk (Setting.inRange_of_not_outside hk hout) fun m hr => ?_,
        if_pos ha]
      rw [← Bool.not_eq_true, State.rankTaken_iff]
      rintro ⟨m2, hne, ht⟩
      exact hfree m m2 hr hne ht
    obtain ⟨hcommit, hplain⟩ := State.setSetting_commit (v := value.toNat) (value := value) hk hc hm hs hi
    obtain ⟨heng, hout', hseq, hmon, -, harb, hstep, -⟩ := s.writeSetting_blocks k value.toNat
    have hstore := s.writeSetting_store k value.toNat
    refine ⟨_, State.exec_setSetting ho, ?_⟩
    rw [State.takeOrder_one_accepted hact (show 11 ≠ 1 by decide) (show 11 ≠ 10 by decide)]
    have hd : Driven (s.writeSetting k value.toNat) (if k.isWakeEnable = true then
        (s.writeSetting k value.toNat).judgeWake else s.writeSetting k value.toNat) := by
      split
      · exact State.judgeWake_driven _
      · exact Driven.refl _
    have hfr : Frame (s.writeSetting k value.toNat) (s.commit [.set 0#8 number value] (s.writeSetting k value.toNat)) := by
      rw [hcommit]
      exact hd.frame.trans (s.close_frame _)
    have hset : (s.commit [.set 0#8 number value] (s.writeSetting k value.toNat)).settings =
        s.settings.set k value.toNat := by
      refine hfr.contents.2.1.trans ?_
      rw [hstore]
    refine ⟨?_, fun j hj => ?_, ?_, fun hw h1 h2 => ?_, fun m hsil => ?_, fun i hinp => ?_, fun hw hst => ?_⟩
    · exact (congrArg (fun x => x.get k) hset).trans (Settings.get_set_self _ _ _)
    · exact (congrArg (fun x => x.get j) hset).trans (Settings.get_set_ne _ _ hj)
    · refine hfr.contents.1.trans ?_
      rw [hstore]
    · rw [hplain hw, State.writeSetting_plain h1 h2, ← hu]
      rfl
    · have hw : k.isWakeEnable = false := by
        cases k <;> first | rfl | cases hsil
      rw [hplain (.inl hw), State.writeSetting_silence hsil s value.toNat hu]
      rfl
    · have hw : k.isWakeEnable = false := by
        cases k <;> first | rfl | cases hinp
      rw [hplain (.inl hw), State.writeSetting_input hinp s value.toNat hu]
      rfl
    · obtain ⟨h1, h2⟩ := Setting.isWakeEnable_plain hw
      rw [if_pos hw] at hcommit
      rw [hcommit] at hfr ⊢
      have hlooks := State.wakeLookups_close (w := s.writeSetting k value.toNat) (before := s) (by rw [heng, hst])
        (by rw [heng, hc]) (hm.writeSetting k _) (hs.writeSetting k _) (hi.writeSetting k _) heng.symm hstep.symm harb.symm
        hmon.symm
      have hjudged := State.wakeJudged_close (u := s) (w := s.writeSetting k value.toNat) s (by rw [heng, hst]) heng hseq
        ⟨by rw [hout'], by rw [hout'], by rw [hout']⟩
      have hdw := (s.writeSetting k value.toNat).judgeWake_driven
      have hmonitor : sameMonitor s (s.close (s.writeSetting k value.toNat).judgeWake) := by
        have hsm := State.close_sameMonitor (before := s) (s := (s.writeSetting k value.toNat).judgeWake)
          (by rw [hdw.conditions, hmon])
        have hx : sameMonitor s (s.writeSetting k value.toNat).judgeWake := by
          have := hdw.monitor
          rwa [sameMonitor, hmon] at this
        rw [sameMonitor, hx] at hsm
        exact hsm
      have hcopy : s.writeSetting k value.toNat = { s with store := { s.store with settings := s.settings.set k value.toNat } } :=
        State.writeSetting_plain h1 h2 s value.toNat
      have hframe : Frame { s with store := { s.store with settings := s.settings.set k value.toNat } }
          (s.close (s.writeSetting k value.toNat).judgeWake) := by
        rw [← hcopy]
        exact hfr
      have hports : (s.close (s.writeSetting k value.toNat).judgeWake).ports = s.ports := hframe.ports
      have hworld : sameWorld s (s.close (s.writeSetting k value.toNat).judgeWake) :=
        ⟨hframe.now, hframe.supply, hframe.resetSince, hframe.frontEnd, hframe.pending⟩
      have hmarks : wakeLookups s (s.close (s.writeSetting k value.toNat).judgeWake) := by
        rw [hcopy] at hlooks ⊢
        exact hlooks
      exact ⟨hjudged, hmarks, by rw [State.answer_arbiter, State.close_arbiter, hdw.arbiter, harb], hworld, hmonitor,
        answersOnly_answer_accepted l 1 hports⟩

end Sys2Proof.Machine
end

section
/-! Writes to the SCHEDULE group: SET of a word and SEGMENT, alone and with a start in their order (O25). -/

namespace Sys2Proof.Machine

section

variable {before s t u v w : State} {st : Store} {k : Lookup} {l : Link} {g : SegmentId} {cls id stride : Byte}
  {number value base limit : Word16}

/-! ## The close of a write -/

/-- The close of an event that moves nothing the Stepper follows: ALERT and the idle timer alone. -/
theorem State.close_unmoved (hconditions : ∀ c ∈ v.monitor.conditions, c ∈ before.monitor.conditions)
    (hchosen : v.engine.awaitingChoice = false) (htarget : v.stepper.target = v.targetNotch)
    (hgranted : v.stepper.granted ≤ v.targetNotch) (hspeed : before.speedChanged v = false)
    (hgovernor : v.outputs.governor = v.stepper.speedRef) (hexcitation : v.outputs.excitation = v.stepper.loadRef) :
    before.close v = before.judgeIdle v.setAlert := by
  unfold State.close
  rw [State.orderOnsets_eq_self hconditions,
    State.stepperAnnounced_eq_self hchosen htarget hgranted hspeed hgovernor hexcitation]

/-- The Stepper of a standing engine: nothing granted. -/
theorem StepperSound.standing (h : StepperSound s) (hst : s.engine.state = some .stopped) :
    s.stepper.target = 0 ∧ s.stepper.granted ≤ 0 := by
  have hz : s.targetNotch = 0 := State.targetNotch_not_running (by rw [hst]; decide)
  exact ⟨h.target.trans hz, h.granted.trans_eq hz⟩

/-- The close of an event of a standing engine that leaves the Stepper and its loops. -/
theorem State.close_standing (hs : StepperSound s) (hst : s.engine.state = some .stopped)
    (hc : s.engine.awaitingChoice = false) (hv : v.engine.state = some .stopped) (hvc : v.engine.awaitingChoice = false)
    (hstep : v.stepper = s.stepper) (hg : v.outputs.governor = s.outputs.governor)
    (hx : v.outputs.excitation = s.outputs.excitation) (hm : ∀ c ∈ v.monitor.conditions, c ∈ s.monitor.conditions) :
    s.close v = s.judgeIdle v.setAlert := by
  obtain ⟨ht, hgr⟩ := hs.standing hst
  have hz : v.targetNotch = 0 := State.targetNotch_not_running (by rw [hv]; decide)
  exact State.close_unmoved hm hvc (by rw [hstep, ht, hz]) (by rw [hstep, hz]; exact hgr)
    (State.speedChanged_eq_false (by rw [hv, hst]) (by rw [hstep]) (by rw [hvc, hc])) (by rw [hg, hstep]; exact hs.governor)
    (by rw [hx, hstep]; exact hs.excitation)

/-- A write of words or segments, with the latch and the marks cleared (R120, R151 to R153). -/
def State.scheduleWritten (s : State) (st : Store) : State := ({ s with store := st } : State).clearScheduleFault

theorem State.scheduleWritten_conditions (s : State) (st : Store) : (s.scheduleWritten st).monitor.conditions =
    s.monitor.conditions.filter (· != .scheduleFault) := rfl

theorem State.scheduleWritten_armed (s : State) (st : Store) (c : Channel) :
    ((s.scheduleWritten st).channel c).armed = (s.channel c).armed :=
  ({ s with store := st } : State).clearCondition_armed .scheduleFault c

theorem State.scheduleWritten_segment (s : State) (st : Store) (g : SegmentId) :
    (s.scheduleWritten st).store.segments.get g = { st.segments.get g with faultMark := false } := st.clearMarks_get g

theorem State.scheduleWritten_mem {c : Channel} (h : c ∈ (s.scheduleWritten st).monitor.conditions) :
    c ∈ s.monitor.conditions := by
  rw [State.scheduleWritten_conditions] at h
  exact List.mem_of_mem_filter h

/-- What a write to the SCHEDULE group leaves, said field by field. -/
structure ScheduleCleared (u : State) (st : Store) (v : State) : Prop where
  engine : v.engine = u.engine
  arbiter : v.arbiter = u.arbiter
  sequencer : v.sequencer = u.sequencer
  outputs : v.outputs = u.outputs
  stepper : v.stepper = u.stepper
  latch : v.monitor.latch = false
  faultReported : v.monitor.faultReported = false
  world : sameWorld u v
  ports : v.ports = u.ports
  store : v.store = st.clearMarks
  conditions : ∀ c ∈ v.monitor.conditions, c ∈ u.monitor.conditions
  armed : ∀ c : Channel, (v.channel c).armed = (u.channel c).armed

theorem State.scheduleWritten_cleared (u : State) (st : Store) : ScheduleCleared u st (u.scheduleWritten st) :=
  ⟨rfl, rfl, rfl, rfl, rfl, rfl, rfl, ⟨rfl, rfl, rfl, rfl, rfl⟩, rfl, rfl, fun _ h => State.scheduleWritten_mem h,
    u.scheduleWritten_armed st⟩

/-- The commit of a write alone. -/
theorem State.settle_scheduleWritten (hst : s.engine.state = some .stopped) (hc : s.engine.awaitingChoice = false)
    (hm : MonitorSound s) (hs : StepperSound s) (st : Store) :
    s.settle false (s.scheduleWritten st) = s.judgeIdle (s.scheduleWritten st).setAlert := by
  have hag : (s.scheduleWritten st).armsAgree := fun c => by
    rw [State.scheduleWritten_armed]
    exact hm.armed hc c
  rw [State.settle_of_standing s false fun _ => hag, if_neg]
  · exact State.close_standing hs hst hc hst hc rfl rfl rfl fun c h => State.scheduleWritten_mem h
  · rintro (h | h)
    · cases h
    · exact h rfl

/-- ALERT and the idle timer besides, nothing else. -/
structure OnlyClosed (v t : State) : Prop where
  world : sameWorld v t
  engine : t.engine = v.engine
  sequencer : t.sequencer = v.sequencer
  arbiter : t.arbiter = v.arbiter
  stepper : t.stepper = v.stepper
  store : t.store = v.store
  monitor : t.monitor = v.monitor
  contactors : sameContactors v t
  ports : t.ports = v.ports

theorem State.judgeIdle_closed (before v : State) : OnlyClosed v (before.judgeIdle v.setAlert) :=
  ⟨⟨rfl, rfl, rfl, rfl, rfl⟩, rfl, rfl, rfl, rfl, rfl, rfl, ⟨rfl, rfl, rfl⟩, rfl⟩

/-- What a SET of a word or a SEGMENT alone leaves (R120, R151). -/
theorem State.scheduleWritten_spec (hst : s.engine.state = some .stopped) (hc : s.engine.awaitingChoice = false)
    (hm : MonitorSound s) (hs : StepperSound s) (hset : st.settings = s.store.settings) :
    ScheduleWritten s ((s.settle false (s.scheduleWritten st)).answer .shop
      (acceptedBody (s.settle false (s.scheduleWritten st)) 1)) .shop := by
  rw [State.settle_scheduleWritten hst hc hm hs st]
  have hclosed := s.judgeIdle_closed (s.scheduleWritten st)
  have hsettings : (s.scheduleWritten st).settings = s.settings := hset
  have hmarks (g : SegmentId) : ((s.scheduleWritten st).store.segments.get g).faultMark = false :=
    congrArg SegmentEntry.faultMark (s.scheduleWritten_segment st g)
  generalize s.judgeIdle (s.scheduleWritten st).setAlert = c at hclosed ⊢
  obtain ⟨hworld, heng, hseq, harb, hstep, hstore, hmon, hcont, hports⟩ := hclosed
  exact
    { world := hworld
      engine := heng
      sequencer := hseq
      arbiter := harb
      stepper := hstep
      settings := (congrArg Store.settings hstore).trans hsettings
      contactors := hcont
      latch := ⟨congrArg Monitor.latch hmon, congrArg Monitor.faultReported hmon⟩
      cleared := congrArg Monitor.conditions hmon
      trips := (congrArg Monitor.trips hmon : c.monitor.trips = (s.scheduleWritten st).monitor.trips)
      marks := fun g => (congrArg (fun x => (x.segments.get g).faultMark) hstore).trans (hmarks g)
      reply := answersOnly_answer_accepted .shop 1 hports }

theorem State.settle_scheduleWritten_store (hst : s.engine.state = some .stopped) (hc : s.engine.awaitingChoice = false)
    (hm : MonitorSound s) (hs : StepperSound s) :
    (s.settle false (s.scheduleWritten st)).store = st.clearMarks := by
  rw [State.settle_scheduleWritten hst hc hm hs st]
  exact (s.judgeIdle_closed _).store

/-! ## The checks (R152, R153) -/

theorem writeAdmitted_of_shop (hh : s.holder = some .shop) (hst : s.engine.state = some .stopped) :
    s.writeAdmitted .shop .schedule = true := (s.writeAdmitted_iff _ _).mpr ⟨rfl, hh, hst⟩

theorem State.doSetWord_accepted (hh : s.holder = some .shop) (hst : s.engine.state = some .stopped)
    (hn : number.toNat ≤ 511) (used : Nat) : s.doAction .shop used (.set 1#8 number value) =
      .ok (s.scheduleWritten { s.store with words := writeWord s.store.words number.toNat value }) := by
  show s.doSetWord .shop number value = _
  rw [State.doSetWord_of_checked value hn, if_pos (writeAdmitted_of_shop hh hst)]
  rfl

theorem State.doSegment_accepted (hh : s.holder = some .shop) (hst : s.engine.state = some .stopped)
    (hg : SegmentId.ofNum id.toNat = some g) (hr : segmentInRange base.toNat limit.toNat stride.toNat = true) (used : Nat) :
    s.doAction .shop used (.segment id base limit stride) = .ok (s.scheduleWritten
      { s.store with segments := s.store.segments.set g ⟨base.toNat, limit.toNat, stride.toNat, false⟩ }) := by
  show s.doSegment .shop id base limit stride = _
  rw [State.doSegment_of_checked hg hr, if_pos (writeAdmitted_of_shop hh hst)]
  rfl

theorem State.exec_setWord {more : List Sys2Proof.Action} (ho : s.offers l (.set cls number value :: more) = true) :
    exec (.setWord l cls number value more) s = .next (s.takeOrder l (.set cls number value :: more)) :=
  congrArg Host.Outcome.next (if_pos ho)

theorem State.doSet_class (h : 1 < cls.toNat) : s.doAction l 0 (.set cls number value) = .error .badValue := by
  have h0 : cls ≠ 0#8 := by rintro rfl; exact absurd h (by decide)
  have h1 : cls ≠ 1#8 := by rintro rfl; exact absurd h (by decide)
  show s.doSet l cls number value = _
  unfold State.doSet
  rw [if_neg h0, if_neg h1]

theorem State.doSegment_refused (h : 5 < id.toNat ∨ segmentInRange base.toNat limit.toNat stride.toNat = false) :
    s.doAction l 0 (.segment id base limit stride) = .error .segmentRange := by
  show s.doSegment l id base limit stride = _
  unfold State.doSegment
  cases hid : SegmentId.ofNum id.toNat with
  | none => rfl
  | some g =>
    have hle : ¬ 5 < id.toNat := by
      unfold SegmentId.ofNum at hid
      split at hid
      case h_7 => cases hid
      all_goals omega
    exact if_pos (h.resolve_left hle)

/-! ## A write and a start in one order -/

theorem State.word_written (hs : StoreSound s) (hw : t.store.words = writeWord s.store.words number.toNat value) :
    t.store.word number.toNat = value ∧ ∀ i : Nat, i ≠ number.toNat → t.store.word i = s.store.word i := by
  unfold Store.word
  rw [hw]
  exact ⟨readWord_writeWord_self _ _ hs.words, fun i hi => readWord_writeWord_ne _ hi⟩

/-- An accepted order with no CLAIM and no READ. -/
theorem State.takeOrder_accepted_plain {as : List Sys2Proof.Action} (h : State.runActions l 1 0 [] as s = .ok w)
    (hclaim : (as.any fun a => a.code == 1) = false) (hread : ∀ v : State, v.readResults as = []) :
    s.takeOrder l as = (s.commit as w).answer l (acceptedBody (s.commit as w) 1) := by
  rw [State.takeOrder_accepted h, State.acceptBody, hread, List.append_nil, State.answersPending, hclaim]
  rfl

theorem State.startRefusal_stopped (hst : s.engine.state = some .stopped) (h : s.startRefusal .full = none) :
    s.frontEnd.reported < 20 := by
  have hlock : s.sequencer.lockoutEnd = none := by
    by_contra hk
    rw [State.startRefusal_of_lockout (Option.isSome_iff_ne_none.mpr hk)] at h
    cases h
  rw [State.startRefusal_of_standing hlock (.inl hst)] at h
  by_contra hk
  rw [if_pos (not_lt.mp hk)] at h
  cases h

/-- The order of a SET of a word and a FULL start, as the actions leave it. -/
theorem State.runActions_setWord_start (hh : s.holder = some .shop) (hst : s.engine.state = some .stopped)
    (hn : number.toNat ≤ 511) (hno : s.startRefusal .full = none) :
    State.runActions .shop 1 0 [] [.set 1#8 number value, .start 0#8] s = .ok ((s.scheduleWritten
      { s.store with words := writeWord s.store.words number.toNat value }).openStart (.source .shop) .full) := by
  rw [State.runActions_cons rfl, State.doSetWord_accepted hh hst hn]
  dsimp only
  rw [State.runActions_cons (by simp [duplicates, Action.code])]
  have hstart (v : State) (hv : v.holds .shop = true) (hr : v.startRefusal .full = none) (used : Nat) :
      v.doAction .shop used (.start 0#8) = .ok (v.openStart (.source .shop) .full) := by
    simp [State.doAction, State.doStart, startModeOf, hv, hr, sourceOf]
  rw [hstart (s.scheduleWritten _) (decide_eq_true hh) hno]
  rfl

theorem FullBegun.state {who : Initiator} (h : FullBegun v who w) : w.engine.state = some (.starting .prelube) ∨
    w.engine.state = some (.starting .crank) ∨ w.engine.state = some .stopped := by
  rcases Nat.eq_zero_or_pos v.prelubeDuration with hz | hp
  · rcases lt_or_ge (v.reading .lube) 30 with hlt | hge
    · exact .inr (.inr (by rw [(h.unpressed hz hlt).1]))
    · exact .inr (.inl (by rw [(h.cranked hz hge).1]))
  · exact .inl (by rw [(h.timed hp).1])

/-- The close of a start begun in the commit from STOPPED: the phases entered arm the channels that STOPPED arms. -/
theorem State.settle_begun (hst : s.engine.state = some .stopped) (hc : s.engine.awaitingChoice = false)
    (hm : MonitorSound s) (hd : Driven v w) (harb : v.arbiter = s.arbiter)
    (harmed : ∀ c, (v.channel c).armed = (s.channel c).armed)
    (hto : w.engine.state = some (.starting .prelube) ∨ w.engine.state = some (.starting .crank) ∨
      w.engine.state = some .stopped) : s.settle false w = s.close w := by
  have hag : w.armsAgree := fun c => by
    rw [hd.channel, harmed, hm.armed_eq hc hst]
    rcases hto with h | h | h <;> rw [h] <;> cases c <;> rfl
  rw [State.settle_of_standing s false fun _ => hag, if_neg]
  rintro (h | h)
  · cases h
  · exact h (State.presented_of_arbiter (hd.arbiter.trans harb)).symm

/-! ## A start cancelled in the order that began it, and a SEGMENT (assumption 27) -/

theorem LookedUp.same (h : LookedUp s [] t) : t.store = s.store ∧ t.monitor = s.monitor := by
  refine ⟨h.1, h.2.trans ?_⟩
  unfold State.lookedUp
  simp [State.anyFaults]

/-- A FULL start of a stopped engine, begun and cancelled. -/
def State.startCancelled (s : State) : State := (s.openStart (.source .shop) .full).endStart .cancelled

/-- What the two actions leave: the record of the start, and the layup mark clear (R35, R38). -/
structure StartCancelled (s w : State) : Prop where
  frame : Frame s w
  engine : w.engine = { s.engine with layupMark := false }
  record : w.sequencer.record = some ⟨.source .shop, .full, .prelube, .cancelled, 0, []⟩
  timer : w.sequencer.timer = none
  outputs : w.outputs = { s.outputs with starter := false, prelube := false, fuelRun := false }
  stepper : w.stepper = s.stepper
  arbiter : w.arbiter = s.arbiter
  store : w.store = s.store
  monitor : w.monitor = s.monitor

theorem State.startCancelled_spec (hst : s.engine.state = some .stopped) (h20 : s.frontEnd.reported < 20) :
    StartCancelled s s.startCancelled := by
  have ho : StartOutcome.cancelled.fails = true := rfl
  obtain ⟨heng, hseq, hout⟩ := s.openStart_full (.source .shop)
  have hd : Driven s (s.openStart (.source .shop) .full) := (Driven.refl s).openStart _ _
  have hopen : LookedUp s [] (s.openStart (.source .shop) .full) :=
    .none (State.enterPhase_store _ _) (State.enterPhase_monitor _ _)
  have hstep : (s.openStart (.source .shop) .full).stepper = s.stepper := by
    show ((_ : State).enter (.starting .prelube)).stepper = s.stepper
    rw [State.enter_stepper, if_neg]
    · rfl
    · rintro ⟨k, -⟩
      exact absurd (hst.symm.trans k) (by decide)
  generalize hv : s.openStart (.source .shop) .full = v at *
  have hde := hd.endStart .cancelled
  have hstand : ¬ (20 ≤ v.frontEnd.reported ∨ v.outputs.fuelRun = true) := by
    rw [hd.frame.frontEnd, hout]
    simpa using h20
  obtain ⟨hstore, hmon⟩ := (hopen.trans (State.endStart_lookedUp (s := v) ho)).same
  have hw : s.startCancelled = v.endStart .cancelled := by rw [← hv]; rfl
  rw [hw]
  refine ⟨hde.frame, ?_, ?_, ?_, ?_, ?_, hde.arbiter, hstore, hmon⟩
  · rw [State.endStart_engine ho, if_neg hstand, heng, ← hst]
  · rw [State.endStart_sequencer ho, State.closeStart_sequencer, hseq]
    rfl
  · rw [State.endStart_sequencer ho, State.closeStart_sequencer]
    rfl
  · rw [State.endStart_outputs ho, hout]
  · have hclosed : ¬ (20 ≤ (v.closeStart .cancelled).frontEnd.reported ∨ (v.closeStart .cancelled).outputs.fuelRun = true) := by
      rw [(State.closeStart_frame .cancelled (Frame.refl v)).frontEnd, State.closeStart_fuelRun]
      exact hstand
    rw [State.endStart_of_fails ho, State.failedStart, if_neg hclosed, State.enter_stepper, if_neg]
    · exact hstep
    · rintro ⟨k, -⟩
      rw [State.closeStart_engine, heng] at k
      exact absurd k (by simp)

/-- The order of a FULL start, its CANCEL and a SEGMENT, as the actions leave it. -/
theorem State.runActions_start_cancel_segment (hh : s.holder = some .shop) (hst : s.engine.state = some .stopped)
    (hno : s.startRefusal .full = none) (hg : SegmentId.ofNum id.toNat = some g)
    (hr : segmentInRange base.toNat limit.toNat stride.toNat = true) :
    State.runActions .shop 1 0 [] [.start 0#8, .cancel, .segment id base limit stride] s =
      .ok (s.startCancelled.scheduleWritten { s.startCancelled.store with
        segments := s.startCancelled.store.segments.set g ⟨base.toNat, limit.toNat, stride.toNat, false⟩ }) := by
  have hspec := State.startCancelled_spec hst (State.startRefusal_stopped hst hno)
  have hd : Driven s (s.openStart (.source .shop) .full) := (Driven.refl s).openStart _ _
  have hholds : (s.openStart (.source .shop) .full).holds .shop = true := by
    unfold State.holds
    rw [State.holder_of_arbiter hd.arbiter]
    exact decide_eq_true hh
  have hruns : (s.openStart (.source .shop) .full).startRuns = true :=
    State.startRuns_iff.mpr ⟨.prelube, by rw [(s.openStart_full _).1]⟩
  rw [State.runActions_cons rfl, State.doAction_start_accepted (mode := .full) rfl (decide_eq_true hh) hno]
  dsimp only
  rw [State.runActions_cons (by simp [duplicates, Action.code]),
    show ∀ used, (s.openStart (.source (sourceOf .shop)) .full).doAction .shop used .cancel = .ok s.startCancelled from
      fun _ => State.doCancel_starting hholds hruns]
  dsimp only
  have hholder : s.startCancelled.holder = some .shop := by rw [State.holder_of_arbiter hspec.arbiter, hh]
  rw [State.runActions_cons (by simp [duplicates, Action.code]),
    State.doSegment_accepted hholder (by rw [hspec.engine, hst]) hg hr]
  rfl

theorem sameWorld_trans (h : sameWorld s t) (k : sameWorld t u) : sameWorld s u := by
  obtain ⟨hnow, hsupply, hreset, hfront, hpend⟩ := h
  obtain ⟨know, ksupply, kreset, kfront, kpend⟩ := k
  exact ⟨know.trans hnow, ksupply.trans hsupply, kreset.trans hreset, kfront.trans hfront, kpend.trans hpend⟩

/-- The Segment Table with the entry of PRELUBE_TIME written and every mark clear (R151, R153). -/
def Store.prelubeWritten (st : Store) (e : SegmentEntry) : Store :=
  { st with segments := st.segments.set .prelubeTime e }.clearMarks

theorem Store.prelubeWritten_get (st : Store) (e : SegmentEntry) (g : SegmentId) :
    (st.prelubeWritten e).segments.get g =
      if g = .prelubeTime then { e with faultMark := false } else { st.segments.get g with faultMark := false } := by
  unfold Store.prelubeWritten
  rw [Store.clearMarks_get]
  split
  · rename_i hg
    rw [hg, PerSegment.get_set_self]
  · rename_i hg
    dsimp only
    rw [PerSegment.get_set_ne _ _ hg]

theorem Store.prelubeWritten_faults (st : Store) (e : SegmentEntry) (b : Nat) :
    (st.prelubeWritten e).faults (prelubeLookup b) = decide (e.limit ≤ b * e.stride) := by
  have hentry := (st.prelubeWritten_get e .prelubeTime).trans (if_pos rfl)
  show decide (((st.prelubeWritten e).segments.get .prelubeTime).limit ≤
    b * ((st.prelubeWritten e).segments.get .prelubeTime).stride + 0) = _
  rw [hentry]
  rfl

/-- The lookup of the prelube time through the entry just written marks that entry alone, and only at or past its limit. -/
theorem Store.prelubeWritten_marked (st : Store) (e : SegmentEntry) (b : Nat) (g : SegmentId) :
    ((st.prelubeWritten e).markFaults [prelubeLookup b]).segments.get g =
      if g = .prelubeTime then { e with faultMark := decide (e.limit ≤ b * e.stride) }
      else { st.segments.get g with faultMark := false } := by
  rw [Store.markFaults_get, List.any_cons, List.any_nil, Store.prelubeWritten_faults, Store.prelubeWritten_get,
    show (prelubeLookup b).item.segment = .prelubeTime from rfl]
  by_cases hg : g = .prelubeTime
  · simp [hg]
  · simp [hg, Ne.symm hg]

/-- The view that a FULL start, its CANCEL and the SEGMENT of PRELUBE_TIME leave, one after another. -/
def State.cancelledAndWritten (s : State) (e : SegmentEntry) : State :=
  s.startCancelled.scheduleWritten { s.startCancelled.store with
    segments := s.startCancelled.store.segments.set .prelubeTime e }

/-- That view with the start's lookup made in it, through the entry `e` as the order leaves it. -/
structure CancelledLookup (s w : State) (e : SegmentEntry) : Prop where
  engine : w.engine = { s.engine with layupMark := false }
  record : w.sequencer.record = some ⟨.source .shop, .full, .prelube, .cancelled, 0, []⟩
  timer : w.sequencer.timer = none
  outputs : w.outputs = { s.outputs with starter := false, prelube := false, fuelRun := false }
  stepper : w.stepper = s.stepper
  arbiter : w.arbiter = s.arbiter
  words : w.store.words = s.store.words
  segments : ∀ g : SegmentId, w.store.segments.get g = if g = .prelubeTime then
    { e with faultMark := decide (e.limit ≤ coolantBand (s.reading .coolant) * e.stride) }
    else { s.store.segments.get g with faultMark := false }
  faultReported : w.monitor.faultReported = decide (e.limit ≤ coolantBand (s.reading .coolant) * e.stride)
  latch : w.monitor.latch = false
  conditions : ∀ c ∈ w.monitor.conditions, c ∈ s.monitor.conditions
  armed : ∀ c : Channel, (w.channel c).armed = (s.channel c).armed
  ports : w.ports = s.ports
  world : sameWorld s w

theorem State.cancelledLookup (hst : s.engine.state = some .stopped) (h20 : s.frontEnd.reported < 20) (e : SegmentEntry) :
    CancelledLookup s (s.cancelledAndWritten e).timePrelube e := by
  have hspec := State.startCancelled_spec hst h20
  have hcleared := s.startCancelled.scheduleWritten_cleared { s.startCancelled.store with
    segments := s.startCancelled.store.segments.set .prelubeTime e }
  rw [show s.startCancelled.scheduleWritten _ = s.cancelledAndWritten e from rfl, hspec.store] at hcleared
  generalize s.cancelledAndWritten e = v at hcleared ⊢
  generalize s.startCancelled = u at hspec hcleared
  have hworld := sameWorld_trans (sameWorld_of_frame hspec.frame) hcleared.world
  have htime : v.timePrelube = v.lookedUp [prelubeLookup (coolantBand (s.reading .coolant))] := by
    unfold State.timePrelube State.reading
    dsimp only
    rw [if_neg (by rw [hcleared.engine, hspec.engine]; dsimp only; rw [hst]; decide), hworld.2.2.2.1]
  have hd := (Driven.refl v).lookedUp [prelubeLookup (coolantBand (s.reading .coolant))]
  rw [htime]
  have hstore : v.store = s.store.prelubeWritten e := hcleared.store
  refine
    { engine := hcleared.engine.trans hspec.engine
      record := (congrArg Sequencer.record hcleared.sequencer).trans hspec.record
      timer := (congrArg Sequencer.timer hcleared.sequencer).trans hspec.timer
      outputs := hcleared.outputs.trans hspec.outputs
      stepper := hcleared.stepper.trans hspec.stepper
      arbiter := hcleared.arbiter.trans hspec.arbiter
      words := by rw [hd.frame.contents.1, hstore]; rfl
      segments := fun g => ?_
      faultReported := ?_
      latch := hd.latch.trans hcleared.latch
      conditions := fun c h => by
        rw [hd.conditions] at h
        rw [← hspec.monitor]
        exact hcleared.conditions c h
      armed := fun c => by
        rw [hd.channel, hcleared.armed]
        unfold State.channel
        rw [hspec.monitor]
      ports := hcleared.ports.trans hspec.frame.ports
      world := sameWorld_trans hworld (sameWorld_of_frame hd.frame) }
  · show (v.store.markFaults _).segments.get g = _
    rw [hstore, Store.prelubeWritten_marked]
  · show (v.monitor.faultReported || (v.anyFaults _ && !v.monitor.latch)) = _
    rw [hcleared.faultReported, hcleared.latch, State.anyFaults, List.any_cons, List.any_nil, hstore,
      Store.prelubeWritten_faults]
    simp

/-- The commit of that order: the close moves ALERT and the idle timer alone. -/
theorem State.commit_cancelled (hst : s.engine.state = some .stopped) (hc : s.engine.awaitingChoice = false)
    (hm : MonitorSound s) (hs : StepperSound s) (h20 : s.frontEnd.reported < 20) (e : SegmentEntry) :
    s.settle false (s.cancelledAndWritten e).timePrelube =
      s.judgeIdle (s.cancelledAndWritten e).timePrelube.setAlert := by
  have h := State.cancelledLookup hst h20 e
  generalize (s.cancelledAndWritten e).timePrelube = w at h ⊢
  have hwst : w.engine.state = some .stopped := (congrArg Engine.state h.engine).trans hst
  rw [State.settle_begun hst hc hm (Driven.refl w) h.arbiter h.armed (.inr (.inr hwst))]
  exact State.close_standing hs hst hc hwst ((congrArg Engine.awaitingChoice h.engine).trans hc) h.stepper
    (by rw [h.outputs]) (by rw [h.outputs]) h.conditions

/-- What the commit of a SET of a word and a FULL start in one order leaves: the word, and the start that the word as written
times. -/
structure StartedOverWord (s t : State) (number value : Word16) : Prop where
  written : t.store.word number.toNat = value
  others : ∀ i : Nat, i ≠ number.toNat → t.store.word i = s.store.word i
  latch : t.monitor.latch = false
  arbiter : t.arbiter = s.arbiter
  world : sameWorld s t
  ports : t.ports = s.ports
  timed : 1 ≤ t.prelubeDuration →
    t.engine = { s.engine with state := some (.starting .prelube), layupMark := false } ∧
    t.sequencer.timer = some (t.now + t.prelubeDuration * 1000) ∧
    t.sequencer.record = some ⟨.source .shop, .full, .prelube, .inProgress, 0, []⟩ ∧
    t.outputs.starter = false ∧ t.outputs.prelube = true ∧ t.outputs.fuelRun = false
  cranked : t.prelubeDuration = 0 → 30 ≤ s.reading .lube → t.engine.state = some (.starting .crank) ∧
    t.sequencer.creditEnd = some (t.now + 120000)
  unpressed : t.prelubeDuration = 0 → s.reading .lube < 30 → t.engine.state = some .stopped ∧
    t.sequencer.record = some ⟨.source .shop, .full, .prelube, .noPrelubePressure, 0, []⟩

theorem State.settle_startedOverWord (hst : s.engine.state = some .stopped) (hc : s.engine.awaitingChoice = false)
    (hm : MonitorSound s) (hstore : StoreSound s) (h20 : s.frontEnd.reported < 20) (number value : Word16) :
    StartedOverWord s (s.settle false ((s.scheduleWritten
      { s.store with words := writeWord s.store.words number.toNat value }).beginFull (.source .shop))) number value := by
  have hcleared := s.scheduleWritten_cleared { s.store with words := writeWord s.store.words number.toNat value }
  generalize s.scheduleWritten { s.store with words := writeWord s.store.words number.toNat value } = v at hcleared ⊢
  obtain ⟨hnow, hsupply, hreset, hfront, hpend⟩ := hcleared.world
  have hbegun := State.beginFull_begun (s := v) (.source .shop) (by rwa [hfront])
  have hd : Driven v (v.beginFull (.source .shop)) := (Driven.refl v).beginFull _
  generalize v.beginFull (.source .shop) = w at hbegun hd ⊢
  rw [State.settle_begun hst hc hm hd hcleared.arbiter hcleared.armed hbegun.state]
  have hfr : Frame v (s.close w) := hd.frame.trans (s.close_frame _)
  have hdur : (s.close w).prelubeDuration = v.prelubeDuration := by
    unfold State.prelubeDuration State.reading
    rw [hfr.look, hfr.frontEnd]
  have hlube : v.reading .lube = s.reading .lube := State.reading_of_scan (by rw [hfront]) _
  obtain ⟨hwritten, hothers⟩ := State.word_written hstore (t := s.close w) (value := value) (number := number)
    (hfr.contents.1.trans (congrArg Store.words hcleared.store))
  refine
    { written := hwritten
      others := hothers
      latch := by rw [State.close_latch, hd.latch, hcleared.latch]
      arbiter := by rw [State.close_arbiter, hd.arbiter, hcleared.arbiter]
      world := sameWorld_trans hcleared.world (sameWorld_of_frame hfr)
      ports := hfr.ports.trans hcleared.ports
      timed := fun hp => ?timed
      cranked := fun hz hp => ?cranked
      unpressed := fun hz hp => ?unpressed }
  case timed =>
    obtain ⟨keng, kseq, kout⟩ := hbegun.timed (hdur ▸ hp)
    rw [State.close_engine, State.close_sequencer, State.close_starter, State.close_prelube, State.close_fuelRun,
      keng, kseq, kout, hdur, hfr.now, hcleared.engine]
    exact ⟨rfl, rfl, rfl, rfl, rfl, rfl⟩
  case cranked =>
    obtain ⟨keng, kseq, -⟩ := hbegun.cranked (hdur ▸ hz) (hlube ▸ hp)
    rw [State.close_engine, State.close_sequencer, keng, kseq, hfr.now]
    exact ⟨rfl, rfl⟩
  case unpressed =>
    obtain ⟨keng, kseq, -⟩ := hbegun.unpressed (hdur ▸ hz) (hlube ▸ hp)
    rw [State.close_engine, State.close_sequencer, keng, kseq]
    exact ⟨rfl, rfl⟩

end

/-- Settles O25: a write alone is closed over a standing engine; with a start in its order the start's lookup is made in the
commit, from what the whole order leaves. -/
theorem wordsAndSegmentsAreWritten : Obligations.WordsAndSegmentsAreWritten := by
  intro s hh hst hm hs hi hstore
  refine ⟨fun number value ho hn => ?word, fun id base limit stride g ho hg hr => ?segment,
    fun l cls number value ho hcls => ?cls, fun l number value ho hn => ?index, fun l id base limit stride ho hr => ?range,
    fun number value ho hn hno => ?wordAndStart, fun base limit stride ho hno hr => ?startAndSegment⟩
  case word =>
    have hc := (State.offers_chosen ho).2
    refine ⟨_, State.exec_setWord ho, ?_⟩
    rw [State.takeOrder_one_accepted (State.doSetWord_accepted hh hst hn 0) (show 11 ≠ 1 by decide) (show 11 ≠ 10 by decide),
      State.commit_plain rfl rfl]
    have hs' := State.settle_scheduleWritten_store hst hc hm hs
      (st := { s.store with words := writeWord s.store.words number.toNat value })
    refine ⟨State.scheduleWritten_spec hst hc hm hs rfl, ?_⟩
    rw [State.answer_store]
    generalize hcl : s.settle false _ = c at hs' ⊢
    have hw : c.store.words = writeWord s.store.words number.toNat value := congrArg Store.words hs'
    obtain ⟨h1, h2⟩ := State.word_written hstore hw
    refine ⟨h1, h2, fun g => ?_⟩
    rw [hs', Store.clearMarks_get]
  case segment =>
    have hc := (State.offers_chosen ho).2
    refine ⟨_, exec_orderCommand_of_offers (a := .segment id base limit stride) ho, ?_⟩
    rw [State.takeOrder_one_accepted (State.doSegment_accepted hh hst hg hr 0) (show 12 ≠ 1 by decide)
      (show 12 ≠ 10 by decide), State.commit_plain rfl rfl]
    have hs' := State.settle_scheduleWritten_store hst hc hm hs (st :=
      { s.store with segments := s.store.segments.set g ⟨base.toNat, limit.toNat, stride.toNat, false⟩ })
    refine ⟨State.scheduleWritten_spec hst hc hm hs rfl, ?_⟩
    rw [State.answer_store]
    generalize hcl : s.settle false _ = c at hs' ⊢
    refine ⟨?_, fun h hne => ?_, ?_⟩
    · rw [hs', Store.clearMarks_get, PerSegment.get_set_self]
    · rw [hs', Store.clearMarks_get]
      dsimp only
      rw [PerSegment.get_set_ne _ _ hne]
    · rw [hs']
      rfl
  case cls =>
    exact (State.exec_setWord ho).trans (congrArg Host.Outcome.next (State.takeOrder_one_refused (State.doSet_class hcls)))
  case index =>
    exact (State.exec_setWord ho).trans (congrArg Host.Outcome.next (State.takeOrder_one_refused (if_pos hn)))
  case range =>
    exact (exec_orderCommand_of_offers (a := .segment id base limit stride) ho).trans
      (congrArg Host.Outcome.next (State.takeOrder_one_refused (State.doSegment_refused hr)))
  case wordAndStart =>
    have hc := (State.offers_chosen ho).2
    refine ⟨_, State.exec_setWord ho, ?_⟩
    rw [State.takeOrder_accepted_plain (State.runActions_setWord_start hh hst hn hno) rfl fun _ => rfl]
    have h := State.settle_startedOverWord hst hc hm hstore (State.startRefusal_stopped hst hno) number value
    have hcommit : s.commit [.set 1#8 number value, .start 0#8] ((s.scheduleWritten
        { s.store with words := writeWord s.store.words number.toNat value }).openStart (.source .shop) .full) =
        s.settle false ((s.scheduleWritten
          { s.store with words := writeWord s.store.words number.toNat value }).beginFull (.source .shop)) := rfl
    rw [hcommit]
    generalize s.settle false _ = c at h ⊢
    exact ⟨h.written, h.others, h.latch, h.arbiter, h.world, h.timed, h.cranked, h.unpressed,
      answersOnly_answer_accepted .shop 1 h.ports⟩
  case startAndSegment =>
    have hc := (State.offers_chosen ho).2
    have h20 := State.startRefusal_stopped hst hno
    refine ⟨_, exec_orderCommand_of_offers (a := .start 0#8) ho, ?_⟩
    rw [State.takeOrder_accepted_plain (State.runActions_start_cancel_segment hh hst hno rfl hr) rfl fun _ => rfl]
    generalize he : (⟨base.toNat, limit.toNat, stride.toNat, false⟩ : SegmentEntry) = e
    have hcommit : s.commit [.start 0#8, .cancel, .segment 2#8 base limit stride] (s.cancelledAndWritten e) =
        s.settle false (s.cancelledAndWritten e).timePrelube := rfl
    have h := State.cancelledLookup hst h20 e
    rw [show s.startCancelled.scheduleWritten _ = s.cancelledAndWritten e from rfl, hcommit,
      State.commit_cancelled hst hc hm hs h20 e]
    generalize (s.cancelledAndWritten e).timePrelube = w at h ⊢
    have hclosed := s.judgeIdle_closed w
    generalize s.judgeIdle w.setAlert = c at hclosed ⊢
    obtain ⟨cworld, ceng, cseq, carb, -, cstore, cmon, ⟨cstarter, cprelube, cfuel⟩, cports⟩ := hclosed
    subst he
    have hseg (g : SegmentId) := (congrArg (fun x : Store => x.segments.get g) cstore).trans (h.segments g)
    exact ⟨ceng.trans h.engine, cstarter.trans (by rw [h.outputs]), cprelube.trans (by rw [h.outputs]),
      cfuel.trans (by rw [h.outputs]), (congrArg Sequencer.record cseq).trans h.record,
      (congrArg Sequencer.timer cseq).trans h.timer, (hseg .prelubeTime).trans (if_pos rfl),
      (congrArg Monitor.faultReported cmon).trans h.faultReported, (congrArg Monitor.latch cmon).trans h.latch,
      fun g hne => (hseg g).trans (if_neg hne), (congrArg Store.words cstore).trans h.words, carb.trans h.arbiter,
      sameWorld_trans h.world cworld, answersOnly_answer_accepted .shop 1 (cports.trans h.ports)⟩

end Sys2Proof.Machine
end

section
/-! The choice of the engine state at the first measurement after a reset (O36). -/

namespace Sys2Proof.Machine

section

variable {before s t u v w : State} {f st : EngineState} {c : Channel} {n : Nat}

/-! ## The choice -/

/-- The state that is chosen, with the engine's part of it (R45, R50, R52). -/
theorem State.chooseState_found (hk : v.engine.stopKind = none) (hcool : v.engine.cooldownEnd = none)
    (hrun : v.engine.rundownEnd = none) :
    v.chooseState.engine = engineFound v (stateFound v v.frontEnd.reported) v.now ∧
      v.chooseState.outputs = { v.outputs with fuelRun := (stateFound v v.frontEnd.reported).fuel } ∧
      v.chooseState.sequencer = v.sequencer := by
  unfold State.chooseState stateFound engineFound
  dsimp only
  by_cases htrips : v.monitor.trips ≠ []
  · rw [if_pos htrips, if_pos htrips]
    simp [hk, hcool, hrun, EngineState.fuel]
  · rw [if_neg htrips, if_neg htrips]
    cases hfuel : v.outputs.fuelRun with
    | true =>
      by_cases h280 : 280 ≤ v.frontEnd.reported
      · cases hb : (v.engine.isolateFlag || v.filtered .isolateSwitch) with
        | true =>
          simp [h280, hk, hcool, hrun, EngineState.fuel]
          exact hb
        | false =>
          simp [h280, hk, hcool, hrun, EngineState.fuel]
          exact hb
      · simp [h280, State.withStopKind, EngineState.fuel, hcool]
    | false =>
      by_cases h20 : 20 ≤ v.frontEnd.reported
      · cases hmark : v.engine.layupMark <;> simp [h20, State.withStopKind, EngineState.fuel, hcool]
      · cases hmark : v.engine.layupMark <;> simp [h20, hk, hcool, hrun, EngineState.fuel]

theorem stateFound_of_same (hm : t.monitor = s.monitor) (ho : t.outputs = s.outputs) (he : t.engine = s.engine)
    (hf : t.filtered .isolateSwitch = s.filtered .isolateSwitch) (n : Nat) : stateFound t n = stateFound s n := by
  unfold stateFound
  rw [hm, ho, he, hf]

/-- The channels that the choice arms: none stood armed but SCHEDULE_FAULT (R121, R131). -/
theorem tripsAtArming_filter (s : State) (f : EngineState) : tripsAtArming s f =
    [Channel.crankcase, .fuelCutoff, .coolantLevel].filter fun c => c.armedIn f && s.onsetAtArming c := by
  unfold tripsAtArming
  simp only [List.filter_cons, List.filter_nil]
  rw [show s.onsetAtArming .crankcase = s.filtered .crankcaseSwitch from rfl,
    show s.onsetAtArming .fuelCutoff = s.filtered .fuelCutoffLoop from rfl,
    show s.onsetAtArming .coolantLevel = s.filtered .coolantLevelSwitch from rfl]
  cases Channel.crankcase.armedIn f && s.filtered .crankcaseSwitch <;>
  cases Channel.fuelCutoff.armedIn f && s.filtered .fuelCutoffLoop <;>
  cases Channel.coolantLevel.armedIn f && s.filtered .coolantLevelSwitch <;> rfl

/-- The event of the choice, from what the measurement leaves of the state before it to what the choice makes of it. -/
structure ChoiceMade (s w : State) (f : EngineState) (quality : SpeedQuality) : Prop where
  engine : w.engine = engineFound s f w.now
  outputs : w.outputs = { s.outputs with fuelRun := f.fuel }
  sequencer : w.sequencer = s.sequencer
  arbiter : w.arbiter = s.arbiter
  monitor : w.monitor = s.monitor
  filtered : ∀ i : Input, w.filtered i = s.filtered i
  quality : w.frontEnd.quality = quality

theorem ChoiceMade.onsetAtArming {q : SpeedQuality} (h : ChoiceMade s w f q) {i : Input} (hc : c.input = some i) :
    w.onsetAtArming c = s.onsetAtArming c := by
  unfold State.onsetAtArming
  rw [hc]
  exact h.filtered i

theorem ChoiceMade.armingTrips {q : SpeedQuality} (h : ChoiceMade s w f q) (hm : MonitorSound s)
    (hc : s.engine.awaitingChoice = true) :
    w.armingTrips f Channel.order = (tripsAtArming s f).filter fun c => !s.tripListed c := by
  have hchan (c : Channel) : w.channel c = s.channel c := by unfold State.channel; rw [h.monitor]
  have hlisted (c : Channel) : w.tripListed c = s.tripListed c := by unfold State.tripListed; rw [h.monitor]
  rw [State.armingTrips_eq fun c hmem => by rw [hchan]; exact hm.listed c (by rwa [h.monitor] at hmem),
    tripsAtArming_filter, List.filter_filter]
  refine List.filter_congr fun c hmem => ?_
  have hdiscrete : ∃ i, c.input = some i := by
    simp only [List.mem_cons, List.not_mem_nil, or_false] at hmem
    rcases hmem with rfl | rfl | rfl <;> exact ⟨_, rfl⟩
  obtain ⟨i, hi⟩ := hdiscrete
  have hne : c ≠ .scheduleFault := by rintro rfl; cases hi
  rw [hchan, hlisted, h.onsetAtArming hi, hm.waiting hc c hne]
  simp [Bool.and_comm]

/-- Besides SCHEDULE_FAULT a channel is listed after the arming just where it is armed over what it watches. -/
theorem ChoiceMade.mem_rearmAll {q : SpeedQuality} (h : ChoiceMade s w f q) (hm : MonitorSound s)
    (hc : s.engine.awaitingChoice = true) (hne : c ≠ .scheduleFault) :
    c ∈ (w.rearmAll f).monitor.conditions ↔ c.armedIn f = true ∧ w.onsetAtArming c = true := by
  have hchan : w.channel c = s.channel c := by unfold State.channel; rw [h.monitor]
  have hun := hm.waiting hc c hne
  have hact : w.active c = false := by
    rw [State.active, h.monitor]
    exact State.unlisted_of_unarmed hm.listed hun
  have hnot : c ∉ w.monitor.conditions := fun k => by
    rw [State.active, ← Bool.not_eq_true, List.contains_iff_mem] at hact
    exact hact k
  rw [State.mem_rearmAll]
  unfold State.armsOver
  rw [hchan, hun, hact]
  simp [hnot]

/-- An event whose re-arming begins no trip, and at which the wake watch judges. -/
theorem State.settle_of_rearmed (before : State) (hst : w.engine.state = some f)
    (hr : w.rearm = w.rearmAll f) : before.settle true w = before.close (w.rearmAll f).judgeWake := by
  have hag : (w.rearmAll f).armsAgree :=
    State.armsAgree_of (by rw [(w.rearmAll_only f).engine, hst]) (w.rearmAll_armed f)
  rw [State.settle_eq_close]
  unfold State.rearmed
  rw [if_pos (.inl rfl), hr, State.rearm_of_standing (State.judgeWake_standing fun _ => hag)]

theorem ChoiceMade.rearm {q : SpeedQuality} (h : ChoiceMade s w f q) (hm : MonitorSound s)
    (hc : s.engine.awaitingChoice = true) (hq : s.monitor.trips = [] → tripsAtArming s f = []) :
    w.rearm = w.rearmAll f := by
  have hst : w.engine.state = some f := by rw [h.engine]; rfl
  have hcw : w.engine.awaitingChoice = false := by rw [h.engine]; rfl
  rcases State.rearm_cases hst hcw with ⟨-, hr⟩ | ⟨hn, hne, -⟩
  · exact hr
  · rw [h.monitor] at hn
    rw [State.rearmAll_trips, h.armingTrips hm hc, h.monitor, hn, hq hn] at hne
    exact absurd rfl hne

theorem stateFound_tripped : stateFound s n = .tripped ↔ s.monitor.trips ≠ [] := by
  unfold stateFound
  by_cases h : s.monitor.trips ≠ []
  · simp [h]
  · rw [if_neg h]
    refine ⟨fun k => ?_, fun k => absurd k h⟩
    split_ifs at k

theorem stateFound_laidUp (h : stateFound s n = .laidUp) : s.outputs.fuelRun = false := by
  unfold stateFound at h
  split_ifs at h
  simpa using ‹¬ s.outputs.fuelRun = true›

/-- The measurement that makes the choice. -/
theorem State.choice_made (hc : s.engine.awaitingChoice = true)
    (hstop : s.engine.stopKind = none ∧ s.engine.cooldownEnd = none ∧ s.engine.rundownEnd = none) (hm : MonitorSound s) :
    ChoiceMade s (s.reach n).measurementChange (stateFound s (s.reach n).measure.frontEnd.reported)
      (s.reach n).measure.frontEnd.quality := by
  have hunarmed : ((s.reach n).channel .speedSignal).armed = false := hm.waiting hc _ (by decide)
  have hchange : (s.reach n).measurementChange = (s.reach n).measure.chooseState := by
    rw [State.measurementChange_of_unarmed hunarmed]
    exact if_pos hc
  obtain ⟨heng, hout, hseq⟩ := State.chooseState_found (v := (s.reach n).measure) hstop.1 hstop.2.1 hstop.2.2
  obtain ⟨harb, hmon⟩ := (s.reach n).measure.chooseState_stands
  have hfr := State.chooseState_frame (Frame.refl (s.reach n).measure)
  have hfound : stateFound (s.reach n).measure (s.reach n).measure.frontEnd.reported =
      stateFound s (s.reach n).measure.frontEnd.reported :=
    stateFound_of_same (s := s) (t := (s.reach n).measure) rfl rfl rfl (State.measure_filtered _ _) _
  rw [hfound] at heng hout
  rw [hchange]
  exact
    { engine := by rw [heng, hfr.now]; rfl
      outputs := hout
      sequencer := hseq
      arbiter := harb
      monitor := hmon
      filtered := fun i => by
        rw [show (s.reach n).measure.chooseState.filtered i = (s.reach n).measure.filtered i by
          unfold State.filtered; rw [hfr.frontEnd], State.measure_filtered]
        rfl
      quality := by rw [hfr.frontEnd] }

theorem State.rearmOnce_awaiting (s : State) : s.rearmOnce.engine.awaitingChoice = s.engine.awaitingChoice := by
  cases hst : s.engine.state with
  | none => rw [State.rearmOnce, hst]
  | some st =>
    cases hc : s.engine.awaitingChoice with
    | true =>
      rw [State.rearmOnce, hst]
      dsimp only
      rw [if_pos hc, hc]
    | false =>
      have hm := s.rearmAll_only st
      rw [State.rearmOnce_of_chosen hst hc]
      unfold State.withTrip
      dsimp only
      split
      · exact ((s.rearmAll st).deliverTrip_stands.2.2).trans (by rw [hm.engine, hc])
      · exact (congrArg Engine.awaitingChoice hm.engine).trans hc

/-- No close makes or unmakes the choice. -/
theorem State.settle_awaiting (before : State) (judged : Bool) (w : State) :
    (before.settle judged w).engine.awaitingChoice = w.engine.awaitingChoice := by
  have hrearm (v : State) : v.rearm.engine.awaitingChoice = v.engine.awaitingChoice :=
    (State.rearmOnce_awaiting _).trans (State.rearmOnce_awaiting _)
  rw [State.settle_eq_close, State.close_engine]
  unfold State.rearmed
  split
  · rw [hrearm, (State.judgeWake_driven _).awaiting, hrearm]
  · exact hrearm w

/-- The close of a choice outside LAID_UP that begins no trip. -/
theorem ChoiceMade.closed {q : SpeedQuality} (before : State) (h : ChoiceMade s w f q) (hm : MonitorSound s)
    (hc : s.engine.awaitingChoice = true) (hq : s.monitor.trips = [] → tripsAtArming s f = []) (hf : f ≠ .laidUp) :
    before.settle true w = before.close (w.rearmAll f) := by
  have hst : w.engine.state = some f := by rw [h.engine]; rfl
  rw [State.settle_of_rearmed before hst (h.rearm hm hc hq), State.judgeWake_of_not_laidUp]
  rw [(w.rearmAll_only f).engine, hst]
  simpa using hf

/-- A first trip by the arming of the choice, with its entries of the state found (R121, R122, R127). -/
theorem ChoiceMade.trips {q : SpeedQuality} (before : State) (h : ChoiceMade s w f q) (hm : MonitorSound s)
    (hc : s.engine.awaitingChoice = true) (hb : before.engine.awaitingChoice = true) (hn : s.monitor.trips = [])
    (hne : tripsAtArming s f ≠ []) (hf : f ≠ .tripped) (hp : s.entry .protection = Entry.reset) :
    TripsTaken { s with engine := engineFound s f w.now } (before.settle true w) (tripsAtArming s f) ∧
      (before.settle true w).holder = some .protection ∧ (before.settle true w).authorityNotch = 0 := by
  have hst : w.engine.state = some f := by rw [h.engine]; rfl
  have hcw : w.engine.awaitingChoice = false := by rw [h.engine]; rfl
  have hr := w.rearmAll_only f
  have hunlisted (c : Channel) : s.tripListed c = false := by unfold State.tripListed; rw [hn]; rfl
  have htrips : (w.rearmAll f).monitor.trips = (tripsAtArming s f).map fun c => ⟨c, some f⟩ := by
    rw [State.rearmAll_trips, h.armingTrips hm hc, h.monitor, hn, hst]
    simp [hunlisted]
  have hww : ∀ c : Channel, c ∈ (w.rearmAll f).monitor.conditions → ((w.rearmAll f).channel c).armed = true := by
    intro c hmem
    have hchan : w.channel c = s.channel c := by unfold State.channel; rw [h.monitor]
    rw [State.rearmAll_armed]
    rcases (State.mem_rearmAll f w c).mp hmem with ⟨hin, harm | hun⟩ | hover
    · exact harm
    · rw [hchan, hm.listed c (by rwa [h.monitor] at hin)] at hun
      cases hun
    · simp only [State.armsOver, Bool.and_eq_true] at hover
      exact hover.1.1.1
  have hbegun : TripBegun { s with engine := engineFound s f w.now } (w.rearmAll f) (tripsAtArming s f) :=
    { engine := by rw [hr.engine, h.engine]
      record := by rw [hr.sequencer, h.sequencer]
      arbiter := by rw [hr.arbiter, h.arbiter]
      chosen := rfl
      untripped := by simpa [engineFound] using hf
      protection := hp
      trips := htrips
      begun := hne
      listed := hww
      armed := ⟨f, w.rearmAll_armed f⟩ }
  rw [State.settle_of_armingTrip before true hst hcw (by rw [h.monitor, hn]) (by rw [htrips]; simpa using hne)]
  obtain ⟨h1, h2, h3, -⟩ := hbegun.taken (before := before) (.inr hb)
  exact ⟨h1, h2, h3⟩

end

/-- Settles O36: the choice is made from what the measurement reports; the close then arms every channel anew, by which a trip
may begin, and in LAID_UP the wake watch judges. -/
theorem engineStateIsChosen : Obligations.EngineStateIsChosen := by
  intro s hl hc hstop hm
  have hexec := exec_speedMeasurement hl
  rw [hc] at hexec
  have hfr := State.settle_measurement_frame (s.reach s.frontEnd.nextMeasurement) (s.reach s.frontEnd.nextMeasurement) true
  have hmade := State.choice_made (n := s.frontEnd.nextMeasurement) hc hstop hm
  have hu : (s.reach s.frontEnd.nextMeasurement).engine.awaitingChoice = true := hc
  have hbefore : (s.reach s.frontEnd.nextMeasurement).monitor = s.monitor := rfl
  refine ⟨_, hexec, fun f hf => ?_⟩
  rw [hfr.frontEnd] at hf
  rw [← hf] at hmade
  have hnow : ((s.reach s.frontEnd.nextMeasurement).settle true
      (s.reach s.frontEnd.nextMeasurement).measurementChange).now =
      (s.reach s.frontEnd.nextMeasurement).measurementChange.now := (State.settle_frame _ true (Frame.refl _)).now
  have hqual : ((s.reach s.frontEnd.nextMeasurement).settle true
      (s.reach s.frontEnd.nextMeasurement).measurementChange).frontEnd.quality =
      (s.reach s.frontEnd.nextMeasurement).measure.frontEnd.quality := by rw [hfr.frontEnd]
  generalize (s.reach s.frontEnd.nextMeasurement).measure.frontEnd.quality = q at hmade hqual
  generalize (s.reach s.frontEnd.nextMeasurement).measure.frontEnd.reported = r at hf
  generalize (s.reach s.frontEnd.nextMeasurement).measurementChange = w at *
  generalize s.reach s.frontEnd.nextMeasurement = u at *
  clear hexec hfr
  have hst : w.engine.state = some f := by rw [hmade.engine]; rfl
  have hcw : w.engine.awaitingChoice = false := by rw [hmade.engine]; rfl
  have hr := w.rearmAll_only f
  rw [hnow, hqual]
  refine ⟨?awaiting, fun hq hne => ?stands, fun htr => ?later, fun htr c hmem => ?listed, fun htr hne hp => ?trips,
    fun htr hnone hlaid => ?wake⟩
  case awaiting =>
    rw [State.settle_awaiting, hcw]
  case stands =>
    rw [hmade.closed u hm hc hq hne]
    refine ⟨by rw [State.close_engine, hr.engine, hmade.engine], by rw [State.close_fuelRun, hr.outputs, hmade.outputs],
      by rw [State.close_arbiter, hr.arbiter, hmade.arbiter], by rw [State.close_sequencer, hr.sequencer, hmade.sequencer],
      ?_, ?_⟩
    · rw [State.close_conditions, mem_inChannelOrder, hmade.mem_rearmAll hm hc (by decide),
        hmade.onsetAtArming (i := .groundRelay) rfl]
      exact Iff.rfl
    · rw [State.close_conditions, mem_inChannelOrder, hmade.mem_rearmAll hm hc (by decide)]
      have hon : w.onsetAtArming .speedSignal = (w.frontEnd.quality != .good) := rfl
      rw [hon, hmade.quality, bne_iff_ne]
  case later =>
    have hft : f = .tripped := hf.trans (stateFound_tripped.mpr htr)
    rw [hmade.closed u hm hc (fun k => absurd k htr) (by rw [hft]; decide), State.close_trips, State.rearmAll_trips,
      hmade.armingTrips hm hc, hmade.monitor, hst, hft]
  case listed =>
    have hft : f = .tripped := hf.trans (stateFound_tripped.mpr htr)
    rw [hmade.closed u hm hc (fun k => absurd k htr) (by rw [hft]; decide), State.close_conditions, mem_inChannelOrder]
    rw [tripsAtArming_filter, List.mem_filter, Bool.and_eq_true] at hmem
    obtain ⟨hc3, harm, hon⟩ := hmem
    have hi : ∃ i, c.input = some i := by
      simp only [List.mem_cons, List.not_mem_nil, or_false] at hc3
      rcases hc3 with rfl | rfl | rfl <;> exact ⟨_, rfl⟩
    obtain ⟨i, hi⟩ := hi
    exact (hmade.mem_rearmAll hm hc (by rintro rfl; cases hi)).mpr ⟨harm, by rw [hmade.onsetAtArming hi]; exact hon⟩
  case trips =>
    exact hmade.trips u hm hc hu htr hne (fun k => absurd htr (stateFound_tripped.mp (hf.symm.trans k))) hp
  case wake =>
    subst hlaid
    rw [State.settle_of_rearmed u hst (hmade.rearm hm hc fun _ => hnone)]
    have hd := (w.rearmAll .laidUp).judgeWake_driven
    have hfuel := stateFound_laidUp hf.symm
    have hcont : sameContactors s (w.rearmAll .laidUp) := by
      rw [sameContactors, hr.outputs, hmade.outputs]
      exact ⟨rfl, rfl, hfuel.symm⟩
    refine ⟨State.wakeJudged_close (u := { s with engine := engineFound s .laidUp w.now }) u (by rw [hr.engine, hst])
      (by rw [hr.engine, hmade.engine]) (by rw [hr.sequencer, hmade.sequencer]) hcont,
      by rw [State.close_arbiter, hd.arbiter, hr.arbiter, hmade.arbiter], ?_⟩
    rw [State.close_trips, hd.trips, State.rearmAll_trips, hmade.armingTrips hm hc, hmade.monitor, htr, hnone]
    rfl

end Sys2Proof.Machine
end

section
/-! The evaluation of the threshold channels at a scan, said once for each channel: its place in the list, its counts and
the trips that it begins (R114 to R116, R126). -/

namespace Sys2Proof.Machine

section

variable {s t u x : State} {c d : Channel} {cs : List Channel} {ks : List Lookup} {raw : PerAnalog Int}

/-! ## One channel -/

/-- What a scan compares for a channel: past the threshold in force, for onset or for clearing (R114, R115). -/
def State.pastThreshold (s : State) (c : Channel) : Bool :=
  if s.active c then c.pastClear (s.channelReading c) (s.store.look (s.channelLookup c))
  else c.pastOnset (s.channelReading c) (s.store.look (s.channelLookup c))

/-- Whether a channel stands listed after its evaluation, and its counts (R116). -/
def State.evaluated (s : State) (c : Channel) : Bool × ChannelState :=
  let v := s.channel c
  if v.armed = false then (s.active c, v)
  else if s.active c then
    if s.pastThreshold c then
      if 20 ≤ v.clear + 1 then (false, { v with onset := 0, clear := 0 }) else (true, { v with clear := v.clear + 1 })
    else (true, { v with clear := 0 })
  else if s.pastThreshold c then
    if 3 ≤ v.onset + 1 then (true, { v with onset := 0, clear := 0 }) else (false, { v with onset := v.onset + 1 })
  else (false, { v with onset := 0 })

theorem State.withChannel_self (s : State) (c : Channel) (v : ChannelState) : (s.withChannel c v).channel c = v :=
  PerChannel.get_set_self _ _ _

theorem State.withChannel_other (s : State) (v : ChannelState) (h : d ≠ c) : (s.withChannel c v).channel d = s.channel d :=
  PerChannel.get_set_ne _ _ h

theorem State.clearCondition_self (s : State) (c : Channel) :
    (s.clearCondition c).channel c = { s.channel c with onset := 0, clear := 0 } ∧ (s.clearCondition c).active c = false := by
  refine ⟨PerChannel.get_set_self _ _ _, ?_⟩
  rw [← Bool.not_eq_true, State.active_iff, State.mem_clearCondition]
  simp

theorem State.evaluate_self (s : State) (c : Channel) :
    ((s.evaluate c).active c, (s.evaluate c).channel c) = s.evaluated c := by
  unfold State.evaluate State.evaluated State.pastThreshold
  dsimp only
  have hwith (v : ChannelState) : ((s.withChannel c v).active c, (s.withChannel c v).channel c) = (s.active c, v) :=
    Prod.ext rfl (s.withChannel_self c v)
  by_cases harm : (s.channel c).armed = false
  · rw [if_pos harm, if_pos harm]
  · rw [if_neg harm, if_neg harm]
    cases hact : s.active c with
    | true =>
      simp only [if_true]
      rw [hact] at hwith
      split_ifs
      · rw [(s.clearCondition_self c).1, (s.clearCondition_self c).2]
      · exact hwith _
      · exact hwith _
    | false =>
      simp only [Bool.false_eq_true, if_false]
      rw [hact] at hwith
      split_ifs
      · rw [(State.onset_self hact).1, (State.onset_self hact).2]
      · exact hwith _
      · exact hwith _

/-- The evaluation of another channel leaves a channel's place and counts. -/
theorem State.evaluate_other (s : State) (h : d ≠ c) :
    (s.evaluate c).channel d = s.channel d ∧ (s.evaluate c).active d = s.active d := by
  have honset : (s.onset c).channel d = s.channel d ∧ (s.onset c).active d = s.active d := by
    refine ⟨by rw [State.onset_channel, if_neg fun k => h k.1], ?_⟩
    rw [Bool.eq_iff_iff, State.active_iff, State.active_iff, State.mem_onset]
    simp [h]
  have hclear : (s.clearCondition c).channel d = s.channel d ∧ (s.clearCondition c).active d = s.active d := by
    refine ⟨PerChannel.get_set_ne _ _ h, ?_⟩
    rw [Bool.eq_iff_iff, State.active_iff, State.active_iff, State.mem_clearCondition]
    simp [h]
  have hwith (v : ChannelState) : (s.withChannel c v).channel d = s.channel d ∧ (s.withChannel c v).active d = s.active d :=
    ⟨s.withChannel_other v h, rfl⟩
  unfold State.evaluate
  dsimp only
  split_ifs
  · exact ⟨rfl, rfl⟩
  · exact hclear
  · exact hwith _
  · exact hwith _
  · exact honset
  · exact hwith _
  · exact hwith _

/-- What the evaluation of a channel reads. -/
theorem State.evaluated_congr (hs : t.store = s.store) (hf : t.frontEnd = s.frontEnd) (hc : t.channel c = s.channel c)
    (ha : t.active c = s.active c) : t.evaluated c = s.evaluated c := by
  have hread : t.channelReading c = s.channelReading c := by
    unfold State.channelReading State.reading
    rw [hf]
  have hlook : t.channelLookup c = s.channelLookup c := by
    unfold State.channelLookup
    rw [hf, ha]
  unfold State.evaluated State.pastThreshold
  rw [hc, ha, hread, hlook, hs]

/-! ## All channels of a scan -/

theorem State.foldl_evaluate_not_mem (hc : c ∉ cs) (s : State) :
    (cs.foldl State.evaluate s).channel c = s.channel c ∧ (cs.foldl State.evaluate s).active c = s.active c := by
  induction cs generalizing s with
  | nil => exact ⟨rfl, rfl⟩
  | cons d ds ih =>
    have hne : c ≠ d := fun k => hc (k ▸ List.mem_cons_self)
    obtain ⟨h1, h2⟩ := ih (fun k => hc (List.mem_cons_of_mem _ k)) (s.evaluate d)
    obtain ⟨k1, k2⟩ := s.evaluate_other hne
    exact ⟨h1.trans k1, h2.trans k2⟩

theorem State.foldl_evaluate_mem (hcs : cs.Nodup) (hc : c ∈ cs) (s : State) :
    ((cs.foldl State.evaluate s).active c, (cs.foldl State.evaluate s).channel c) = s.evaluated c := by
  induction cs generalizing s with
  | nil => cases hc
  | cons d ds ih =>
    obtain ⟨hd, hds⟩ := List.nodup_cons.mp hcs
    rw [List.foldl_cons]
    rcases List.mem_cons.mp hc with rfl | hmem
    · obtain ⟨h1, h2⟩ := State.foldl_evaluate_not_mem hd (s.evaluate c)
      rw [h1, h2, State.evaluate_self]
    · have hne : c ≠ d := fun k => hd (k ▸ hmem)
      obtain ⟨k1, k2⟩ := s.evaluate_other hne
      have honly := s.evaluate_only d
      rw [ih hds hmem]
      exact State.evaluated_congr honly.store honly.frontEnd k1 k2

/-! ## The trips of a scan -/

/-- A channel whose onset this scan makes (R116). -/
def State.fires (s : State) (c : Channel) : Bool :=
  (s.channel c).armed && !s.active c && s.pastThreshold c && decide (2 ≤ (s.channel c).onset)

theorem State.evaluate_trips (s : State) (c : Channel) :
    (s.evaluate c).monitor.trips = if s.fires c then s.tripsAfter c else s.monitor.trips := by
  unfold State.evaluate State.fires State.pastThreshold
  dsimp only
  cases harm : (s.channel c).armed with
  | false => simp
  | true =>
    cases hact : s.active c with
    | true =>
      simp only [Bool.true_eq_false, if_false, if_true, Bool.not_true, Bool.and_false, Bool.false_and, Bool.false_eq_true]
      split_ifs <;> rfl
    | false =>
      have honset : (s.onset c).monitor.trips = s.tripsAfter c := by rw [State.onset_trips_eq, hact]; rfl
      have htwo : (3 ≤ (s.channel c).onset + 1) = (2 ≤ (s.channel c).onset) := propext (by omega)
      simp only [Bool.true_eq_false, Bool.false_eq_true, if_false, Bool.not_false, Bool.true_and, htwo, Bool.and_eq_true,
        decide_eq_true_eq]
      by_cases hpast : c.pastOnset (s.channelReading c) (s.store.look (s.channelLookup c)) = true
      · by_cases h2 : 2 ≤ (s.channel c).onset
        · rw [if_pos hpast, if_pos h2, if_pos ⟨hpast, h2⟩, honset]
        · rw [if_pos hpast, if_neg h2, if_neg fun k => h2 k.2]
          rfl
      · rw [if_neg hpast, if_neg fun k => hpast k.1]
        rfl

theorem State.fires_other (s : State) (h : d ≠ c) : (s.evaluate c).fires d = s.fires d := by
  obtain ⟨h1, h2⟩ := s.evaluate_other h
  have honly := s.evaluate_only c
  have hread : (s.evaluate c).channelReading d = s.channelReading d := by
    unfold State.channelReading State.reading
    rw [honly.frontEnd]
  have hlook : (s.evaluate c).channelLookup d = s.channelLookup d := by
    unfold State.channelLookup
    rw [honly.frontEnd, h2]
  unfold State.fires State.pastThreshold
  rw [h1, h2, hread, hlook, honly.store]

/-- A scan at which no TRIP channel has its onset leaves the Trip List. -/
theorem State.foldl_evaluate_trips_quiet (hcs : cs.Nodup) (s : State)
    (h : ∀ c ∈ cs, c.cls = .trip → s.fires c = false) : (cs.foldl State.evaluate s).monitor.trips = s.monitor.trips := by
  induction cs generalizing s with
  | nil => rfl
  | cons d ds ih =>
    obtain ⟨hd, hds⟩ := List.nodup_cons.mp hcs
    have hone : (s.evaluate d).monitor.trips = s.monitor.trips := by
      rw [State.evaluate_trips]
      split
      · rename_i hf
        unfold State.tripsAfter
        rw [if_neg]
        rintro ⟨k, -⟩
        rw [h d List.mem_cons_self k] at hf
        cases hf
      · rfl
    rw [List.foldl_cons, ih hds, hone]
    intro c hc k
    have hne : c ≠ d := fun e => hd (e ▸ hc)
    rw [s.fires_other hne]
    exact h c (List.mem_cons_of_mem _ hc) k

/-- A scan at which one TRIP channel alone has its onset, over an empty Trip List. -/
theorem State.foldl_evaluate_trips_one (hcs : cs.Nodup) (hc : c ∈ cs) (s : State) (hn : s.monitor.trips = [])
    (hcls : c.cls = .trip) (hf : s.fires c = true) (h : ∀ d ∈ cs, d ≠ c → d.cls = .trip → s.fires d = false) :
    (cs.foldl State.evaluate s).monitor.trips = [⟨c, s.engine.state⟩] := by
  induction cs generalizing s with
  | nil => cases hc
  | cons d ds ih =>
    obtain ⟨hd, hds⟩ := List.nodup_cons.mp hcs
    rw [List.foldl_cons]
    by_cases hdc : d = c
    · subst hdc
      have hlisted : s.tripListed d = false := by unfold State.tripListed; rw [hn]; rfl
      have hone : (s.evaluate d).monitor.trips = [⟨d, s.engine.state⟩] := by
        rw [State.evaluate_trips, if_pos hf, State.tripsAfter, if_pos ⟨hcls, hlisted⟩, hn]
        rfl
      rw [State.foldl_evaluate_trips_quiet hds, hone]
      intro e he k
      have hne : e ≠ d := fun q => hd (q ▸ he)
      rw [s.fires_other hne]
      exact h e (List.mem_cons_of_mem _ he) hne k
    · have hmem : c ∈ ds := (List.mem_cons.mp hc).resolve_left (Ne.symm hdc)
      have hquiet : (s.evaluate d).monitor.trips = [] := by
        have hone := State.foldl_evaluate_trips_quiet (List.nodup_singleton d) s fun e he k => by
          rw [List.mem_singleton.mp he] at k ⊢
          exact h d List.mem_cons_self hdc k
        exact hone.trans hn
      have hstate : (s.evaluate d).engine = s.engine := (s.evaluate_only d).engine
      rw [ih hds hmem (s.evaluate d) hquiet (by rw [s.fires_other (Ne.symm hdc)]; exact hf), hstate]
      intro e he hne k
      have hed : e ≠ d := fun q => hd (q ▸ he)
      rw [s.fires_other hed]
      exact h e (List.mem_cons_of_mem _ he) hne k

/-! ## The onset of SCHEDULE_FAULT at a scan -/

theorem State.latchFault_other (s : State) (h : c ≠ .scheduleFault) :
    s.latchFault.channel c = s.channel c ∧ s.latchFault.active c = s.active c := by
  unfold State.latchFault
  split
  · exact ⟨rfl, rfl⟩
  · refine ⟨by rw [State.onset_channel, if_neg fun k => h k.1]; rfl, ?_⟩
    rw [Bool.eq_iff_iff, State.active_iff, State.active_iff, State.mem_onset]
    simp [h]

theorem Channel.thresholds_nodup : Channel.thresholds.Nodup := by decide

theorem Channel.ne_scheduleFault_of_threshold (h : c ∈ Channel.thresholds) : c ≠ .scheduleFault := by
  rintro rfl
  exact absurd h (by decide)

theorem State.scanOnsets_trips (ks : List Lookup) (s : State) :
    (State.scanOnsets ks s).monitor.trips = (Channel.thresholds.foldl State.evaluate s).monitor.trips := by
  unfold State.scanOnsets
  split
  · rw [State.latchFault_trips]
    rfl
  · rfl

theorem State.scanOnsets_evaluated (hc : c ∈ Channel.thresholds) (ks : List Lookup) (s : State) :
    ((State.scanOnsets ks s).active c, (State.scanOnsets ks s).channel c) = s.evaluated c := by
  have hfold := State.foldl_evaluate_mem Channel.thresholds_nodup hc s
  unfold State.scanOnsets
  split
  · obtain ⟨h1, h2⟩ := ((Channel.thresholds.foldl State.evaluate s).marked ks).latchFault_other
      (Channel.ne_scheduleFault_of_threshold hc)
    rw [h1, h2]
    exact hfold
  · exact hfold

theorem State.scanOnsets_armed (ks : List Lookup) (s : State) (c : Channel) :
    ((State.scanOnsets ks s).channel c).armed = (s.channel c).armed := by
  unfold State.scanOnsets
  split
  · exact (State.latchFault_armed _ _).trans (State.foldl_evaluate_armed _ _ _)
  · exact State.foldl_evaluate_armed _ _ _

theorem State.scanOnsets_listed (h : Listed s.monitor) (ha : (s.channel .scheduleFault).armed = true) (ks : List Lookup) :
    Listed (State.scanOnsets ks s).monitor := by
  have hfold : Listed (Channel.thresholds.foldl State.evaluate s).monitor :=
    h.foldl_evaluate fun c hc => Channel.ne_scheduleFault_of_threshold hc
  unfold State.scanOnsets
  split
  · exact Listed.latchFault (s := (Channel.thresholds.foldl State.evaluate s).marked ks) hfold
      ((State.foldl_evaluate_armed _ _ _).trans ha)
  · exact hfold

/-- Two of the threshold channels are of class TRIP. -/
theorem Channel.threshold_trip (hc : c ∈ Channel.thresholds) (h : c.cls = .trip) : c = .overspeed ∨ c = .lubeLow := by
  simp only [Channel.thresholds, List.mem_cons, List.not_mem_nil, or_false] at hc
  rcases hc with rfl | rfl | rfl | rfl | rfl | rfl | rfl <;> first | exact .inl rfl | exact .inr rfl | cases h

end

end Sys2Proof.Machine
end

section
/-! The trips of a scan and of an arming by a measurement (O33). -/

namespace Sys2Proof.Machine

section

variable {s t u w x : State} {c d : Channel} {raw : PerAnalog Int} {st : EngineState}

theorem State.fires_of_early (h : (s.channel c).onset ≤ 1) : s.fires c = false := by
  unfold State.fires
  rw [decide_eq_false (by omega), Bool.and_false]

/-- OVERSPEED's third scan at or above its onset threshold (R114, R116). -/
theorem State.fires_overspeed (ha : (s.channel .overspeed).armed = true) (hn : Channel.overspeed ∉ s.monitor.conditions)
    (h2 : 2 ≤ (s.channel .overspeed).onset) (hp : s.store.look (thresholdLookup 0 0) ≤ s.frontEnd.reported) :
    s.fires .overspeed = true := by
  have hact : s.active .overspeed = false := by rw [← Bool.not_eq_true, State.active_iff]; exact hn
  have hlook : s.channelLookup .overspeed = thresholdLookup 0 0 := by
    unfold State.channelLookup
    rw [hact]
    rfl
  have hpast : s.pastThreshold .overspeed = true := by
    unfold State.pastThreshold
    rw [hact, if_neg (by decide), hlook]
    exact decide_eq_true hp
  unfold State.fires
  rw [ha, hact, hpast, decide_eq_true h2]
  rfl

/-- LUBE_LOW's third scan below the lube minimum of the present speed band (R115, R116). -/
theorem State.fires_lubeLow (ha : (s.channel .lubeLow).armed = true) (hn : Channel.lubeLow ∉ s.monitor.conditions)
    (h2 : 2 ≤ (s.channel .lubeLow).onset)
    (hp : s.reading .lube < s.store.look (lubeLookup (speedBand s.frontEnd.reported))) : s.fires .lubeLow = true := by
  have hact : s.active .lubeLow = false := by rw [← Bool.not_eq_true, State.active_iff]; exact hn
  have hpast : s.pastThreshold .lubeLow = true := by
    unfold State.pastThreshold
    rw [hact, if_neg (by decide)]
    exact decide_eq_true hp
  unfold State.fires
  rw [ha, hact, hpast, decide_eq_true h2]
  rfl

/-- A scan at which one TRIP channel alone has its onset, over an empty Trip List, is a trip by it. -/
theorem MonitorSound.scanTrips (hm : MonitorSound s) (hc : s.engine.awaitingChoice = false)
    (hst : s.engine.state = some st) (hne : st ≠ .tripped) (hn : s.monitor.trips = [])
    (hp : s.entry .protection = Entry.reset) (hmem : c ∈ Channel.thresholds) (hcls : c.cls = .trip)
    (hf : ((s.reach s.frontEnd.nextScan).takeScan raw).fires c = true)
    (hothers : ∀ d : Channel, d = .overspeed ∨ d = .lubeLow → d ≠ c → (s.channel d).onset ≤ 1) :
    TripTaken s ((s.reach s.frontEnd.nextScan).settle true ((s.reach s.frontEnd.nextScan).scanChange raw)) c ∧
      ((s.reach s.frontEnd.nextScan).settle true ((s.reach s.frontEnd.nextScan).scanChange raw)).holder =
        some .protection ∧
      ((s.reach s.frontEnd.nextScan).settle true ((s.reach s.frontEnd.nextScan).scanChange raw)).authorityNotch = 0 := by
  have hchange : (s.reach s.frontEnd.nextScan).scanChange raw =
      ((s.reach s.frontEnd.nextScan).takeScan raw).monitorScan.lubeComparison := rfl
  have hb : (s.reach s.frontEnd.nextScan).engine = s.engine := rfl
  rw [hchange]
  generalize hx : (s.reach s.frontEnd.nextScan).takeScan raw = x at hf ⊢
  have hsame : x.engine = s.engine ∧ x.sequencer = s.sequencer ∧ x.arbiter = s.arbiter ∧ x.monitor = s.monitor := by
    rw [← hx]
    exact ⟨rfl, rfl, rfl, rfl⟩
  obtain ⟨heng, hseq, harb, hmon⟩ := hsame
  generalize s.reach s.frontEnd.nextScan = u at hb ⊢
  have hchan (d : Channel) : x.channel d = s.channel d := by unfold State.channel; rw [hmon]
  have honly := State.scanOnsets_only x x.scanLookups
  have htrips : (State.scanOnsets x.scanLookups x).monitor.trips = [⟨c, some st⟩] := by
    rw [State.scanOnsets_trips, State.foldl_evaluate_trips_one Channel.thresholds_nodup hmem x (by rw [hmon, hn]) hcls hf,
      heng, hst]
    intro d hd hdc k
    exact State.fires_of_early (by rw [hchan]; exact hothers d (Channel.threshold_trip hd k) hdc)
  have hscan : x.monitorScan = (State.scanOnsets x.scanLookups x).deliverTrip := by
    rw [State.monitorScan_eq]
    unfold State.withTrip
    exact if_pos ⟨by rw [hmon, hn], by rw [htrips]; simp⟩
  have hlisted := State.scanOnsets_listed (s := x) (hmon ▸ hm.watched.listed)
    (by rw [hchan, hm.armed_eq hc hst]; rfl) x.scanLookups
  have harmed (d : Channel) : ((State.scanOnsets x.scanLookups x).channel d).armed = d.armedIn st := by
    rw [State.scanOnsets_armed, hchan, hm.armed_eq hc hst]
  generalize State.scanOnsets x.scanLookups x = v at *
  have hveng : v.engine = s.engine := by rw [honly]; exact heng
  have hbegun : TripBegun s v [c] :=
    { engine := hveng
      record := by rw [honly]; exact congrArg Sequencer.record hseq
      arbiter := by rw [honly]; exact harb
      chosen := hc
      untripped := by rw [hst]; simpa using hne
      protection := hp
      trips := by rw [htrips, hst]; rfl
      begun := by simp
      listed := hlisted.armed
      armed := ⟨st, harmed⟩ }
  obtain ⟨hvmon, hto, haw⟩ := v.deliverTrip_stands
  have hlube : v.deliverTrip.lubeComparison = v.deliverTrip := by
    unfold State.lubeComparison
    rw [if_neg fun k => by rw [hto] at k; cases k.1]
  rw [hscan, hlube, State.settle_of_delivered u true hto (by rw [haw, hveng, hc]) (by rw [hvmon, htrips]; simp)]
  obtain ⟨h1, h2, h3, -⟩ := hbegun.taken (before := u) (.inl (by rw [hb, hst]; simpa using hne))
  exact ⟨h1, h2, h3⟩

end

/-- Settles O33: the two scans, and the arming of CRANKCASE by the sixth firing measurement. -/
theorem thirdOverspeedScanTrips : Obligations.ThirdOverspeedScanTrips := by
  intro raw st s hl hc hst hm hn hp
  refine ⟨fun hturn h2 hun hlube hover => ?overspeed, fun hkind h2 hun hover hlube => ?lubeLow, fun hcrank hf h5 => ?crankcase⟩
  case overspeed =>
    refine ⟨_, exec_sensorScan raw hl, hm.scanTrips hc hst (by rintro rfl; cases hturn) hn hp (by decide) rfl ?_ ?_⟩
    · exact State.fires_overspeed ((hm.armed_eq hc hst _).trans hturn) hun (by
        show 2 ≤ (s.channel .overspeed).onset
        omega) hover
    · rintro d (rfl | rfl) hne
      · exact absurd rfl hne
      · exact hlube
  case lubeLow =>
    have harm : Channel.lubeLow.armedIn st = true := by rcases hkind with rfl | rfl | rfl <;> rfl
    refine ⟨_, exec_sensorScan raw hl, hm.scanTrips hc hst (by rintro rfl; cases harm) hn hp (by decide) rfl ?_ ?_⟩
    · exact State.fires_lubeLow ((hm.armed_eq hc hst _).trans harm) hun (by
        show 2 ≤ (s.channel .lubeLow).onset
        omega) hlube
    · rintro d (rfl | rfl) hne
      · exact hover
      · exact absurd rfl hne
  case crankcase =>
    subst hcrank
    have hunarmed : ((s.reach s.frontEnd.nextMeasurement).channel .speedSignal).armed = false := hm.armed_eq hc hst _
    have hexec := exec_speedMeasurement hl
    have hfr := State.settle_measurement_frame (s.reach s.frontEnd.nextMeasurement) (s.reach s.frontEnd.nextMeasurement)
      s.engine.awaitingChoice
    refine ⟨_, hexec, fun hq h160 => ?_⟩
    rw [hfr.frontEnd] at hq h160
    have hchange : (s.reach s.frontEnd.nextMeasurement).measurementChange =
        (s.reach s.frontEnd.nextMeasurement).measure.raisePeak.enterCatch := by
      have hcrank : (s.reach s.frontEnd.nextMeasurement).measure.takeMeasurement
          (s.reach s.frontEnd.nextMeasurement).frontEnd.quality =
          (s.reach s.frontEnd.nextMeasurement).measure.crankMeasurement
            (s.reach s.frontEnd.nextMeasurement).frontEnd.quality := by
        unfold State.takeMeasurement
        rw [show (s.reach s.frontEnd.nextMeasurement).measure.engine = s.engine from rfl, hc, hst]
        rfl
      rw [State.measurementChange_of_unarmed hunarmed, hcrank, State.crankMeasurement_good hq, if_pos h160, if_pos]
      show 6 ≤ s.sequencer.run.getD 0 + 1
      omega
    rw [hchange, hc]
    have hd : Driven (s.reach s.frontEnd.nextMeasurement).measure
        (s.reach s.frontEnd.nextMeasurement).measure.raisePeak.enterCatch := (Driven.refl _).raisePeak.enterCatch
    obtain ⟨keng, kseq, -⟩ := State.enterCatch_start (s.reach s.frontEnd.nextMeasurement).measure.raisePeak
    obtain ⟨h1, h2, h3, -⟩ := hd.crankcaseTrips (s.reach s.frontEnd.nextMeasurement) (a := .starting .crank)
      (st := .starting .catching) (x := { s with
        engine := { s.engine with state := some (.starting .catching) }
        sequencer := { s.sequencer with
          record := s.sequencer.record.map fun r => { r with furthest := r.furthest.later .catching } } })
      (hm.watched.of_same rfl rfl) hc (hm.armed_eq hc hst) rfl (by rw [keng]) rfl (by rw [State.measure_filtered]; exact hf) hn hp
      (by rw [show (s.reach s.frontEnd.nextMeasurement).engine = s.engine from rfl, hst]; decide) (by rw [keng]; rfl)
      (by rw [kseq]; rfl) rfl
    exact ⟨h1, h2, h3⟩

end Sys2Proof.Machine
end

section
/-! A scan counted, and what it makes of a WARM and of a laid-up engine (O32). -/

namespace Sys2Proof.Machine

section

variable {before s t v w x : State} {st a : EngineState} {c : Channel} {raw : PerAnalog Int}

/-! ## The scan of a sound Monitor -/

/-- A scan `v` of the state `s` in which no trip begins; `x` is `s` with the readings of that scan. -/
structure Scanned (s : State) (st : EngineState) (x v : State) : Prop where
  engine : v.engine = s.engine
  sequencer : v.sequencer = s.sequencer
  arbiter : v.arbiter = s.arbiter
  outputs : v.outputs = s.outputs
  frontEnd : v.frontEnd = x.frontEnd
  sensed : x.frontEnd = { s.frontEnd with
    scan := x.frontEnd.scan, clamped := x.frontEnd.clamped, nextScan := x.frontEnd.nextScan }
  store : x.store = s.store
  monitor : x.monitor = s.monitor
  armed : ∀ c : Channel, (v.channel c).armed = c.armedIn st
  evaluated : ∀ c ∈ Channel.thresholds, (v.active c, v.channel c) = x.evaluated c
  trips : s.monitor.trips = [] → v.monitor.trips = []

/-- A scan with an empty Trip List begins no trip where neither trip channel is at its second onset count (R116, R127). -/
theorem MonitorSound.scanned (hm : MonitorSound s) (hc : s.engine.awaitingChoice = false) (hst : s.engine.state = some st)
    (hearly : s.monitor.trips = [] → (s.channel .overspeed).onset ≤ 1 ∧ (s.channel .lubeLow).onset ≤ 1)
    (raw : PerAnalog Int) (e : Nat) :
    Scanned s st ((s.reach e).takeScan raw) ((s.reach e).takeScan raw).monitorScan := by
  have hmon : ((s.reach e).takeScan raw).monitor = s.monitor := rfl
  have hsame : ((s.reach e).takeScan raw).engine = s.engine ∧ ((s.reach e).takeScan raw).sequencer = s.sequencer ∧
      ((s.reach e).takeScan raw).arbiter = s.arbiter ∧ ((s.reach e).takeScan raw).outputs = s.outputs ∧
      ((s.reach e).takeScan raw).store = s.store := ⟨rfl, rfl, rfl, rfl, rfl⟩
  obtain ⟨heng, hseq, harb, hout, hstore⟩ := hsame
  have hsensed : ((s.reach e).takeScan raw).frontEnd = { s.frontEnd with
      scan := ((s.reach e).takeScan raw).frontEnd.scan
      clamped := ((s.reach e).takeScan raw).frontEnd.clamped
      nextScan := ((s.reach e).takeScan raw).frontEnd.nextScan } := rfl
  generalize (s.reach e).takeScan raw = x at *
  have hchan (c : Channel) : x.channel c = s.channel c := by unfold State.channel; rw [hmon]
  have honly := State.scanOnsets_only x x.scanLookups
  have hempty (hn : s.monitor.trips = []) : (State.scanOnsets x.scanLookups x).monitor.trips = [] := by
    obtain ⟨hover, hlube⟩ := hearly hn
    rw [State.scanOnsets_trips, State.foldl_evaluate_trips_quiet Channel.thresholds_nodup, hmon, hn]
    intro c hmem hcls
    apply State.fires_of_early
    rw [hchan]
    rcases Channel.threshold_trip hmem hcls with rfl | rfl
    · exact hover
    · exact hlube
  have hscan : x.monitorScan = State.scanOnsets x.scanLookups x := by
    rw [State.monitorScan_eq, State.withTrip_quiet]
    by_cases hn : s.monitor.trips = []
    · exact .inr (hempty hn)
    · exact .inl (hmon.symm ▸ hn)
  rw [hscan]
  exact
    { engine := by rw [honly, heng]
      sequencer := by rw [honly, hseq]
      arbiter := by rw [honly, harb]
      outputs := by rw [honly, hout]
      frontEnd := by rw [honly]
      sensed := hsensed
      store := hstore
      monitor := hmon
      armed := fun c => by rw [State.scanOnsets_armed, hchan, hm.armed_eq hc hst]
      evaluated := fun c hmem => State.scanOnsets_evaluated hmem _ x
      trips := hempty }

/-! ## The count of one channel -/

/-- R116's table, read off the evaluation of an armed channel. -/
theorem scanOutcome_of_evaluated (hm : x.monitor = s.monitor) (harm : (s.channel c).armed = true)
    (h : (t.active c, t.channel c) = x.evaluated c) : scanOutcome s t c (x.pastThreshold c) := by
  have hchan : x.channel c = s.channel c := by unfold State.channel; rw [hm]
  have hact : x.active c = s.active c := by unfold State.active; rw [hm]
  have hclear : 20 ≤ (s.channel c).clear + 1 ↔ 19 ≤ (s.channel c).clear := by omega
  have honset : 3 ≤ (s.channel c).onset + 1 ↔ 2 ≤ (s.channel c).onset := by omega
  unfold State.evaluated at h
  rw [hchan, hact] at h
  simp only [harm, Bool.true_eq_false, if_false, hclear, honset] at h
  unfold scanOutcome listedFresh
  simp only [← State.active_iff]
  split_ifs at h ⊢ <;> obtain ⟨ht, hv⟩ := Prod.mk.inj h <;> simp [ht, hv]

/-- What a close keeps of a scan: the lists and the counts of the channels that stood armed. -/
structure ScanKept (v t : State) : Prop where
  armed : ∀ c : Channel, (v.channel c).armed = true → t.active c = v.active c ∧ t.channel c = v.channel c
  trips : t.monitor.trips = v.monitor.trips
  arbiter : t.arbiter = v.arbiter
  frontEnd : t.frontEnd = v.frontEnd

theorem ScanKept.of_close (before : State) (hm : sameMonitor v w) (ha : w.arbiter = v.arbiter)
    (hf : w.frontEnd = v.frontEnd) : ScanKept v (before.close w) where
  armed c _ := by
    refine ⟨?_, ?_⟩
    · rw [Bool.eq_iff_iff, State.active_iff, State.active_iff, State.close_conditions, mem_inChannelOrder, hm]
    · rw [State.close_channel]
      unfold State.channel
      rw [hm]
  trips := by rw [State.close_trips, hm]
  arbiter := by rw [State.close_arbiter, ha]
  frontEnd := by rw [State.close_frontEnd, hf]

/-- A change of state that takes no channel out of arming leaves every armed channel its place and its counts (R122). -/
theorem ScanKept.of_settled (hd : Driven v w) (h : Settled before w st t)
    (harmed : ∀ c : Channel, (v.channel c).armed = true → c.armedIn st = true) : ScanKept v t where
  armed c hc := by
    have hchan : w.channel c = v.channel c := hd.channel c
    have hover : w.armsOver st c = false := by
      unfold State.armsOver
      rw [hchan, hc]
      simp
    refine ⟨?_, ?_⟩
    · rw [Bool.eq_iff_iff, State.active_iff, State.active_iff, h.listed, hover, hd.conditions]
      simp [harmed c hc]
    · rw [h.channel, State.channelRearmed, hchan, hc, if_pos (harmed c hc)]
  trips := h.trips.trans hd.trips
  arbiter := h.arbiter.trans hd.arbiter
  frontEnd := h.frame.frontEnd.trans hd.frame.frontEnd

/-- The threshold in force is that of the place the channel had before the scan; the reading is the scan's (R113, R116). -/
theorem Scanned.past (h : Scanned s st x v) (hf : t.frontEnd = v.frontEnd) (c : Channel) :
    x.pastThreshold c =
      if c ∈ s.monitor.conditions then c.pastClear (t.channelReading c) (s.store.look (s.channelLookup c))
      else c.pastOnset (t.channelReading c) (s.store.look (s.channelLookup c)) := by
  have hact : x.active c = s.active c := by unfold State.active; rw [h.monitor]
  have hread : x.channelReading c = t.channelReading c := by
    unfold State.channelReading State.reading
    rw [hf, h.frontEnd]
  have hlook : x.channelLookup c = s.channelLookup c := by
    unfold State.channelLookup
    rw [hact, show x.frontEnd.reported = s.frontEnd.reported by rw [h.sensed]]
  unfold State.pastThreshold
  rw [hact, hread, hlook, h.store]
  exact if_congr State.active_iff rfl rfl

/-- The outcome of the scan for every armed threshold channel, after a close that keeps it. -/
theorem Scanned.outcome (h : Scanned s st x v) (hk : ScanKept v t) (hmem : c ∈ Channel.thresholds)
    (harm : (s.channel c).armed = true) (hst : (s.channel c).armed = c.armedIn st) : scanOutcome s t c
      (if c ∈ s.monitor.conditions then c.pastClear (t.channelReading c) (s.store.look (s.channelLookup c))
        else c.pastOnset (t.channelReading c) (s.store.look (s.channelLookup c))) := by
  obtain ⟨hact, hchan⟩ := hk.armed c (by rw [h.armed, ← hst, harm])
  rw [← h.past hk.frontEnd]
  exact scanOutcome_of_evaluated h.monitor harm (by rw [hact, hchan]; exact h.evaluated c hmem)

/-! ## WARM and LAID_UP at a scan -/

theorem State.lubeComparison_unseen (h : ¬ (s.engine.state = some (.starting .warm) ∧ s.sequencer.lubeSeen = some false ∧
    (s.sequencer.lubeMinimum.getD 0 : Int) ≤ s.reading .lube)) : s.lubeComparison = s := if_neg h

/-- The state in which a scan has seen the lube and the warm timer runs (R70). -/
def State.lubeFound (s : State) : State :=
  { s with sequencer := { s.sequencer with
      lubeSeen := some true, timer := some (s.now + s.sequencer.warmTime.getD 0 * 1000) } }

theorem State.lubeComparison_seen (h1 : s.engine.state = some (.starting .warm)) (h2 : s.sequencer.lubeSeen = some false)
    (h3 : (s.sequencer.lubeMinimum.getD 0 : Int) ≤ s.reading .lube) :
    s.lubeComparison = if s.sequencer.warmTime.getD 0 = 0 then s.lubeFound.endStart .runningReached else s.lubeFound := by
  have hcheck : s.lubeFound.warmCheck = s.lubeFound.endStart .runningReached := if_pos h3
  rw [← hcheck]
  exact if_pos ⟨h1, h2, h3⟩

theorem Channel.armedIn_running_or_isolated (c : Channel) (b : Bool) :
    c.armedIn (if b then .isolated else .running) = true := by
  cases b
  · exact c.armedIn_running
  · exact c.armedIn_isolated

/-- A warm time of 0 s: the scan that sees the lube ends the start in running (R70, R72). -/
theorem Scanned.warmReached (h : Scanned s (.starting .warm) x v) (before : State)
    (hc : s.engine.awaitingChoice = false) :
    let t := before.settle true (v.lubeFound.endStart .runningReached)
    ScanKept v t ∧
    t.sequencer = { s.sequencer.idle with
      record := s.sequencer.record.map fun r => { r with outcome := .runningReached } } ∧
    t.engine = { s.engine with
      state := some (if s.engine.isolateFlag || s.filtered .isolateSwitch then .isolated else .running) } ∧
    t.outputs.starter = false ∧ t.outputs.prelube = false ∧ t.outputs.fuelRun = true := by
  intro t
  have hd : Driven v (v.lubeFound.endStart .runningReached) := ((Driven.refl v).withSequencer _).endStart _
  have hw : v.lubeFound.endStart .runningReached = (v.lubeFound.closeStart .runningReached).enterRunning := rfl
  obtain ⟨b, hb⟩ : ∃ b : Bool, (v.lubeFound.endStart .runningReached).engine.state =
      some (if b then .isolated else .running) :=
    ⟨(v.lubeFound.closeStart .runningReached).isolationInForce, by rw [hw, State.enterRunning_engine]⟩
  have hset : Settled before _ _ t := State.settled_of_quiet before true hb (by rw [hd.awaiting, h.engine, hc])
    (State.quietArming_of (a := .starting .warm) (fun c => by rw [hd.channel, h.armed]) fun _ => .inl rfl)
    (.inl (by cases b <;> decide))
  obtain ⟨hseq, heng, hout⟩ := hset.startReached
  have hfil : v.lubeFound.filtered .isolateSwitch = s.filtered .isolateSwitch := by
    unfold State.filtered
    rw [show v.lubeFound.frontEnd = x.frontEnd from h.frontEnd, h.sensed]
  refine ⟨.of_settled hd hset fun c _ => c.armedIn_running_or_isolated b, ?_, ?_, hout⟩
  · rw [hseq, State.lubeFound, h.sequencer]
    rfl
  · rw [heng, hfil, show v.lubeFound.engine = s.engine from h.engine]

end

/-- Settles O32, by what the scan makes of the engine: nothing, the lube seen, the end of WARM, or the wake watch. -/
theorem scanCountsPersistence : Obligations.ScanCountsPersistence := by
  intro raw st s hl hst hc hm hearly
  have hscan := hm.scanned hc hst hearly raw s.frontEnd.nextScan
  have hexec := exec_sensorScan raw hl
  have hchange : (s.reach s.frontEnd.nextScan).scanChange raw =
      ((s.reach s.frontEnd.nextScan).takeScan raw).monitorScan.lubeComparison := rfl
  have hfr := State.settle_scan_frame (s.reach s.frontEnd.nextScan) (s.reach s.frontEnd.nextScan) true raw
  rw [hchange] at hexec hfr
  generalize ((s.reach s.frontEnd.nextScan).takeScan raw).monitorScan = v at *
  generalize (s.reach s.frontEnd.nextScan).takeScan raw = x at *
  generalize s.reach s.frontEnd.nextScan = u at *
  have harmed : v.engine.awaitingChoice = false → v.armsAgree := fun _ =>
    State.armsAgree_of (hscan.engine ▸ hst) hscan.armed
  have hreading (t : State) (hf : Frame x t) : t.reading .lube = v.reading .lube := by
    unfold State.reading
    rw [hf.frontEnd, hscan.frontEnd]
  have counted (t : State) (hk : ScanKept v t) (c : Channel) (hmem : c ∈ Channel.thresholds)
      (harm : (s.channel c).armed = true) := hscan.outcome hk hmem harm (hm.armed_eq hc hst c)
  have empty (t : State) (hk : ScanKept v t) (hn : s.monitor.trips = []) : t.monitor.trips = [] :=
    hk.trips.trans (hscan.trips hn)
  refine ⟨_, hexec, ?_⟩
  by_cases hseen : st = .starting .warm ∧ s.sequencer.lubeSeen = some false ∧
      (s.sequencer.lubeMinimum.getD 0 : Int) ≤ v.reading .lube
  · obtain ⟨rfl, hsee, hmin⟩ := hseen
    rw [State.lubeComparison_seen (hscan.engine ▸ hst) (hscan.sequencer ▸ hsee) (hscan.sequencer ▸ hmin)] at hfr ⊢
    rw [hscan.sequencer] at hfr ⊢
    have hd : Driven v v.lubeFound := (Driven.refl v).withSequencer _
    have hlubed : v.lubeFound.engine.state = some (.starting .warm) := hscan.engine ▸ hst
    by_cases hz : s.sequencer.warmTime.getD 0 = 0
    · rw [if_pos hz] at hfr ⊢
      have hset := hscan.warmReached u hc
      generalize u.settle true (v.lubeFound.endStart .runningReached) = t at *
      obtain ⟨hk, hseq, heng, hout⟩ := hset
      refine ⟨counted _ hk, fun h => absurd rfl h, empty _ hk, hk.arbiter.trans hscan.arbiter, fun _ h => ?_,
        fun _ _ _ h => absurd h (by omega), fun _ _ _ _ => ⟨heng, hseq, hout⟩, nofun⟩
      rcases h with h | h
      · exact absurd hsee h
      · exact absurd h (not_lt.mpr (hreading t hfr ▸ hmin))
    · rw [if_neg hz] at hfr ⊢
      rw [State.settle_of_standing (s := v.lubeFound) u true (by exact harmed), if_pos (.inl rfl),
        State.judgeWake_of_not_laidUp (by rw [hlubed]; decide)] at hfr ⊢
      have hk : ScanKept v (u.close v.lubeFound) := .of_close u hd.monitor hd.arbiter hd.frame.frontEnd
      have heng : (u.close v.lubeFound).engine = s.engine := (u.close_engine _).trans hscan.engine
      refine ⟨counted _ hk, fun h => absurd rfl h, empty _ hk, hk.arbiter.trans hscan.arbiter, fun _ h => ?_,
        fun _ _ _ _ => ⟨heng, ?_⟩, fun _ _ _ h => absurd h hz, nofun⟩
      · rcases h with h | h
        · exact absurd hsee h
        · exact absurd h (not_lt.mpr (hreading _ hfr ▸ hmin))
      · rw [State.close_sequencer, State.close_now, State.lubeFound, hscan.sequencer]
  · rw [State.lubeComparison_unseen (by rw [hscan.engine, hst, hscan.sequencer]; simpa using hseen)] at hfr ⊢
    rw [State.settle_of_standing u true harmed, if_pos (.inl rfl)] at hfr ⊢
    have hd := v.judgeWake_driven
    have hk : ScanKept v (u.close v.judgeWake) := .of_close u hd.monitor hd.arbiter hd.frame.frontEnd
    have hstands (hne : st ≠ .laidUp) : (u.close v.judgeWake).engine = s.engine ∧
        (u.close v.judgeWake).sequencer = s.sequencer := by
      rw [State.judgeWake_of_not_laidUp (by rw [hscan.engine, hst]; simpa using hne), State.close_engine,
        State.close_sequencer]
      exact ⟨hscan.engine, hscan.sequencer⟩
    have hwarm (h : st = .starting .warm) : st ≠ .laidUp := by rw [h]; decide
    refine ⟨counted _ hk, fun _ => hstands, empty _ hk, hk.arbiter.trans hscan.arbiter, fun h _ => hstands (hwarm h),
      fun h hsee hmin _ => absurd ⟨h, hsee, hreading _ hfr ▸ hmin⟩ hseen,
      fun h hsee hmin _ => absurd ⟨h, hsee, hreading _ hfr ▸ hmin⟩ hseen, fun h => ?_⟩
    exact State.wakeJudged_close u (by rw [hscan.engine, hst, h]) hscan.engine hscan.sequencer
      (by rw [sameContactors, hscan.outputs]; exact ⟨rfl, rfl, rfl⟩)

end Sys2Proof.Machine
end
